-- ==== Sys2Proof/Word.lean ====
section
/-! DEFINITION. The word and byte types of the block: every register is 32 bits wide (R15). -/

namespace Sys2Proof

/-- A register word (R15: all registers are 32 bits wide, naturally aligned and little-endian). -/
abbrev Word := BitVec 32

/-- A byte of a packet, an image or a memory. -/
abbrev Byte := BitVec 8

end Sys2Proof
end

