-- ==== Sys2Proof/Syntax.lean ====
section
/-! DEFINITION. The commands of the block: one constructor of `Instr` per row of the command table, with the operands
its rule names. What arrives from outside the registers (a packet, a burst, a message, the outcome of a self-test) is an
operand of the command that brings it. -/

namespace Sys2Proof

/-- A PTP message as the port delivers it: a Sync with the source time it carries (2^-16 ns since the PTP epoch), an
Announce with the grandmaster data, a change of port state, or a mean path delay (R324, R325). -/
inductive PtpMsg where
  | sync (src : Nat)
  | announce (gm : BitVec 64) (priorities steps : Nat) (utc : Int)
  | portState (st : Nat)
  | pathDelay (ns : Int)
  deriving DecidableEq, Repr

/-- The hard-deadline domains of R211. -/
inductive Domain where
  | blockMix
  | fgMix (micro : Nat)
  | output (j : Nat)
  deriving DecidableEq, Repr

/-- The FIFO crossings of R515 that the block has a side of. -/
inductive Crossing where
  | net (p : Nat)
  | cas (p : Nat)
  | tdm (n : Nat)
  deriving DecidableEq, Repr

/-- What a register write is sent to: a BAR0 offset (R489), or the MSI-X Message Control of configuration space (R501). -/
inductive RegTarget where
  | bar0 (off : Nat)
  | msixControl
  deriving DecidableEq, Repr

/-- A tunnel request that waits (R369): where it came from and its bytes. -/
structure TunnelRequest where
  port : Nat
  src : Nat
  sport : Nat
  tcp : Bool
  bytes : List Byte
  deriving DecidableEq, Repr

/-- Where an access is sent: BAR0 and BAR2 offsets of the host, or a fabric address (R438, R439, R441). -/
inductive BusAddr where
  | bar0 (off : Nat)
  | bar2 (off : Nat)
  | fabric (a : Nat)
  deriving DecidableEq, Repr

/-- A burst (R445): its master, tag and address, whether it writes, the bytes (none where the strobe is clear), and the
uncorrectable and corrected 32-byte blocks its read meets (R451). -/
structure Burst where
  master : Nat
  tag : Nat := 0
  addr : BusAddr
  write : Bool
  /-- Bytes written. -/
  data : List (Option Byte) := []
  /-- Bytes read. -/
  len : Nat := 0
  /-- Nanoseconds the request waited at its DRAM channel (R449). -/
  waited : Nat := 0
  corrected : List Nat := []
  uncorrected : List Nat := []
  deriving DecidableEq, Repr

/-- The commands (the command table of the manual). -/
inductive Instr where
  /-- REGISTER_WRITE, R17. -/
  | registerWrite (t : RegTarget) (v : Word)
  /-- LO_READ_LATCH, R16. -/
  | loReadLatch (off : Nat)
  /-- ABSENT_UNIT_ACCESS, R9. -/
  | absentUnitAccess (off : Nat) (w : Option Word)
  /-- ABSENT_CLEAR, R11. -/
  | absentClear (same : Option Nat)
  /-- PARTIAL_WRITE_DISCARD, R487. -/
  | partialWriteDiscard
  /-- SAMPLE_TICK, R321. -/
  | sampleTick (bits : List (Nat × List Bool))
  /-- BLOCK_START, R321. -/
  | blockStart
  /-- METADATA_CUTOFF, R109. -/
  | metadataCutoff
  /-- FOREGROUND_CUTOFF, R180. -/
  | foregroundCutoff
  /-- PAT_LOAD, R66. -/
  | patLoad
  /-- PAT_VERIFY_DONE, R71. -/
  | patVerifyDone (bad : Option Nat)
  /-- PAT_COMMIT, R69. -/
  | patCommit
  /-- PAT_BIND_OFF, R310. -/
  | patBindOff
  /-- PAT_DISCARD, R66. -/
  | patDiscard
  /-- PAT_ABORT, R66. -/
  | patAbort
  /-- PAT_CMD_REFUSED, R66. -/
  | patCmdRefused (op : Nat)
  /-- KEY_REVOKE, R63. -/
  | keyRevoke (v : Word)
  /-- CROSSFADE_RETIRE, R305. -/
  | crossfadeRetire (region : Nat)
  /-- HARD_SWITCH_RETIRE, R306. -/
  | hardSwitchRetire (region : Nat)
  /-- BIND_OFF_RETIRE, R311. -/
  | bindOffRetire (region : Nat)
  /-- COND_APPLY, R85. -/
  | condApply
  /-- COND_CLEAR_COUNTS, R93. -/
  | condClearCounts
  /-- COND_RELEASE_PAGES, R84. -/
  | condReleasePages
  /-- PHASE_DELAY_WRITE, R84. -/
  | phaseDelayWrite (n : Nat) (v : Word)
  /-- DELAY_PAGE_GRANT, R84. -/
  | delayPageGrant (n : Nat)
  /-- DELAY_LINE_FILLED, R84. -/
  | delayLineFilled (n : Nat)
  /-- TRACK_LOCK_TIMER, R81. -/
  | trackLockTimer (n : Nat)
  /-- MDEC_WRITE, R90. -/
  | mdecWrite (m : Nat) (v : Word)
  /-- FOM_PACKET, R100. -/
  | fomPacket (src port sub : Nat) (bytes : List Byte)
  /-- OSC_PACKET, R104. -/
  | oscPacket (sub : Nat) (bytes : List Byte)
  /-- OMD_APPLY, R120. -/
  | omdApply
  /-- OMD_CLEAR_COUNTS, R122. -/
  | omdClearCounts
  /-- FLUSH_ALL, R122. -/
  | flushAll
  /-- RESET_SENDERS, R102. -/
  | resetSenders
  /-- M_PUSH, R121. -/
  | mPush (n : Nat)
  /-- RNDR_CLEAR_COUNTS, R153. -/
  | rndrClearCounts
  /-- TOL_GAIN_WRITE, R149. -/
  | tolGainWrite (v : Word)
  /-- TILE_CLEAR_COUNTS, R155. -/
  | tileClearCounts (p : Nat)
  /-- TILE_FENCE, R314. -/
  | tileFence (p : Nat)
  /-- TILE_KAT_NOW, R313. -/
  | tileKatNow (p : Nat)
  /-- TILE_KAT_TIMER, R313. -/
  | tileKatTimer (p : Nat)
  /-- TILE_KAT_DONE, R313. -/
  | tileKatDone (p : Nat) (passed : Bool)
  /-- TILE_PARITY_ERROR, R314. -/
  | tileParityError (p : Nat)
  /-- SPARE_REFILL_DONE, R317. -/
  | spareRefillDone (p : Nat)
  /-- SKEIN_CLEAR_COUNTS, R176. -/
  | skeinClearCounts
  /-- WIN_SEL_WRITE, R176. -/
  | winSelWrite (v : Word)
  /-- BORROW_LIMIT_WRITE, R163. -/
  | borrowLimitWrite (v : Word)
  /-- PAGE_IN_DONE, R173. -/
  | pageInDone (channel page : Nat) (zeros : List Nat)
  /-- NDL_CLEAR_COUNTS, R191. -/
  | ndlClearCounts (h : Nat)
  /-- NDL_FENCE, R190. -/
  | ndlFence (h : Nat)
  /-- NDL_KAT_NOW, R191. -/
  | ndlKatNow (h : Nat)
  /-- NDL_KAT_TIMER, R190. -/
  | ndlKatTimer (h : Nat) (passed : Bool)
  /-- NDL_FAULT, R190. -/
  | ndlFault (h : Nat) (parity : Bool)
  /-- MICRO_BLOCK, R183. -/
  | microBlock (claims : List (List Nat)) (late : List Nat)
  /-- SCHED_CLEAR_COUNTS, R216. -/
  | schedClearCounts
  /-- INSTANCE_READY, R195. -/
  | instanceReady (u : Nat)
  /-- INSTANCE_DISPATCH, R196. -/
  | instanceDispatch (cls tile : Nat)
  /-- INSTANCE_COMPLETE, R201. -/
  | instanceComplete (u : Nat)
  /-- INSTANCE_CANCEL, R203. -/
  | instanceCancel (u : Nat) (made : Bool)
  /-- SPILL_REFILL, R209. -/
  | spillRefill (cls tile : Nat)
  /-- READY_RETRY, R209. -/
  | readyRetry (u : Nat)
  /-- HARD_DEADLINE_MISS, R211. -/
  | hardDeadlineMiss (d : Domain)
  /-- XP_APPLY, R226. -/
  | xpApply
  /-- XP_CLEAR_COUNTS, R235. -/
  | xpClearCounts
  /-- NODE_RAMP_END, R227. -/
  | nodeRampEnd (off : Nat)
  /-- OUTPUT_MICRO_BLOCK, R237. -/
  | outputMicroBlock
  /-- OUTS_APPLY, R262. -/
  | outsApply
  /-- OUTS_CLEAR_COUNTS, R264. -/
  | outsClearCounts
  /-- PREPARE, R250. -/
  | prepare
  /-- PREPARE_DONE, R250. -/
  | prepareDone (ok : Bool)
  /-- SWAP, R251. -/
  | swap
  /-- DISCARD, R252. -/
  | discard
  /-- FILTER_XFADE_END, R251. -/
  | filterXfadeEnd (j : Nat)
  /-- SPK_CLEAR_COUNTS, R267. -/
  | spkClearCounts (j : Nat)
  /-- GAUGE_APPLY, R271. -/
  | gaugeApply
  /-- GAUGE_CLEAR_COUNTS, R295. -/
  | gaugeClearCounts
  /-- BASELINE, R284. -/
  | baseline
  /-- RESTART_SWEEP, R278. -/
  | restartSweep
  /-- CLEAR_MUTE, R287. -/
  | clearMute (j : Nat)
  /-- CLEAR_INVERT, R287. -/
  | clearInvert (j : Nat)
  /-- MEAS_CLEAR_COUNTS, R297. -/
  | measClearCounts (m : Nat)
  /-- PILOT_PERIOD_START, R278. -/
  | pilotPeriodStart
  /-- CORRELATION_JOB_DONE, R279. -/
  | correlationJobDone (k : Nat)
  /-- OVERRIDE_HOLD_END, R294. -/
  | overrideHoldEnd (j : Nat)
  /-- STEP_ACCEPT, R329. -/
  | stepAccept
  /-- SLEW, R330. -/
  | slew
  /-- SET_TOD, R327. -/
  | setTod
  /-- TIME_CLEAR_COUNTS, R339. -/
  | timeClearCounts
  /-- TIME_CMD_REFUSED, R328. -/
  | timeCmdRefused (op : Nat)
  /-- PTP_MESSAGE, R325. -/
  | ptpMessage (port sub : Nat) (m : PtpMsg)
  /-- PTP_SOURCE_LOSS, R326. -/
  | ptpSourceLoss
  /-- REF_IN_EDGE, R331. -/
  | refInEdge (sub : Nat) (falling : Bool)
  /-- REF_LOSS, R331. -/
  | refLoss
  /-- REF_RATE_CHANGE, R331. -/
  | refRateChange (rate sub : Nat)
  /-- TA_ARM, R332. -/
  | taArm (n : Nat)
  /-- TA_DISARM, R334. -/
  | taDisarm (n : Nat)
  /-- TA_CLEAR_COUNTS, R341. -/
  | taClearCounts (n : Nat)
  /-- TA_FIRE, R333. -/
  | taFire (n : Nat)
  /-- PULSE_END, R333. -/
  | pulseEnd (o : Nat)
  /-- CAPTURE_EDGE, R338. -/
  | captureEdge (c sub : Nat) (falling : Bool)
  /-- CAPTURE_POP, R338. -/
  | capturePop (c : Nat)
  /-- CUE_POP, R339. -/
  | cuePop
  /-- NET_CLEAR_COUNTS, R372. -/
  | netClearCounts (n : Nat)
  /-- RETRAIN, R343. -/
  | retrain (n : Nat)
  /-- GCL_APPLY, R348. -/
  | gclApply (n : Nat)
  /-- GCL_ACTIVATE, R348. -/
  | gclActivate (n : Nat)
  /-- GATE_INTERVAL_END, R348. -/
  | gateIntervalEnd (n : Nat)
  /-- LINK_TRAINING_DONE, R344. -/
  | linkTrainingDone (n : Nat) (up : Bool)
  /-- POLARITY_RETRY, R344. -/
  | polarityRetry (n : Nat)
  /-- NET_FRAME_RECEIVE, R346. -/
  | netFrameReceive (n : Nat) (bytes : List Byte) (fcsOk : Bool)
  /-- PRP_SUPERVISION, R350. -/
  | prpSupervision
  /-- PRP_FORGET, R352. -/
  | prpForget
  /-- TX_FRAME_DEPART, R349. -/
  | txFrameDepart (n : Nat)
  /-- NETC_CLEAR_COUNTS, R373. -/
  | netcClearCounts
  /-- PRP_FLUSH, R352. -/
  | prpFlush
  /-- KEY_CTRL_WRITE, R370. -/
  | keyCtrlWrite (k : Nat) (v : Word)
  /-- TUNNEL_REQUEST, R368. -/
  | tunnelRequest (r : TunnelRequest)
  /-- TUNNEL_EXECUTE, R369. -/
  | tunnelExecute
  /-- RTP_PACKET, R357. -/
  | rtpPacket (n sub : Nat) (bytes : List Byte)
  /-- RX_STREAM_LOST, R359. -/
  | rxStreamLost (n : Nat)
  /-- RXS_ENABLE, R353. -/
  | rxsEnable (n : Nat)
  /-- RXS_DISABLE, R353. -/
  | rxsDisable (n : Nat)
  /-- RXS_CLEAR_COUNTS, R374. -/
  | rxsClearCounts (n : Nat)
  /-- TXS_ENABLE, R361. -/
  | txsEnable (n : Nat)
  /-- TXS_CLEAR_COUNTS, R375. -/
  | txsClearCounts (n : Nat)
  /-- TX_PACKET_SEND, R362. -/
  | txPacketSend (n : Nat)
  /-- TDM_CLEAR_COUNTS, R393. -/
  | tdmClearCounts (n : Nat)
  /-- TDM_ENABLE, R376. -/
  | tdmEnable (n : Nat) (v : Word)
  /-- TDM_DISABLE, R391. -/
  | tdmDisable (n : Nat)
  /-- MASK_APPLY, R388. -/
  | maskApply (n : Nat)
  /-- DMA_CFG_WRITE, R389. -/
  | dmaCfgWrite (n : Nat) (v : Word)
  /-- TDM_FRAME_RECEIVE, R382. -/
  | tdmFrameReceive (n : Nat) (wire : List Nat) (bclks : Nat) (matched : Bool)
  /-- TDM_DEVICE_FRAME_TICK, R382. -/
  | tdmDeviceFrameTick (n : Nat) (wire : List Nat) (matched : Bool)
  /-- TDM_STALL, R384. -/
  | tdmStall (n : Nat)
  /-- TDM_RATE_WINDOW, R384. -/
  | tdmRateWindow (n : Nat) (err : Int) (swapped : Bool)
  /-- TDM_RUNNING, R385. -/
  | tdmRunning (n : Nat)
  /-- CAS_CLEAR_COUNTS, R416. -/
  | casClearCounts (n : Nat)
  /-- CAS_RETRAIN, R416. -/
  | casRetrain (n : Nat)
  /-- CAS_FRAME_SEND, R398. -/
  | casFrameSend (n : Nat) (departure : Int)
  /-- CAS_FRAME_RECEIVE, R399. -/
  | casFrameReceive (n h0 : Nat) (blocks : List Nat) (crc sub : Nat)
  /-- MIX_FORWARD, R410. -/
  | mixForward
  /-- MASTER_LOSS, R413. -/
  | masterLoss
  /-- BACKUP_YIELD, R414. -/
  | backupYield
  /-- IMPORT_WRITE, R407. -/
  | importWrite (r : Nat) (v : Word)
  /-- HEDGE_CLEAR_COUNTS, R436. -/
  | hedgeClearCounts
  /-- TRANSFER, R428. -/
  | transfer
  /-- RESYNC, R434. -/
  | resync
  /-- QUERY, R434. -/
  | query
  /-- HEDGE_MESSAGE, R433. -/
  | hedgeMessage (bytes : List Byte)
  /-- PEER_LOST, R422. -/
  | peerLost
  /-- QUERY_REPEAT, R424. -/
  | queryRepeat
  /-- ARB_TIMEOUT, R424. -/
  | arbTimeout
  /-- VERDICT_APPLY, R424. -/
  | verdictApply
  /-- REVERT_TIMER, R428. -/
  | revertTimer
  /-- EPOCH_ISSUE, R429. -/
  | epochIssue
  /-- DIVERGENCE_PERSISTS, R432. -/
  | divergencePersists
  /-- WITHHOLD_START, R420. -/
  | withholdStart
  /-- MATRIX_CLEAR_COUNTS, R458. -/
  | matrixClearCounts
  /-- WIN_WRITE, R441. -/
  | winWrite (w word : Nat) (v : Word)
  /-- BUS_TRANSACTION, R445. -/
  | busTransaction (b : Burst)
  /-- TRANSACTION_TIMEOUT, R448. -/
  | transactionTimeout (m tag : Nat)
  /-- TRANSACTION_RESPONSE, R444. -/
  | transactionResponse (m tag : Nat)
  /-- ABORTED_BURST, R446. -/
  | abortedBurst (b : Burst) (beats : Nat)
  /-- DRAM_CLEAR_COUNTS, R460. -/
  | dramClearCounts (n : Nat)
  /-- DRAM_OFFLINE, R455. -/
  | dramOffline (n : Nat)
  /-- RETRAIN_NOW, R460. -/
  | retrainNow (n : Nat)
  /-- DRAM_RETRAIN_TIMER, R453. -/
  | dramRetrainTimer (n : Nat)
  /-- DRAM_RETRAIN_DONE, R454. -/
  | dramRetrainDone (n : Nat) (found changed : Bool)
  /-- DRAM_REFRESH, R452. -/
  | dramRefresh (n postponed : Nat)
  /-- PATROL_SCRUB, R451. -/
  | patrolScrub (n : Nat) (corrected uncorrectable : List Nat)
  /-- FRAME_MIGRATED, R457. -/
  | frameMigrated (n : Nat) (bad : List Nat)
  /-- STORE_WRITE, R464. -/
  | storeWrite
  /-- STORE_READ, R464. -/
  | storeRead
  /-- STORE_DELETE, R464. -/
  | storeDelete
  /-- STORE_INFO, R464. -/
  | storeInfo
  /-- STORE_CLEAR_COUNTS, R483. -/
  | storeClearCounts
  /-- STORE_CMD_DONE, R465. -/
  | storeCmdDone
  /-- STORE_MOUNT_DONE, R472. -/
  | storeMountDone (ok : Bool)
  /-- NAND_UNCORRECTABLE, R467. -/
  | nandUncorrectable (obj sector : Nat)
  /-- BLOCK_REFRESH, R467. -/
  | blockRefresh (b corrected reads : Nat)
  /-- WEAR_MOVE, R467. -/
  | wearMove
  /-- GROWN_BAD, R467. -/
  | grownBad (b : Nat)
  /-- STORE_SCRUB, R467. -/
  | storeScrub (found : List (Nat × Nat))
  /-- PLAY, R476. -/
  | play (k : Nat)
  /-- STOP, R478. -/
  | stop (k : Nat)
  /-- STEM_PRELOADED, R476. -/
  | stemPreloaded (k : Nat)
  /-- STEM_END, R475. -/
  | stemEnd (k : Nat)
  /-- INSTALL_FW, R481. -/
  | installFw (slot : Nat)
  /-- INSTALL_PAT, R481. -/
  | installPat (slot : Nat)
  /-- SET_BOOT, R474. -/
  | setBoot
  /-- BOOTF_READ, R481. -/
  | bootfRead
  /-- BOOTF_PROGRAM, R481. -/
  | bootfProgram
  /-- BOOTF_ERASE, R481. -/
  | bootfErase
  /-- BOOTF_CMD_DONE, R481. -/
  | bootfCmdDone
  /-- BOOT_PATTERN_SELECT, R473. -/
  | bootPatternSelect
  /-- EVENT_ASSERT, R493. -/
  | eventAssert (source pulses : Nat) (crossing : Option Nat)
  /-- PENDING_CLEAR, R494. -/
  | pendingClear (w : Nat) (v : Word) (same : Option Nat)
  /-- VEC_ACK, R498. -/
  | vecAck (k : Nat)
  /-- VEC_CFG_WRITE, R497. -/
  | vecCfgWrite (k : Nat) (v : Word)
  /-- VECTOR_TIMER, R497. -/
  | vectorTimer (k : Nat)
  /-- VECTOR_RAISE, R496. -/
  | vectorRaise
  /-- LINK_WAKE_DONE, R502. -/
  | linkWakeDone
  /-- FLUSH, R503. -/
  | flush
  /-- DOORBELL, R495. -/
  | doorbell (v : Word)
  /-- EVT_CLEAR_COUNTS, R508. -/
  | evtClearCounts
  /-- HOST_CLEAR_COUNTS, R510. -/
  | hostClearCounts
  /-- FUNCTION_RESET, R488. -/
  | functionReset
  /-- PCIE_LINK_CHANGE, R511. -/
  | pcieLinkChange (up : Bool) (speed width pm : Nat)
  /-- D3HOT_CHANGE, R511. -/
  | d3hotChange (d3 : Bool)
  /-- MB_DOORBELL, R504. -/
  | mbDoorbell
  /-- GET_INFO, R505. -/
  | getInfo
  /-- FW_LOAD, R505. -/
  | fwLoad
  /-- SDP_TO_RXS, R505. -/
  | sdpToRxs
  /-- TXS_TO_SDP, R505. -/
  | txsToSdp
  /-- PTP_STATUS, R505. -/
  | ptpStatus
  /-- LOG_READ, R505. -/
  | logRead
  /-- MAILBOX_RESET, R526. -/
  | mailboxReset
  /-- MAILBOX_REPLY, R504. -/
  | mailboxReply
  /-- FW_HEARTBEAT_STALL, R507. -/
  | fwHeartbeatStall
  /-- WATCHDOG, R528. -/
  | watchdog
  /-- CLK_CLEAR_COUNTS, R530. -/
  | clkClearCounts (key : Nat)
  /-- SYSTEM_RESET_CMD, R527. -/
  | systemResetCmd (key : Nat)
  /-- FIRMWARE_RESET_CMD, R527. -/
  | firmwareResetCmd (key : Nat)
  /-- PLL_UNLOCK, R514. -/
  | pllUnlock
  /-- PLL_RELOCK, R514. -/
  | pllRelock
  /-- SUPPLY_WARN, R523. -/
  | supplyWarn (rails t : Nat)
  /-- DIP_END, R523. -/
  | dipEnd (last : Nat)
  /-- BROWNOUT, R524. -/
  | brownout (rails : Nat)
  /-- POR, R526. -/
  | por
  /-- PERST, R526. -/
  | perst
  /-- THERMAL_SAMPLE, R525. -/
  | thermalSample (raw : Int)
  /-- THERMAL_RESET, R525. -/
  | thermalReset
  /-- RESET_RELEASE, R529. -/
  | resetRelease (failed trained : List Nat)
  /-- FIFO_RESYNC, R519. -/
  | fifoResync (c : Crossing) (held offered : Nat)
  /-- REFCLK_CHANGE, R513. -/
  | refclkChange (ref25 present : Bool)
  /-- FRENUS_LINK_TRAINING_DONE, R397. -/
  | frenusLinkTrainingDone (n : Nat) (up inverted : Bool)
  /-- SLEWING_END, R326. -/
  | slewingEnd
  deriving DecidableEq, Repr

end Sys2Proof
end

