-- ==== Sys2Proof/Decode.lean ====
section
/-! DEFINITION. The words that spell a command. The manual's command table gives no row any bits: a command reaches the
block as a register access, a packet, a pin event or a time of its own, and no word of bits spells one. -/

namespace Sys2Proof

/-- The command that `nbits` bits `w` spell by the command table: none, since no row of the table has bits. -/
def decodeTableWord (_nbits _w : Nat) : Option Instr := none

end Sys2Proof
end

