-- ==== Sys2Proof/Machine/RegNames.lean ====
section
/-! DEFINITION. The BAR0 offset of every register, under the manual's own names: the base and stride of each block
are those of R489, the offset inside the block that of the block's own register table (rule named at each group).
`i` is the instance of the block, `k` the index of a register array. -/

namespace Sys2Proof.Machine

/-! IDENT: 00_scope R2 -/
abbrev Reg.IDENT_ID : Nat := 0x0
abbrev Reg.IDENT_VARIANT : Nat := 0x4
abbrev Reg.IDENT_CAP0 : Nat := 0x8
abbrev Reg.IDENT_CAP1 : Nat := 0xC
abbrev Reg.IDENT_ABSENT_ACCESS_COUNT : Nat := 0x10
abbrev Reg.IDENT_ABSENT_LAST_OFFSET : Nat := 0x14
abbrev Reg.IDENT_ABSENT_CLEAR : Nat := 0x18

/-! CLK: 21_clocks_crossings_power R530 -/
abbrev Reg.CLK_BLOCK_ID : Nat := 0x10000
abbrev Reg.CLK_CMD : Nat := 0x10004
abbrev Reg.CLK_CLK_STATUS : Nat := 0x10008
abbrev Reg.CLK_OSC_TRIM_FCAL : Nat := 0x1000C
abbrev Reg.CLK_OSC_TRIM_UCAL : Nat := 0x10010
abbrev Reg.CLK_OSC_TRIM_ECAL : Nat := 0x10014
abbrev Reg.CLK_ROOT_PPM : Nat := 0x10018
abbrev Reg.CLK_PWR_STATUS : Nat := 0x1001C
abbrev Reg.CLK_DIP_DURATION : Nat := 0x10020
abbrev Reg.CLK_DIPS : Nat := 0x10024
abbrev Reg.CLK_TJ : Nat := 0x10028
abbrev Reg.CLK_THERM_CFG : Nat := 0x1002C
abbrev Reg.CLK_TJ_MAX : Nat := 0x10030
abbrev Reg.CLK_RST_CAUSE : Nat := 0x10034
abbrev Reg.CLK_RST_CFG : Nat := 0x10038
abbrev Reg.CLK_RESETS : Nat := 0x1003C
abbrev Reg.CLK_CROSS_OVF : Nat := 0x10040
abbrev Reg.CLK_CROSS_RESYNCS : Nat := 0x10044
abbrev Reg.CLK_FIFO_DROPS : Nat := 0x10048
abbrev Reg.CLK_PLL_UNLOCKS : Nat := 0x1004C

/-! EVT: 20_host_and_events R508 -/
abbrev Reg.EVT_BLOCK_ID : Nat := 0x20000
abbrev Reg.EVT_CTRL : Nat := 0x20004
abbrev Reg.EVT_FLUSH : Nat := 0x20008
abbrev Reg.EVT_CMD : Nat := 0x2000C
abbrev Reg.EVT_STATUS : Nat := 0x20010
abbrev Reg.EVT_LATE_DELIVERY : Nat := 0x20014
abbrev Reg.EVT_MERGED : Nat := 0x20018
abbrev Reg.EVT_PME_COUNT : Nat := 0x2001C
abbrev Reg.EVT_DOORBELL : Nat := 0x20020
abbrev Reg.EVT_PENDING (k : Nat) : Nat := 0x20040 + 4 * k
abbrev Reg.EVT_LIVE (k : Nat) : Nat := 0x20060 + 4 * k
abbrev Reg.EVT_ENABLE (k : Nat) : Nat := 0x20080 + 4 * k
abbrev Reg.EVT_VEC (k : Nat) : Nat := 0x20100 + 16 * k

/-! TIME: 13_time R339 -/
abbrev Reg.TIME_BLOCK_ID : Nat := 0x30000
abbrev Reg.TIME_CTRL : Nat := 0x30004
abbrev Reg.TIME_CMD : Nat := 0x30008
abbrev Reg.TIME_STATUS : Nat := 0x3000C
abbrev Reg.TIME_PTP_CFG : Nat := 0x30010
abbrev Reg.TIME_REF_CFG : Nat := 0x30014
abbrev Reg.TIME_SERVO_CFG : Nat := 0x30018
abbrev Reg.TIME_JUMP_LIMIT : Nat := 0x3001C
abbrev Reg.TIME_NOW_S_LO : Nat := 0x30020
abbrev Reg.TIME_NOW_S_HI : Nat := 0x30024
abbrev Reg.TIME_NOW_NS : Nat := 0x30028
abbrev Reg.TIME_NOW_FRAC : Nat := 0x3002C
abbrev Reg.TIME_BLOCK_LO : Nat := 0x30030
abbrev Reg.TIME_BLOCK_HI : Nat := 0x30034
abbrev Reg.TIME_OFFSET : Nat := 0x30038
abbrev Reg.TIME_STEER : Nat := 0x3003C
abbrev Reg.TIME_STEP_LO : Nat := 0x30040
abbrev Reg.TIME_STEP_HI : Nat := 0x30044
abbrev Reg.TIME_STEP_BLOCK_LO : Nat := 0x30048
abbrev Reg.TIME_STEP_BLOCK_HI : Nat := 0x3004C
abbrev Reg.TIME_SET_S_LO : Nat := 0x30050
abbrev Reg.TIME_SET_S_HI : Nat := 0x30054
abbrev Reg.TIME_SET_NS : Nat := 0x30058
abbrev Reg.TIME_UTC_OFFSET : Nat := 0x3005C
abbrev Reg.TIME_GM_ID_LO : Nat := 0x30060
abbrev Reg.TIME_GM_ID_HI : Nat := 0x30064
abbrev Reg.TIME_REF_GLITCHES : Nat := 0x30068
abbrev Reg.TIME_REF_LOSSES : Nat := 0x3006C
abbrev Reg.TIME_JUMPS_REFUSED : Nat := 0x30070
abbrev Reg.TIME_HOLDOVERS : Nat := 0x30074
abbrev Reg.TIME_GM_CHANGES : Nat := 0x30078
abbrev Reg.TIME_CUE_OVERFLOWS : Nat := 0x3007C
abbrev Reg.TIME_CAP (k : Nat) : Nat := 0x30080 + 32 * k
abbrev Reg.TIME_OUT_CFG (k : Nat) : Nat := 0x30100 + 4 * k
abbrev Reg.TIME_CUE : Nat := 0x30140
abbrev Reg.TIME_PAYLOAD (k : Nat) : Nat := 0x38000 + 4 * k

/-! TA: 13_time R341 -/
abbrev Reg.TA_BLOCK_ID (i : Nat) : Nat := 0x40000 + 0x40 * i
abbrev Reg.TA_CTRL (i : Nat) : Nat := 0x40004 + 0x40 * i
abbrev Reg.TA_CMD (i : Nat) : Nat := 0x40008 + 0x40 * i
abbrev Reg.TA_STATUS (i : Nat) : Nat := 0x4000C + 0x40 * i
abbrev Reg.TA_TIME_S_LO (i : Nat) : Nat := 0x40010 + 0x40 * i
abbrev Reg.TA_TIME_S_HI (i : Nat) : Nat := 0x40014 + 0x40 * i
abbrev Reg.TA_TIME_NS (i : Nat) : Nat := 0x40018 + 0x40 * i
abbrev Reg.TA_TIME_FRAC (i : Nat) : Nat := 0x4001C + 0x40 * i
abbrev Reg.TA_PERIOD_NS (i : Nat) : Nat := 0x40020 + 0x40 * i
abbrev Reg.TA_PERIOD_FRAC (i : Nat) : Nat := 0x40024 + 0x40 * i
abbrev Reg.TA_REPEAT (i : Nat) : Nat := 0x40028 + 0x40 * i
abbrev Reg.TA_WIDTH (i : Nat) : Nat := 0x4002C + 0x40 * i
abbrev Reg.TA_PAYLOAD (i : Nat) : Nat := 0x40030 + 0x40 * i
abbrev Reg.TA_FIRED (i : Nat) : Nat := 0x40034 + 0x40 * i
abbrev Reg.TA_SKIPPED (i : Nat) : Nat := 0x40038 + 0x40 * i
abbrev Reg.TA_REMAIN (i : Nat) : Nat := 0x4003C + 0x40 * i

/-! PAT: 02_pattern R64 -/
abbrev Reg.PAT_BLOCK_ID : Nat := 0x50000
abbrev Reg.PAT_CMD : Nat := 0x50004
abbrev Reg.PAT_SOURCE : Nat := 0x50008
abbrev Reg.PAT_STAGE_ADDR_LO : Nat := 0x5000C
abbrev Reg.PAT_STAGE_ADDR_HI : Nat := 0x50010
abbrev Reg.PAT_STAGE_LEN : Nat := 0x50014
abbrev Reg.PAT_STATUS : Nat := 0x50018
abbrev Reg.PAT_REJECT : Nat := 0x5001C
abbrev Reg.PAT_REJECT_OFFSET : Nat := 0x50020
abbrev Reg.PAT_COMMIT_BLOCK_LO : Nat := 0x50024
abbrev Reg.PAT_COMMIT_BLOCK_HI : Nat := 0x50028
abbrev Reg.PAT_BINDOFF_MASK_LO : Nat := 0x5002C
abbrev Reg.PAT_BINDOFF_MASK_HI : Nat := 0x50030
abbrev Reg.PAT_ACTIVE_CRC : Nat := 0x50034
abbrev Reg.PAT_ACTIVE_BUILD : Nat := 0x50038
abbrev Reg.PAT_ACTIVE_TIME_LO : Nat := 0x5003C
abbrev Reg.PAT_ACTIVE_TIME_HI : Nat := 0x50040
abbrev Reg.PAT_KEY_STATUS : Nat := 0x50044
abbrev Reg.PAT_KEY_REVOKE : Nat := 0x50048
abbrev Reg.PAT_LOAD_SUM0 : Nat := 0x5004C
abbrev Reg.PAT_LOAD_SUM1 : Nat := 0x50050
abbrev Reg.PAT_REGION (k : Nat) : Nat := 0x50100 + 4 * k

/-! SCHED: 08_scheduler R216 -/
abbrev Reg.SCHED_BLOCK_ID : Nat := 0x60000
abbrev Reg.SCHED_CTRL : Nat := 0x60004
abbrev Reg.SCHED_CMD : Nat := 0x60008
abbrev Reg.SCHED_STATUS : Nat := 0x6000C
abbrev Reg.SCHED_SPILL_CFG : Nat := 0x60010
abbrev Reg.SCHED_RUN_BLOCK_LO : Nat := 0x60014
abbrev Reg.SCHED_RUN_BLOCK_HI : Nat := 0x60018
abbrev Reg.SCHED_INSTANCES : Nat := 0x6001C
abbrev Reg.SCHED_READY_CANCEL : Nat := 0x60020
abbrev Reg.SCHED_SPEC_PREFETCH : Nat := 0x60024
abbrev Reg.SCHED_CANCELLED : Nat := 0x60028
abbrev Reg.SCHED_LATE_BLOCKS : Nat := 0x6002C
abbrev Reg.SCHED_CONCEAL_BLOCKS : Nat := 0x60030
abbrev Reg.SCHED_DEADLINE_MISS : Nat := 0x60034
abbrev Reg.SCHED_SPILLED : Nat := 0x60038
abbrev Reg.SCHED_REFILLED : Nat := 0x6003C
abbrev Reg.SCHED_SPILL_FULL : Nat := 0x60040
abbrev Reg.SCHED_ROB_FULL : Nat := 0x60044
abbrev Reg.SCHED_SEND_LATE : Nat := 0x60048
abbrev Reg.SCHED_GAUGE_SKIPPED : Nat := 0x6004C
abbrev Reg.SCHED_LATE_INFO : Nat := 0x60050
abbrev Reg.SCHED_LATE_BLOCK_LO : Nat := 0x60054
abbrev Reg.SCHED_LATE_BLOCK_HI : Nat := 0x60058
abbrev Reg.SCHED_CLASS (k : Nat) : Nat := 0x60100 + 16 * k
abbrev Reg.SCHED_FLOW (k : Nat) : Nat := 0x61000 + 4 * k

/-! SKEIN: 06_skein_and_paging R176 -/
abbrev Reg.SKEIN_BLOCK_ID : Nat := 0x70000
abbrev Reg.SKEIN_CTRL : Nat := 0x70004
abbrev Reg.SKEIN_CMD : Nat := 0x70008
abbrev Reg.SKEIN_STATUS : Nat := 0x7000C
abbrev Reg.SKEIN_PAGER_CFG : Nat := 0x70010
abbrev Reg.SKEIN_TOTAL : Nat := 0x70014
abbrev Reg.SKEIN_SPARE_RESERVE : Nat := 0x70018
abbrev Reg.SKEIN_RESERVED : Nat := 0x7001C
abbrev Reg.SKEIN_OUTSIDE : Nat := 0x70020
abbrev Reg.SKEIN_FREE : Nat := 0x70024
abbrev Reg.SKEIN_BORROWED : Nat := 0x70028
abbrev Reg.SKEIN_LOW_RET : Nat := 0x7002C
abbrev Reg.SKEIN_REMOTE : Nat := 0x70030
abbrev Reg.SKEIN_FREE_MIN : Nat := 0x70034
abbrev Reg.SKEIN_PAGE_INS : Nat := 0x70038
abbrev Reg.SKEIN_RELEASES : Nat := 0x7003C
abbrev Reg.SKEIN_RECLAIMS : Nat := 0x70040
abbrev Reg.SKEIN_DENIED : Nat := 0x70044
abbrev Reg.SKEIN_STARVE_STARTS : Nat := 0x70048
abbrev Reg.SKEIN_STARVED_NOW : Nat := 0x7004C
abbrev Reg.SKEIN_PAGEIN_WAITS : Nat := 0x70050
abbrev Reg.SKEIN_WIN_SEL : Nat := 0x70054
abbrev Reg.SKEIN_WIN_STATUS : Nat := 0x70058
abbrev Reg.SKEIN_WIN_DMIN : Nat := 0x7005C
abbrev Reg.SKEIN_WIN_DMAX : Nat := 0x70060
abbrev Reg.SKEIN_NEEDLE_TIER : Nat := 0x70064
abbrev Reg.SKEIN_CLIENT (k : Nat) : Nat := 0x70100 + 8 * k

/-! MATRIX: 18_fabric_and_dram R458 -/
abbrev Reg.MATRIX_BLOCK_ID : Nat := 0x80000
abbrev Reg.MATRIX_CMD : Nat := 0x80004
abbrev Reg.MATRIX_STATUS : Nat := 0x80008
abbrev Reg.MATRIX_TIMEOUT : Nat := 0x8000C
abbrev Reg.MATRIX_DECODE_ADDR_LO : Nat := 0x80010
abbrev Reg.MATRIX_DECODE_ADDR_HI : Nat := 0x80014
abbrev Reg.MATRIX_DECODE_INFO : Nat := 0x80018
abbrev Reg.MATRIX_TIMEOUT_ADDR_LO : Nat := 0x8001C
abbrev Reg.MATRIX_TIMEOUT_ADDR_HI : Nat := 0x80020
abbrev Reg.MATRIX_TIMEOUT_INFO : Nat := 0x80024
abbrev Reg.MATRIX_DECODE_ERRORS : Nat := 0x80028
abbrev Reg.MATRIX_TIMEOUTS : Nat := 0x8002C
abbrev Reg.MATRIX_LATE_RESPONSES : Nat := 0x80030
abbrev Reg.MATRIX_ABORTED_BURSTS : Nat := 0x80034
abbrev Reg.MATRIX_ALLOC_LOW : Nat := 0x80038
abbrev Reg.MATRIX_FRAMES_BACKED : Nat := 0x8003C
abbrev Reg.MATRIX_MIGRATE_CFG : Nat := 0x80040
abbrev Reg.MATRIX_DPORT (k : Nat) : Nat := 0x80100 + 4 * k
abbrev Reg.MATRIX_WIN (k : Nat) : Nat := 0x80200 + 16 * k

/-! DRAM: 18_fabric_and_dram R460 -/
abbrev Reg.DRAM_BLOCK_ID (i : Nat) : Nat := 0x90000 + 0x4000 * i
abbrev Reg.DRAM_CMD (i : Nat) : Nat := 0x90004 + 0x4000 * i
abbrev Reg.DRAM_STATUS (i : Nat) : Nat := 0x90008 + 0x4000 * i
abbrev Reg.DRAM_SIZE (i : Nat) : Nat := 0x9000C + 0x4000 * i
abbrev Reg.DRAM_UE_LIMIT (i : Nat) : Nat := 0x90010 + 0x4000 * i
abbrev Reg.DRAM_SCHED_CFG (i : Nat) : Nat := 0x90014 + 0x4000 * i
abbrev Reg.DRAM_RETRAIN_CFG (i : Nat) : Nat := 0x90018 + 0x4000 * i
abbrev Reg.DRAM_SCRUB_CFG (i : Nat) : Nat := 0x9001C + 0x4000 * i
abbrev Reg.DRAM_CE_COUNT (i : Nat) : Nat := 0x90020 + 0x4000 * i
abbrev Reg.DRAM_UE_COUNT (i : Nat) : Nat := 0x90024 + 0x4000 * i
abbrev Reg.DRAM_CE_ADDR_LO (i : Nat) : Nat := 0x90028 + 0x4000 * i
abbrev Reg.DRAM_CE_ADDR_HI (i : Nat) : Nat := 0x9002C + 0x4000 * i
abbrev Reg.DRAM_UE_ADDR_LO (i : Nat) : Nat := 0x90030 + 0x4000 * i
abbrev Reg.DRAM_UE_ADDR_HI (i : Nat) : Nat := 0x90034 + 0x4000 * i
abbrev Reg.DRAM_RETRAINS (i : Nat) : Nat := 0x90038 + 0x4000 * i
abbrev Reg.DRAM_RETRAIN_FAILS (i : Nat) : Nat := 0x9003C + 0x4000 * i
abbrev Reg.DRAM_FRAMES (i : Nat) : Nat := 0x90040 + 0x4000 * i
abbrev Reg.DRAM_MIGRATED_FRAMES (i : Nat) : Nat := 0x90044 + 0x4000 * i
abbrev Reg.DRAM_MIGRATE_UE (i : Nat) : Nat := 0x90048 + 0x4000 * i
abbrev Reg.DRAM_MIGRATE_SKIPPED (i : Nat) : Nat := 0x9004C + 0x4000 * i
abbrev Reg.DRAM_UTIL (i : Nat) : Nat := 0x90050 + 0x4000 * i
abbrev Reg.DRAM_URGENT (i : Nat) : Nat := 0x90054 + 0x4000 * i
abbrev Reg.DRAM_REFRESH_POSTPONED (i : Nat) : Nat := 0x90058 + 0x4000 * i

/-! STORE: 19_show_store R483 -/
abbrev Reg.STORE_BLOCK_ID : Nat := 0xA0000
abbrev Reg.STORE_CMD : Nat := 0xA0004
abbrev Reg.STORE_STATUS : Nat := 0xA0008
abbrev Reg.STORE_OBJECT : Nat := 0xA000C
abbrev Reg.STORE_STAGE_ADDR_LO : Nat := 0xA0010
abbrev Reg.STORE_STAGE_ADDR_HI : Nat := 0xA0014
abbrev Reg.STORE_LEN_LO : Nat := 0xA0018
abbrev Reg.STORE_LEN_HI : Nat := 0xA001C
abbrev Reg.STORE_RESULT : Nat := 0xA0020
abbrev Reg.STORE_INFO_LEN_LO : Nat := 0xA0024
abbrev Reg.STORE_INFO_LEN_HI : Nat := 0xA0028
abbrev Reg.STORE_INFO_KIND : Nat := 0xA002C
abbrev Reg.STORE_CAPACITY : Nat := 0xA0030
abbrev Reg.STORE_FREE : Nat := 0xA0034
abbrev Reg.STORE_SPARE : Nat := 0xA0038
abbrev Reg.STORE_MAINT_CFG : Nat := 0xA003C
abbrev Reg.STORE_SCRUB_CFG : Nat := 0xA0040
abbrev Reg.STORE_ERASE_SPAN : Nat := 0xA0044
abbrev Reg.STORE_CORR_MAX : Nat := 0xA0048
abbrev Reg.STORE_STEM (k : Nat) : Nat := 0xA8000 + 64 * k

/-! STEM: 19_show_store R484 -/
abbrev Reg.STEM_CTRL (i : Nat) : Nat := 0xA8000 + 0x40 * i
abbrev Reg.STEM_CMD (i : Nat) : Nat := 0xA8004 + 0x40 * i
abbrev Reg.STEM_STATUS (i : Nat) : Nat := 0xA8008 + 0x40 * i
abbrev Reg.STEM_OBJECT (i : Nat) : Nat := 0xA800C + 0x40 * i
abbrev Reg.STEM_START_SAMPLE_LO (i : Nat) : Nat := 0xA8010 + 0x40 * i
abbrev Reg.STEM_START_SAMPLE_HI (i : Nat) : Nat := 0xA8014 + 0x40 * i
abbrev Reg.STEM_START_BLOCK_LO (i : Nat) : Nat := 0xA8018 + 0x40 * i
abbrev Reg.STEM_START_BLOCK_HI (i : Nat) : Nat := 0xA801C + 0x40 * i
abbrev Reg.STEM_STOP_BLOCK_LO (i : Nat) : Nat := 0xA8020 + 0x40 * i
abbrev Reg.STEM_STOP_BLOCK_HI (i : Nat) : Nat := 0xA8024 + 0x40 * i
abbrev Reg.STEM_POSITION_LO (i : Nat) : Nat := 0xA8028 + 0x40 * i
abbrev Reg.STEM_POSITION_HI (i : Nat) : Nat := 0xA802C + 0x40 * i
abbrev Reg.STEM_UNDERRUNS (i : Nat) : Nat := 0xA8030 + 0x40 * i

/-! HEDGE: 17_hedge_redundancy R436 -/
abbrev Reg.HEDGE_BLOCK_ID : Nat := 0xB0000
abbrev Reg.HEDGE_CTRL : Nat := 0xB0004
abbrev Reg.HEDGE_CMD : Nat := 0xB0008
abbrev Reg.HEDGE_STATUS : Nat := 0xB000C
abbrev Reg.HEDGE_CFG : Nat := 0xB0010
abbrev Reg.HEDGE_REVERT : Nat := 0xB0014
abbrev Reg.HEDGE_IDS : Nat := 0xB0018
abbrev Reg.HEDGE_PEER_ADDR (k : Nat) : Nat := 0xB001C + 4 * k
abbrev Reg.HEDGE_ARB_ADDR (k : Nat) : Nat := 0xB002C + 4 * k
abbrev Reg.HEDGE_HANDOVER_BLOCK_LO : Nat := 0xB003C
abbrev Reg.HEDGE_HANDOVER_BLOCK_HI : Nat := 0xB0040
abbrev Reg.HEDGE_AGES : Nat := 0xB0044
abbrev Reg.HEDGE_EPOCH_ISSUED : Nat := 0xB0048
abbrev Reg.HEDGE_EPOCH_APPLIED : Nat := 0xB004C
abbrev Reg.HEDGE_PEER_EPOCH : Nat := 0xB0050
abbrev Reg.HEDGE_CHECKSUM : Nat := 0xB0054
abbrev Reg.HEDGE_PEER_CHECKSUM : Nat := 0xB0058
abbrev Reg.HEDGE_DUPLICATES : Nat := 0xB008C

/-! GAUGE: 11_gauge R295 -/
abbrev Reg.GAUGE_BLOCK_ID : Nat := 0xC0000
abbrev Reg.GAUGE_CTRL : Nat := 0xC0004
abbrev Reg.GAUGE_CMD : Nat := 0xC0008
abbrev Reg.GAUGE_STATUS : Nat := 0xC000C
abbrev Reg.GAUGE_APPLY_BLOCK_LO : Nat := 0xC0010
abbrev Reg.GAUGE_APPLY_BLOCK_HI : Nat := 0xC0014
abbrev Reg.GAUGE_TARGET : Nat := 0xC0018
abbrev Reg.GAUGE_HOLD : Nat := 0xC001C
abbrev Reg.GAUGE_EPOCH_CFG : Nat := 0xC0020
abbrev Reg.GAUGE_PILOT_CFG : Nat := 0xC0024
abbrev Reg.GAUGE_PILOT_FCAL : Nat := 0xC0028
abbrev Reg.GAUGE_PILOT_UCAL : Nat := 0xC002C
abbrev Reg.GAUGE_PILOT_ECAL : Nat := 0xC0030
abbrev Reg.GAUGE_TSENSE_FCAL : Nat := 0xC0034
abbrev Reg.GAUGE_TSENSE_UCAL : Nat := 0xC0038
abbrev Reg.GAUGE_TSENSE_ECAL : Nat := 0xC003C
abbrev Reg.GAUGE_DIE_TEMP : Nat := 0xC0040
abbrev Reg.GAUGE_ADAPT_CFG : Nat := 0xC0044
abbrev Reg.GAUGE_SWEEP : Nat := 0xC0048
abbrev Reg.GAUGE_JOBS_DONE : Nat := 0xC004C
abbrev Reg.GAUGE_JOBS_INVALID : Nat := 0xC0050
abbrev Reg.GAUGE_UPDATES : Nat := 0xC0054
abbrev Reg.GAUGE_CLAMPS : Nat := 0xC0058
abbrev Reg.GAUGE_OVERRIDES : Nat := 0xC005C
abbrev Reg.GAUGE_DEFERRED : Nat := 0xC0060
abbrev Reg.GAUGE_IR_SEL : Nat := 0xC0064
abbrev Reg.GAUGE_IR_STATUS : Nat := 0xC0068
abbrev Reg.GAUGE_IR (k : Nat) : Nat := 0xC8000 + 4 * k

/-! MEAS: 11_gauge R297 -/
abbrev Reg.MEAS_BLOCK_ID (i : Nat) : Nat := 0xD0000 + 0x200 * i
abbrev Reg.MEAS_STATUS (i : Nat) : Nat := 0xD0004 + 0x200 * i
abbrev Reg.MEAS_STICKY (i : Nat) : Nat := 0xD0008 + 0x200 * i
abbrev Reg.MEAS_CMD (i : Nat) : Nat := 0xD000C + 0x200 * i
abbrev Reg.MEAS_CHECK_CFG (i : Nat) : Nat := 0xD0010 + 0x200 * i
abbrev Reg.MEAS_STUCK_CFG (i : Nat) : Nat := 0xD0014 + 0x200 * i
abbrev Reg.MEAS_BIAS_CFG (i : Nat) : Nat := 0xD0018 + 0x200 * i
abbrev Reg.MEAS_GAIN_FCAL (i : Nat) : Nat := 0xD001C + 0x200 * i
abbrev Reg.MEAS_GAIN_UCAL (i : Nat) : Nat := 0xD0020 + 0x200 * i
abbrev Reg.MEAS_GAIN_ECAL (i : Nat) : Nat := 0xD0024 + 0x200 * i
abbrev Reg.MEAS_OFFSET_FCAL (i : Nat) : Nat := 0xD0028 + 0x200 * i
abbrev Reg.MEAS_OFFSET_UCAL (i : Nat) : Nat := 0xD002C + 0x200 * i
abbrev Reg.MEAS_OFFSET_ECAL (i : Nat) : Nat := 0xD0030 + 0x200 * i
abbrev Reg.MEAS_DENSITY (i : Nat) : Nat := 0xD0034 + 0x200 * i
abbrev Reg.MEAS_FAULTS (i : Nat) : Nat := 0xD0038 + 0x200 * i

/-! NET: 14_network R372 -/
abbrev Reg.NET_BLOCK_ID (i : Nat) : Nat := 0xE0000 + 0x8000 * i
abbrev Reg.NET_CMD (i : Nat) : Nat := 0xE0004 + 0x8000 * i
abbrev Reg.NET_STATUS (i : Nat) : Nat := 0xE0008 + 0x8000 * i
abbrev Reg.NET_STICKY (i : Nat) : Nat := 0xE000C + 0x8000 * i
abbrev Reg.NET_CFG0 (i : Nat) : Nat := 0xE0010 + 0x8000 * i
abbrev Reg.NET_MAC_LO (i : Nat) : Nat := 0xE0014 + 0x8000 * i
abbrev Reg.NET_MAC_HI (i : Nat) : Nat := 0xE0018 + 0x8000 * i
abbrev Reg.NET_IP4 (i : Nat) : Nat := 0xE001C + 0x8000 * i
abbrev Reg.NET_IP4_PREFIX (i : Nat) : Nat := 0xE0020 + 0x8000 * i
abbrev Reg.NET_IP6 (i k : Nat) : Nat := 0xE0024 + 0x8000 * i + 4 * k
abbrev Reg.NET_IP6_PREFIX (i : Nat) : Nat := 0xE0034 + 0x8000 * i
abbrev Reg.NET_TC_MAP (i : Nat) : Nat := 0xE0038 + 0x8000 * i
abbrev Reg.NET_CBS (i k : Nat) : Nat := 0xE0040 + 0x8000 * i + 4 * k
abbrev Reg.NET_GCL_CTRL (i : Nat) : Nat := 0xE0050 + 0x8000 * i
abbrev Reg.NET_GCL_CYCLE (i : Nat) : Nat := 0xE0054 + 0x8000 * i
abbrev Reg.NET_GCL_BASE_S_LO (i : Nat) : Nat := 0xE0058 + 0x8000 * i
abbrev Reg.NET_GCL_BASE_S_HI (i : Nat) : Nat := 0xE005C + 0x8000 * i
abbrev Reg.NET_GCL_BASE_NS (i : Nat) : Nat := 0xE0060 + 0x8000 * i
abbrev Reg.NET_RX_FRAMES (i : Nat) : Nat := 0xE0064 + 0x8000 * i
abbrev Reg.NET_RX_ERRORS (i : Nat) : Nat := 0xE0068 + 0x8000 * i
abbrev Reg.NET_RX_DROPS (i : Nat) : Nat := 0xE006C + 0x8000 * i
abbrev Reg.NET_TX_FRAMES (i : Nat) : Nat := 0xE0070 + 0x8000 * i
abbrev Reg.NET_TX_DROPS (i : Nat) : Nat := 0xE0074 + 0x8000 * i
abbrev Reg.NET_GATE_HELD (i : Nat) : Nat := 0xE0078 + 0x8000 * i
abbrev Reg.NET_LINK_DOWNS (i : Nat) : Nat := 0xE007C + 0x8000 * i
abbrev Reg.NET_GCL_ADMIN (i k : Nat) : Nat := 0xE1000 + 0x8000 * i + 4 * k
abbrev Reg.NET_GCL_OPER (i k : Nat) : Nat := 0xE1100 + 0x8000 * i + 4 * k

/-! COND: 03_input_conditioning R91 -/
abbrev Reg.COND_BLOCK_ID : Nat := 0xF0000
abbrev Reg.COND_CTRL : Nat := 0xF0004
abbrev Reg.COND_CMD : Nat := 0xF0008
abbrev Reg.COND_STATUS : Nat := 0xF000C
abbrev Reg.COND_APPLY_BLOCK_LO : Nat := 0xF0010
abbrev Reg.COND_APPLY_BLOCK_HI : Nat := 0xF0014
abbrev Reg.COND_TRACK_CFG : Nat := 0xF0018
abbrev Reg.COND_PAGES : Nat := 0xF001C
abbrev Reg.COND_MDEC (k : Nat) : Nat := 0xF0100 + 4 * k
abbrev Reg.COND_CH (k : Nat) : Nat := 0xF1000 + 32 * k

/-! OBJ: 04_objects R123 -/
abbrev Reg.OBJ_BLOCK_ID (i : Nat) : Nat := 0x100000 + 0x100 * i
abbrev Reg.OBJ_CTRL (i : Nat) : Nat := 0x100004 + 0x100 * i
abbrev Reg.OBJ_STATUS (i : Nat) : Nat := 0x100008 + 0x100 * i
abbrev Reg.OBJ_STICKY (i : Nat) : Nat := 0x10000C + 0x100 * i
abbrev Reg.OBJ_EXTRAP_CFG (i : Nat) : Nat := 0x100010 + 0x100 * i
abbrev Reg.OBJ_AIR (i : Nat) : Nat := 0x100014 + 0x100 * i
abbrev Reg.OBJ_DECORR (i : Nat) : Nat := 0x100018 + 0x100 * i
abbrev Reg.OBJ_DF_CTRL (i : Nat) : Nat := 0x10001C + 0x100 * i
abbrev Reg.OBJ_DF (i k : Nat) : Nat := 0x100020 + 0x100 * i + 20 * k
abbrev Reg.OBJ_CUR_X (i : Nat) : Nat := 0x100070 + 0x100 * i
abbrev Reg.OBJ_CUR_Y (i : Nat) : Nat := 0x100074 + 0x100 * i
abbrev Reg.OBJ_CUR_Z (i : Nat) : Nat := 0x100078 + 0x100 * i
abbrev Reg.OBJ_CUR_GAIN (i : Nat) : Nat := 0x10007C + 0x100 * i
abbrev Reg.OBJ_CUR_SD (i : Nat) : Nat := 0x100080 + 0x100 * i
abbrev Reg.OBJ_CUR_BLOCK_LO (i : Nat) : Nat := 0x100084 + 0x100 * i
abbrev Reg.OBJ_CUR_BLOCK_HI (i : Nat) : Nat := 0x100088 + 0x100 * i
abbrev Reg.OBJ_LAST_SEQ (i : Nat) : Nat := 0x10008C + 0x100 * i
abbrev Reg.OBJ_LATE_COUNT (i : Nat) : Nat := 0x100090 + 0x100 * i
abbrev Reg.OBJ_EXTRAP_COUNT (i : Nat) : Nat := 0x100094 + 0x100 * i
abbrev Reg.OBJ_OVERFLOW_COUNT (i : Nat) : Nat := 0x100098 + 0x100 * i
abbrev Reg.OBJ_DROP_COUNT (i : Nat) : Nat := 0x10009C + 0x100 * i
abbrev Reg.OBJ_M_X (i : Nat) : Nat := 0x1000A0 + 0x100 * i
abbrev Reg.OBJ_M_Y (i : Nat) : Nat := 0x1000A4 + 0x100 * i
abbrev Reg.OBJ_M_Z (i : Nat) : Nat := 0x1000A8 + 0x100 * i
abbrev Reg.OBJ_M_GAIN (i : Nat) : Nat := 0x1000AC + 0x100 * i
abbrev Reg.OBJ_M_SD (i : Nat) : Nat := 0x1000B0 + 0x100 * i
abbrev Reg.OBJ_M_FLAGS (i : Nat) : Nat := 0x1000B4 + 0x100 * i
abbrev Reg.OBJ_M_TIME_S (i : Nat) : Nat := 0x1000B8 + 0x100 * i
abbrev Reg.OBJ_M_TIME_NS (i : Nat) : Nat := 0x1000BC + 0x100 * i
abbrev Reg.OBJ_M_PUSH (i : Nat) : Nat := 0x1000C0 + 0x100 * i

/-! SPK: 10_output_stage R267 -/
abbrev Reg.SPK_BLOCK_ID (i : Nat) : Nat := 0x140000 + 0x200 * i
abbrev Reg.SPK_CTRL (i : Nat) : Nat := 0x140004 + 0x200 * i
abbrev Reg.SPK_CMD (i : Nat) : Nat := 0x140008 + 0x200 * i
abbrev Reg.SPK_STATUS (i : Nat) : Nat := 0x14000C + 0x200 * i
abbrev Reg.SPK_STICKY (i : Nat) : Nat := 0x140010 + 0x200 * i
abbrev Reg.SPK_TRIM_FCAL (i : Nat) : Nat := 0x140014 + 0x200 * i
abbrev Reg.SPK_TRIM_UCAL (i : Nat) : Nat := 0x140018 + 0x200 * i
abbrev Reg.SPK_TRIM_ECAL (i : Nat) : Nat := 0x14001C + 0x200 * i
abbrev Reg.SPK_PROGRAM (i : Nat) : Nat := 0x140020 + 0x200 * i
abbrev Reg.SPK_FILTER (i : Nat) : Nat := 0x140024 + 0x200 * i
abbrev Reg.SPK_GR_COMP (i : Nat) : Nat := 0x140028 + 0x200 * i
abbrev Reg.SPK_GR_LIM (i : Nat) : Nat := 0x14002C + 0x200 * i
abbrev Reg.SPK_PEAK (i : Nat) : Nat := 0x140030 + 0x200 * i
abbrev Reg.SPK_LIM_BLOCKS (i : Nat) : Nat := 0x140034 + 0x200 * i
abbrev Reg.SPK_CLIP_COUNT (i : Nat) : Nat := 0x140038 + 0x200 * i
abbrev Reg.SPK_SAT_COUNT (i : Nat) : Nat := 0x14003C + 0x200 * i
abbrev Reg.SPK_XFADE (i : Nat) : Nat := 0x140040 + 0x200 * i
abbrev Reg.SPK_LATENCY (i : Nat) : Nat := 0x140044 + 0x200 * i

/-! SPKG: 11_gauge R298 -/
abbrev Reg.SPK_GCTRL (i : Nat) : Nat := 0x140100 + 0x200 * i
abbrev Reg.SPK_GCMD (i : Nat) : Nat := 0x140104 + 0x200 * i
abbrev Reg.SPK_GAUGE_STATUS (i : Nat) : Nat := 0x140108 + 0x200 * i
abbrev Reg.SPK_SENSE_SRC (i : Nat) : Nat := 0x14010C + 0x200 * i
abbrev Reg.SPK_MIC_SRC (i : Nat) : Nat := 0x140110 + 0x200 * i
abbrev Reg.SPK_SENSE_FS (i : Nat) : Nat := 0x140114 + 0x200 * i
abbrev Reg.SPK_VSCALE_FCAL (i : Nat) : Nat := 0x140118 + 0x200 * i
abbrev Reg.SPK_VSCALE_UCAL (i : Nat) : Nat := 0x14011C + 0x200 * i
abbrev Reg.SPK_VSCALE_ECAL (i : Nat) : Nat := 0x140120 + 0x200 * i
abbrev Reg.SPK_ISCALE_FCAL (i : Nat) : Nat := 0x140124 + 0x200 * i
abbrev Reg.SPK_ISCALE_UCAL (i : Nat) : Nat := 0x140128 + 0x200 * i
abbrev Reg.SPK_ISCALE_ECAL (i : Nat) : Nat := 0x14012C + 0x200 * i
abbrev Reg.SPK_Z_NOM (i : Nat) : Nat := 0x140130 + 0x200 * i
abbrev Reg.SPK_DET_CFG (i : Nat) : Nat := 0x140134 + 0x200 * i
abbrev Reg.SPK_THERM_A (i : Nat) : Nat := 0x140138 + 0x200 * i
abbrev Reg.SPK_THERM_B (i : Nat) : Nat := 0x14013C + 0x200 * i
abbrev Reg.SPK_T_AMB (i : Nat) : Nat := 0x140140 + 0x200 * i
abbrev Reg.SPK_RE_REF (i : Nat) : Nat := 0x140144 + 0x200 * i
abbrev Reg.SPK_T_REF (i : Nat) : Nat := 0x140148 + 0x200 * i
abbrev Reg.SPK_POL_FLAGS (i : Nat) : Nat := 0x14014C + 0x200 * i
abbrev Reg.SPK_POL_TOP_LO (i : Nat) : Nat := 0x140150 + 0x200 * i
abbrev Reg.SPK_POL_TOP_HI (i : Nat) : Nat := 0x140154 + 0x200 * i
abbrev Reg.SPK_POL_LIM_LO (i : Nat) : Nat := 0x140158 + 0x200 * i
abbrev Reg.SPK_POL_LIM_HI (i : Nat) : Nat := 0x14015C + 0x200 * i
abbrev Reg.SPK_T_START (i : Nat) : Nat := 0x140160 + 0x200 * i
abbrev Reg.SPK_T_MAX (i : Nat) : Nat := 0x140164 + 0x200 * i
abbrev Reg.SPK_RE_MEAS (i : Nat) : Nat := 0x140168 + 0x200 * i
abbrev Reg.SPK_COIL_TEMP (i : Nat) : Nat := 0x14016C + 0x200 * i
abbrev Reg.SPK_POWER (i : Nat) : Nat := 0x140170 + 0x200 * i
abbrev Reg.SPK_LIM_OFFSET (i : Nat) : Nat := 0x140174 + 0x200 * i
abbrev Reg.SPK_RHO (i : Nat) : Nat := 0x140178 + 0x200 * i
abbrev Reg.SPK_Z_BLOCK (i : Nat) : Nat := 0x14017C + 0x200 * i
abbrev Reg.SPK_CORR (i k : Nat) : Nat := 0x140180 + 0x200 * i + 4 * k

/-! RXS: 14_network R374 -/
abbrev Reg.RXS_BLOCK_ID (i : Nat) : Nat := 0x190000 + 0x100 * i
abbrev Reg.RXS_CTRL (i : Nat) : Nat := 0x190004 + 0x100 * i
abbrev Reg.RXS_FORMAT (i : Nat) : Nat := 0x190008 + 0x100 * i
abbrev Reg.RXS_LINK_OFFSET (i : Nat) : Nat := 0x19000C + 0x100 * i
abbrev Reg.RXS_ADDR (i k : Nat) : Nat := 0x190010 + 0x100 * i + 4 * k
abbrev Reg.RXS_UDP_PORT (i : Nat) : Nat := 0x190020 + 0x100 * i
abbrev Reg.RXS_SRC (i k : Nat) : Nat := 0x190024 + 0x100 * i + 4 * k
abbrev Reg.RXS_RTP_OFFSET (i : Nat) : Nat := 0x190034 + 0x100 * i
abbrev Reg.RXS_STATUS (i : Nat) : Nat := 0x190038 + 0x100 * i
abbrev Reg.RXS_STICKY (i : Nat) : Nat := 0x19003C + 0x100 * i
abbrev Reg.RXS_SSRC (i : Nat) : Nat := 0x190040 + 0x100 * i
abbrev Reg.RXS_FILL (i : Nat) : Nat := 0x190060 + 0x100 * i

/-! TXS: 14_network R375 -/
abbrev Reg.TXS_BLOCK_ID (i : Nat) : Nat := 0x198000 + 0x100 * i
abbrev Reg.TXS_CTRL (i : Nat) : Nat := 0x198004 + 0x100 * i
abbrev Reg.TXS_FORMAT (i : Nat) : Nat := 0x198008 + 0x100 * i
abbrev Reg.TXS_QOS (i : Nat) : Nat := 0x19800C + 0x100 * i
abbrev Reg.TXS_ADDR (i k : Nat) : Nat := 0x198010 + 0x100 * i + 4 * k
abbrev Reg.TXS_UDP_PORT (i : Nat) : Nat := 0x198020 + 0x100 * i
abbrev Reg.TXS_SSRC (i : Nat) : Nat := 0x198024 + 0x100 * i
abbrev Reg.TXS_TS_OFFSET (i : Nat) : Nat := 0x198028 + 0x100 * i
abbrev Reg.TXS_SEQ_OFFSET (i : Nat) : Nat := 0x19802C + 0x100 * i
abbrev Reg.TXS_STATUS (i : Nat) : Nat := 0x198030 + 0x100 * i
abbrev Reg.TXS_STICKY (i : Nat) : Nat := 0x198034 + 0x100 * i
abbrev Reg.TXS_PACKETS (i : Nat) : Nat := 0x198038 + 0x100 * i
abbrev Reg.TXS_LATE_DEPART (i : Nat) : Nat := 0x19803C + 0x100 * i

/-! TDM: 15_tdm_ports R393 -/
abbrev Reg.TDM_BLOCK_ID (i : Nat) : Nat := 0x1A0000 + 0x400 * i
abbrev Reg.TDM_CMD (i : Nat) : Nat := 0x1A0004 + 0x400 * i
abbrev Reg.TDM_STATUS (i : Nat) : Nat := 0x1A0008 + 0x400 * i
abbrev Reg.TDM_STICKY (i : Nat) : Nat := 0x1A000C + 0x400 * i
abbrev Reg.TDM_CFG0 (i : Nat) : Nat := 0x1A0010 + 0x400 * i
abbrev Reg.TDM_RX_MASK (i : Nat) : Nat := 0x1A0014 + 0x400 * i
abbrev Reg.TDM_TX_MASK (i : Nat) : Nat := 0x1A0018 + 0x400 * i
abbrev Reg.TDM_TX_FIRST (i : Nat) : Nat := 0x1A001C + 0x400 * i
abbrev Reg.TDM_MASK_EPOCH (i : Nat) : Nat := 0x1A0020 + 0x400 * i
abbrev Reg.TDM_MASK_FRAME (i : Nat) : Nat := 0x1A0024 + 0x400 * i
abbrev Reg.TDM_FRAME_COUNT (i : Nat) : Nat := 0x1A0028 + 0x400 * i
abbrev Reg.TDM_FIFO (i : Nat) : Nat := 0x1A002C + 0x400 * i
abbrev Reg.TDM_RATE_ERR (i : Nat) : Nat := 0x1A0030 + 0x400 * i
abbrev Reg.TDM_DIV_ACT (i : Nat) : Nat := 0x1A0034 + 0x400 * i
abbrev Reg.TDM_SLIPS_RX (i : Nat) : Nat := 0x1A0038 + 0x400 * i
abbrev Reg.TDM_SLIPS_TX (i : Nat) : Nat := 0x1A003C + 0x400 * i
abbrev Reg.TDM_BAD_FRAMES (i : Nat) : Nat := 0x1A0040 + 0x400 * i
abbrev Reg.TDM_STALLS (i : Nat) : Nat := 0x1A0044 + 0x400 * i
abbrev Reg.TDM_UNLOCKS (i : Nat) : Nat := 0x1A0048 + 0x400 * i
abbrev Reg.TDM_DMA_CFG (i : Nat) : Nat := 0x1A004C + 0x400 * i
abbrev Reg.TDM_DMA_BASE_LO (i : Nat) : Nat := 0x1A0050 + 0x400 * i
abbrev Reg.TDM_DMA_BASE_HI (i : Nat) : Nat := 0x1A0054 + 0x400 * i
abbrev Reg.TDM_DMA_WRPTR (i : Nat) : Nat := 0x1A0058 + 0x400 * i

/-! TILE: 05_render_array R155 -/
abbrev Reg.TILE_BLOCK_ID (i : Nat) : Nat := 0x1B0000 + 0x1000 * i
abbrev Reg.TILE_CTRL (i : Nat) : Nat := 0x1B0004 + 0x1000 * i
abbrev Reg.TILE_CMD (i : Nat) : Nat := 0x1B0008 + 0x1000 * i
abbrev Reg.TILE_STATUS (i : Nat) : Nat := 0x1B000C + 0x1000 * i
abbrev Reg.TILE_OBJECTS (i : Nat) : Nat := 0x1B0010 + 0x1000 * i
abbrev Reg.TILE_HIST_PAGES (i : Nat) : Nat := 0x1B0014 + 0x1000 * i
abbrev Reg.TILE_LOAD (i : Nat) : Nat := 0x1B0018 + 0x1000 * i
abbrev Reg.TILE_PAIRS (i : Nat) : Nat := 0x1B001C + 0x1000 * i
abbrev Reg.TILE_PARITY_COUNT (i : Nat) : Nat := 0x1B0020 + 0x1000 * i
abbrev Reg.TILE_KAT_PASS (i : Nat) : Nat := 0x1B0024 + 0x1000 * i
abbrev Reg.TILE_KAT_FAIL (i : Nat) : Nat := 0x1B0028 + 0x1000 * i
abbrev Reg.TILE_BANK_STALLS (i : Nat) : Nat := 0x1B002C + 0x1000 * i
abbrev Reg.TILE_SAT_COUNT (i : Nat) : Nat := 0x1B0030 + 0x1000 * i
abbrev Reg.TILE_SLEW_COUNT (i : Nat) : Nat := 0x1B0034 + 0x1000 * i
abbrev Reg.TILE_CLAMP_COUNT (i : Nat) : Nat := 0x1B0038 + 0x1000 * i
abbrev Reg.TILE_SPEC_CANCEL (i : Nat) : Nat := 0x1B003C + 0x1000 * i

/-! NDL: 07_needles R191 -/
abbrev Reg.NDL_BLOCK_ID (i : Nat) : Nat := 0x1F4000 + 0x400 * i
abbrev Reg.NDL_CTRL (i : Nat) : Nat := 0x1F4004 + 0x400 * i
abbrev Reg.NDL_CMD (i : Nat) : Nat := 0x1F4008 + 0x400 * i
abbrev Reg.NDL_STATUS (i : Nat) : Nat := 0x1F400C + 0x400 * i
abbrev Reg.NDL_PAGES (i : Nat) : Nat := 0x1F4010 + 0x400 * i
abbrev Reg.NDL_LOAD (i : Nat) : Nat := 0x1F4014 + 0x400 * i
abbrev Reg.NDL_UNITS (i : Nat) : Nat := 0x1F4018 + 0x400 * i
abbrev Reg.NDL_STEALS (i : Nat) : Nat := 0x1F401C + 0x400 * i
abbrev Reg.NDL_STOLEN (i : Nat) : Nat := 0x1F4020 + 0x400 * i
abbrev Reg.NDL_STEAL_FAILS (i : Nat) : Nat := 0x1F4024 + 0x400 * i
abbrev Reg.NDL_DEQUE_MAX (i : Nat) : Nat := 0x1F4028 + 0x400 * i
abbrev Reg.NDL_LATE_MB (i : Nat) : Nat := 0x1F402C + 0x400 * i
abbrev Reg.NDL_REMOTE_READS (i : Nat) : Nat := 0x1F4030 + 0x400 * i
abbrev Reg.NDL_PAGEIN_WAITS (i : Nat) : Nat := 0x1F4034 + 0x400 * i
abbrev Reg.NDL_PARITY_COUNT (i : Nat) : Nat := 0x1F4038 + 0x400 * i
abbrev Reg.NDL_KAT_PASS (i : Nat) : Nat := 0x1F403C + 0x400 * i
abbrev Reg.NDL_KAT_FAIL (i : Nat) : Nat := 0x1F4040 + 0x400 * i

/-! CAS: 16_cascade R416 -/
abbrev Reg.CAS_BLOCK_ID (i : Nat) : Nat := 0x1F8000 + 0x2000 * i
abbrev Reg.CAS_CMD (i : Nat) : Nat := 0x1F8004 + 0x2000 * i
abbrev Reg.CAS_STATUS (i : Nat) : Nat := 0x1F8008 + 0x2000 * i
abbrev Reg.CAS_STICKY (i : Nat) : Nat := 0x1F800C + 0x2000 * i
abbrev Reg.CAS_CFG0 (i : Nat) : Nat := 0x1F8010 + 0x2000 * i
abbrev Reg.CAS_CFG1 (i : Nat) : Nat := 0x1F8014 + 0x2000 * i
abbrev Reg.CAS_CFG2 (i : Nat) : Nat := 0x1F8018 + 0x2000 * i
abbrev Reg.CAS_NEIGHBOUR_LO (i : Nat) : Nat := 0x1F801C + 0x2000 * i
abbrev Reg.CAS_NEIGHBOUR_HI (i : Nat) : Nat := 0x1F8020 + 0x2000 * i
abbrev Reg.CAS_LINK_DELAY (i : Nat) : Nat := 0x1F8024 + 0x2000 * i
abbrev Reg.CAS_LINK_OFFSET (i : Nat) : Nat := 0x1F8028 + 0x2000 * i
abbrev Reg.CAS_FRAMES_RX (i : Nat) : Nat := 0x1F802C + 0x2000 * i
abbrev Reg.CAS_FRAMES_TX (i : Nat) : Nat := 0x1F8030 + 0x2000 * i
abbrev Reg.CAS_CRC_ERRORS (i : Nat) : Nat := 0x1F8034 + 0x2000 * i
abbrev Reg.CAS_BAD_SECTIONS (i : Nat) : Nat := 0x1F8038 + 0x2000 * i
abbrev Reg.CAS_HOP_DROPS (i : Nat) : Nat := 0x1F803C + 0x2000 * i
abbrev Reg.CAS_LINK_DOWNS (i : Nat) : Nat := 0x1F8040 + 0x2000 * i

/-! CAS0: 16_cascade R417 -/
abbrev Reg.CAS_ROLE : Nat := 0x1F8100
abbrev Reg.CAS_ROLE2 : Nat := 0x1F8104
abbrev Reg.CAS_CTRL : Nat := 0x1F8108
abbrev Reg.CAS_STATE : Nat := 0x1F810C
abbrev Reg.CAS_MIX_CFG : Nat := 0x1F8110
abbrev Reg.CAS_OUT_EXPORT : Nat := 0x1F8114
abbrev Reg.CAS_LOSS_CFG : Nat := 0x1F8118
abbrev Reg.CAS_MIX_ABSENT : Nat := 0x1F811C
abbrev Reg.CAS_IMPORT_CONCEAL : Nat := 0x1F8120
abbrev Reg.CAS_META_FWD : Nat := 0x1F8124
abbrev Reg.CAS_META_LATE : Nat := 0x1F8128
abbrev Reg.CAS_EXPORT (k : Nat) : Nat := 0x1F8200 + 4 * k
abbrev Reg.CAS_IMPORT (k : Nat) : Nat := 0x1F9000 + 4 * k

/-! OMD: 04_objects R122 -/
abbrev Reg.OMD_BLOCK_ID : Nat := 0x200000
abbrev Reg.OMD_CTRL : Nat := 0x200004
abbrev Reg.OMD_CMD : Nat := 0x200008
abbrev Reg.OMD_STATUS : Nat := 0x20000C
abbrev Reg.OMD_APPLY_BLOCK_LO : Nat := 0x200010
abbrev Reg.OMD_APPLY_BLOCK_HI : Nat := 0x200014
abbrev Reg.OMD_CFG : Nat := 0x200018
abbrev Reg.OMD_OSC_CFG : Nat := 0x20001C
abbrev Reg.OMD_RX_PACKETS : Nat := 0x200020
abbrev Reg.OMD_RX_ENTRIES : Nat := 0x200024
abbrev Reg.OMD_DROP_VERSION : Nat := 0x200028
abbrev Reg.OMD_DROP_TARGET : Nat := 0x20002C
abbrev Reg.OMD_DROP_FORMAT : Nat := 0x200030
abbrev Reg.OMD_DROP_SEQUENCE : Nat := 0x200034
abbrev Reg.OMD_DROP_OBJECT : Nat := 0x200038
abbrev Reg.OMD_OSC_MESSAGES : Nat := 0x20003C
abbrev Reg.OMD_OSC_DROPPED : Nat := 0x200040

/-! RNDR: 05_render_array R153 -/
abbrev Reg.RNDR_BLOCK_ID : Nat := 0x210000
abbrev Reg.RNDR_CTRL : Nat := 0x210004
abbrev Reg.RNDR_CMD : Nat := 0x210008
abbrev Reg.RNDR_TOL_POS : Nat := 0x21000C
abbrev Reg.RNDR_TOL_GAIN : Nat := 0x210010
abbrev Reg.RNDR_STATUS : Nat := 0x210014
abbrev Reg.RNDR_SPEC_COMMIT : Nat := 0x210018
abbrev Reg.RNDR_SPEC_CANCEL : Nat := 0x21001C
abbrev Reg.RNDR_LAW_SWITCH : Nat := 0x210020
abbrev Reg.RNDR_AMP_OUTSIDE : Nat := 0x210024
abbrev Reg.RNDR_PAIRS_LAST : Nat := 0x210028
abbrev Reg.RNDR_ZONE (k : Nat) : Nat := 0x210100 + 4 * k

/-! XP: 09_crosspoints R235 -/
abbrev Reg.XP_BLOCK_ID : Nat := 0x220000
abbrev Reg.XP_CTRL : Nat := 0x220004
abbrev Reg.XP_CMD : Nat := 0x220008
abbrev Reg.XP_STATUS : Nat := 0x22000C
abbrev Reg.XP_APPLY_BLOCK_LO : Nat := 0x220010
abbrev Reg.XP_APPLY_BLOCK_HI : Nat := 0x220014
abbrev Reg.XP_IXP_COUNT : Nat := 0x220018
abbrev Reg.XP_OXP_COUNT : Nat := 0x22001C
abbrev Reg.XP_STICKY : Nat := 0x220020
abbrev Reg.XP_REFUSED : Nat := 0x220024
abbrev Reg.XP_LAST_REFUSED : Nat := 0x220028
abbrev Reg.XP_IXP_SAT : Nat := 0x22002C
abbrev Reg.XP_OXP_SAT : Nat := 0x220030
abbrev Reg.XP_LAST_SAT : Nat := 0x220034
abbrev Reg.XP_PEEK_ADDR : Nat := 0x220038
abbrev Reg.XP_PEEK_TARGET : Nat := 0x22003C
abbrev Reg.XP_PEEK_NOW : Nat := 0x220040
abbrev Reg.XP_PEEK_STATE : Nat := 0x220044
abbrev Reg.XP_DEST_SEL : Nat := 0x220048
abbrev Reg.XP_DEST_COUNT : Nat := 0x22004C
abbrev Reg.XP_BUS (k : Nat) : Nat := 0x220100 + 4 * k
abbrev Reg.XP_DIRECT (k : Nat) : Nat := 0x220200 + 4 * k
abbrev Reg.XP_GEN (k : Nat) : Nat := 0x220300 + 8 * k
abbrev Reg.XP_IXP_RAMP (k : Nat) : Nat := 0x221000 + 4 * k
abbrev Reg.XP_OXP_RAMP (k : Nat) : Nat := 0x223000 + 4 * k

/-! OUTS: 10_output_stage R264 -/
abbrev Reg.OUTS_BLOCK_ID : Nat := 0x230000
abbrev Reg.OUTS_CTRL : Nat := 0x230004
abbrev Reg.OUTS_CMD : Nat := 0x230008
abbrev Reg.OUTS_STATUS : Nat := 0x23000C
abbrev Reg.OUTS_APPLY_BLOCK_LO : Nat := 0x230010
abbrev Reg.OUTS_APPLY_BLOCK_HI : Nat := 0x230014
abbrev Reg.OUTS_STAGE_ADDR_LO : Nat := 0x230018
abbrev Reg.OUTS_STAGE_ADDR_HI : Nat := 0x23001C
abbrev Reg.OUTS_STAGE_TAPS : Nat := 0x230020
abbrev Reg.OUTS_TARGET : Nat := 0x230024
abbrev Reg.OUTS_SWAP_BLOCK_LO : Nat := 0x230028
abbrev Reg.OUTS_SWAP_BLOCK_HI : Nat := 0x23002C
abbrev Reg.OUTS_SWAP_CFG : Nat := 0x230030
abbrev Reg.OUTS_SWAPS : Nat := 0x230034
abbrev Reg.OUTS_PREP_FAILS : Nat := 0x230038
abbrev Reg.OUTS_SEQ_LOAD : Nat := 0x23003C

/-! NETC: 14_network R373 -/
abbrev Reg.NETC_BLOCK_ID : Nat := 0x240000
abbrev Reg.NETC_CTRL : Nat := 0x240004
abbrev Reg.NETC_CMD : Nat := 0x240008
abbrev Reg.NETC_STATUS : Nat := 0x24000C
abbrev Reg.NETC_PRP_CFG : Nat := 0x240010
abbrev Reg.NETC_CTL_QOS : Nat := 0x240014
abbrev Reg.NETC_TUN_DROP_FORMAT : Nat := 0x240040
abbrev Reg.NETC_KEY (k : Nat) : Nat := 0x240100 + 16 * k
abbrev Reg.NETC_KEY_CTRL (k : Nat) : Nat := 0x240200 + 4 * k
abbrev Reg.NETC_LAST_SEQ (k : Nat) : Nat := 0x240240 + 4 * k
abbrev Reg.NETC_GROUP (k : Nat) : Nat := 0x240300 + 16 * k
abbrev Reg.NETC_GROUP_CTRL (k : Nat) : Nat := 0x240400 + 4 * k

/-! BOOTF: 19_show_store R485 -/
abbrev Reg.BOOTF_BLOCK_ID : Nat := 0x250000
abbrev Reg.BOOTF_CMD : Nat := 0x250004
abbrev Reg.BOOTF_STATUS : Nat := 0x250008
abbrev Reg.BOOTF_STAGE_ADDR_LO : Nat := 0x25000C
abbrev Reg.BOOTF_STAGE_ADDR_HI : Nat := 0x250010
abbrev Reg.BOOTF_LEN : Nat := 0x250014
abbrev Reg.BOOTF_FLASH_ADDR : Nat := 0x250018
abbrev Reg.BOOTF_BOOT_CFG : Nat := 0x25001C
abbrev Reg.BOOTF_FW_VERSION0 : Nat := 0x250020
abbrev Reg.BOOTF_FW_VERSION1 : Nat := 0x250024
abbrev Reg.BOOTF_PAT_REJECT : Nat := 0x250028

/-! HOST: 20_host_and_events R510 -/
abbrev Reg.HOST_BLOCK_ID : Nat := 0x260000
abbrev Reg.HOST_STATUS : Nat := 0x260004
abbrev Reg.HOST_CMD : Nat := 0x260008
abbrev Reg.HOST_FW_VERSION : Nat := 0x26000C
abbrev Reg.HOST_HEARTBEAT : Nat := 0x260010
abbrev Reg.HOST_MB_DOORBELL : Nat := 0x260014
abbrev Reg.HOST_MB_STATUS : Nat := 0x260018
abbrev Reg.HOST_PARTIAL_WRITES : Nat := 0x26001C
abbrev Reg.HOST_LINK_DOWNS : Nat := 0x260020
abbrev Reg.HOST_MB_REQ (k : Nat) : Nat := 0x260100 + 4 * k
abbrev Reg.HOST_MB_REPLY (k : Nat) : Nat := 0x260500 + 4 * k
/-! EVT vectors: R509; MSI-X structures: R486 -/
abbrev Reg.VEC_CFG (k : Nat) : Nat := 0x20100 + 16 * k
abbrev Reg.VEC_STATUS (k : Nat) : Nat := 0x20104 + 16 * k
abbrev Reg.VEC_ACK (k : Nat) : Nat := 0x20108 + 16 * k
abbrev Reg.VEC_RAISES (k : Nat) : Nat := 0x2010C + 16 * k
abbrev Reg.MSIX_VCTRL (k : Nat) : Nat := 0x27000C + 16 * k

/-! Counter groups of NETC (R373), RXS (R374), STORE (R483) and HEDGE (R436); key and group words of NETC -/
abbrev Reg.NETC_PRP_DUP_DISCARD : Nat := 0x240018
abbrev Reg.NETC_PRP_WRONG_LAN : Nat := 0x24001C
abbrev Reg.NETC_PRP_NO_RCT : Nat := 0x240020
abbrev Reg.NETC_PRP_UNTRACKED : Nat := 0x240024
abbrev Reg.NETC_TUN_REQUESTS : Nat := 0x240028
abbrev Reg.NETC_TUN_AUTH_FAIL : Nat := 0x24002C
abbrev Reg.NETC_TUN_REPLAY : Nat := 0x240030
abbrev Reg.NETC_TUN_REPLAYS_ANSWERED : Nat := 0x240034
abbrev Reg.NETC_TUN_MALFORMED : Nat := 0x240038
abbrev Reg.NETC_TUN_BUSY_DROPS : Nat := 0x24003C
abbrev Reg.RXS_PACKETS (i : Nat) : Nat := 0x190044 + 0x100 * i
abbrev Reg.RXS_LOST (i : Nat) : Nat := 0x190048 + 0x100 * i
abbrev Reg.RXS_LATE (i : Nat) : Nat := 0x19004C + 0x100 * i
abbrev Reg.RXS_EARLY (i : Nat) : Nat := 0x190050 + 0x100 * i
abbrev Reg.RXS_DUPLICATES (i : Nat) : Nat := 0x190054 + 0x100 * i
abbrev Reg.RXS_FORMAT_ERRORS (i : Nat) : Nat := 0x190058 + 0x100 * i
abbrev Reg.RXS_SSRC_CHANGES (i : Nat) : Nat := 0x19005C + 0x100 * i

/-! COND channels: R93 -/
abbrev Reg.CH_CTRL (k : Nat) : Nat := 0xF1000 + 32 * k
abbrev Reg.CH_PHASE_DELAY (k : Nat) : Nat := 0xF1004 + 32 * k
abbrev Reg.CH_APPLIED_DELAY (k : Nat) : Nat := 0xF1008 + 32 * k
abbrev Reg.CH_STATUS (k : Nat) : Nat := 0xF100C + 32 * k
abbrev Reg.CH_RATIO (k : Nat) : Nat := 0xF1010 + 32 * k

/-! SKEIN clients: R176 -/
abbrev Reg.SKEIN_HELD (c : Nat) : Nat := 0x70100 + 8 * c
abbrev Reg.SKEIN_PEAK (c : Nat) : Nat := 0x70104 + 8 * c

/-! Counters of STORE (R483) -/
abbrev Reg.STORE_RETRIES : Nat := 0xA004C
abbrev Reg.STORE_UNCORRECTABLE : Nat := 0xA0050
abbrev Reg.STORE_REFRESHES : Nat := 0xA0054
abbrev Reg.STORE_WEAR_MOVES : Nat := 0xA0058
abbrev Reg.STORE_GROWN_BAD : Nat := 0xA005C
abbrev Reg.STORE_HOLDS : Nat := 0xA0060

/-! Counters of HEDGE (R436) -/
abbrev Reg.HEDGE_PEER_LOSSES : Nat := 0xB005C
abbrev Reg.HEDGE_QUERIES : Nat := 0xB0060
abbrev Reg.HEDGE_VERDICTS : Nat := 0xB0064
abbrev Reg.HEDGE_ARB_TIMEOUTS : Nat := 0xB0068
abbrev Reg.HEDGE_TAKEOVERS : Nat := 0xB006C
abbrev Reg.HEDGE_RELEASES : Nat := 0xB0070
abbrev Reg.HEDGE_DUAL_BLOCKS : Nat := 0xB0074
abbrev Reg.HEDGE_EPOCHS_DISCARDED : Nat := 0xB0078
abbrev Reg.HEDGE_MISMATCHES : Nat := 0xB007C
abbrev Reg.HEDGE_RESYNCS : Nat := 0xB0080
abbrev Reg.HEDGE_WITHHELD : Nat := 0xB0084
abbrev Reg.HEDGE_AUTH_FAILS : Nat := 0xB0088

end Sys2Proof.Machine
end

