-- ==== Sys2Proof/Config.lean ====
section
/-! DEFINITION. What the manual leaves to an implementation, and the free values: constants without a body, so that
nothing in Lean can evaluate them and a statement holds whatever they are. -/

namespace Sys2Proof.Config

/-- The free words: values the manual leaves open, taken in order (State.freeIdx). -/
opaque freeWord : Nat → Word

/-- The time servo (R325): the manual gives the bandwidths and not the loop gains. Arguments: BANDWIDTH, the integral
term (2^-16 of 0.001 ppm) and the offset (2^-16 ns). -/
opaque servoSteer : Nat → Int → Int → Int
opaque servoIntegral : Nat → Int → Int → Int

/-- The depth of a transmit queue, in frames (R347 gives none). -/
opaque txQueueDepth : Nat

/-- Coefficient j of phase m of the resampler at a rate code (R78, Q2.30): the manual gives the response (R80) and not the
taps. -/
opaque resampleTap : Nat → Nat → Nat → Int

/-- The decimators of the measurement inputs (R89): MODE, CLKDIV, fractional delay in 1/128 sample and the modulator
bits of the ticks so far, newest first. -/
opaque decimate : Nat → Nat → Nat → List Int → Int

/-- The TRACK loop (R81): BANDWIDTH, nominal and present increment (UQ.40) and the fill error; the increment it demands. -/
opaque trackLoop : Nat → Int → Int → Int → Int

/-- The 48 kHz decimator of a transmit stream (R363): 65 samples centred on the stamped tick, oldest first. -/
opaque txDecimate : List Int → Int

/-- The low-pass of the HYBRID crossover (R136): the crossover frequency in Hz and the input, newest first. -/
opaque hybridLow : Nat → List Int → Int

/-- Tap t of interpolator phase m, 1 to 127 (R142, Q2.30): the manual gives the error bounds (R144) and not the ROM. -/
opaque interpTap : Nat → Nat → Int

/-- Pink noise generator g at sample tick s (R222, Q1.31). -/
opaque pinkNoise : Nat → Nat → Int

/-- Tap t of the 1,024-tap minimum-phase filter of a correction vector (R291), × 2^40: the manual names the fixed function
and does not give it. -/
opaque minPhaseTap : List Int → Nat → Int

/-- The firmware's reading of an SDP text (R505): the words of RXS[s] from CTRL on, or none where it finds no stream. The manual
names RFC 8866 and the AES67 attributes and does not give the mapping. -/
opaque sdpParse : List Byte → Option (Nat → Word)

/-- The SDP text of a transmit stream (R505), from the words of TXS[s] from CTRL on. -/
opaque sdpText : List Word → List Byte

end Sys2Proof.Config
end

