-- ==== Sys2Proof/Machine/State.lean ====
section
/-! DEFINITION. The state of the block, as plain data: everything the manual gives the device, the queue of commands
that wait, and three fields of the model's own (`freeIdx`, `outbox`, `readData`). Status words that software reads
whole stand in the register file; what they do not show stands in the records below. The reset value of every
register is that of its table (Machine/RegMap.lean); the default of every other field is its value at reset. -/

namespace Sys2Proof.Machine

/-- Nothing in this model stops with a fault: the block has no fault of its own, and every error the manual
describes is a status bit, a counter or an event. Safe: no state is cut off by it. -/
inductive Fault where
  deriving DecidableEq, Repr

/-- Why a command has no meaning. -/
inductive Refusal where
  /-- Raised by the arm of a command that has no meaning yet (Machine/Dispatch.lean). Safe: the model stops where the
  hardware goes on. -/
  | notModelled (mnemonic : String)
  deriving DecidableEq, Repr

/-- Register values by BAR0 offset, rising, without entries equal to the reset value. -/
abbrev RegFile := List (Nat × Word)

/-- The three parts of the family (variant table of the scope chapter). -/
inductive Part where
  | f8248
  | f8244
  | f8242
  deriving DecidableEq, Repr

/-- What one device is: its part, its stepping, its OTP contents and its fitted DRAM. OTP is kept by every reset
(R526); only `revoked` can change, by KEY_REVOKE (R63). -/
structure Device where
  part : Part := .f8248
  /-- IDENT.VARIANT.STEPPING, from 0x01 (R3). -/
  stepping : Nat := 1
  /-- The factory calibration window by IDENT offset (R270); offsets not listed read 0. -/
  fcal : List (Nat × Word) := []
  /-- The four OTP key slots: SHA-384 hashes as numbers, 0 for an empty slot (R62). -/
  keyHash : List Nat := [0, 0, 0, 0]
  /-- OTP revoke bits, one per key slot (R63). -/
  revoked : Nat := 0
  /-- Fitted DRAM in GiB per channel (DRAM[n].SIZE, R460). -/
  dramGiB : Nat := 8
  deriving DecidableEq, Repr

/-- The coalescing timers of the event vectors and the messages held for D3hot (R497, R502). The other fields of a
vector stand in its STATUS register. -/
structure EvtUnit where
  /-- Timer k: elapsed root counts, or none while it is stopped. -/
  timers : List (Option Nat) := List.replicate 8 none
  /-- Vectors whose message waits for D0 (R502). -/
  d3Held : List Bool := List.replicate 8 false
  /-- The MSI-X Message Control bits of PCIe configuration space (R501). -/
  msixEnable : Bool := false
  functionMask : Bool := false
  /-- PME_Status of the function (R502). -/
  pmeStatus : Bool := false
  deriving DecidableEq, Repr

/-- A mailbox reply the firmware has formed and not yet written (R504, R506). -/
structure MailboxReply where
  result : Nat
  payload : List Word
  deriving DecidableEq, Repr

/-- The supervisor firmware and its mailbox (R504 to R507). -/
structure HostUnit where
  /-- The reply formed by the service that ran, until MAILBOX_REPLY writes it. -/
  reply : Option MailboxReply := none
  /-- A function reset discards the reply of the request in progress (R488). -/
  discardReply : Bool := false
  /-- The boot-flash slot whose image runs: 0, 1, or none for an image loaded by FW_LOAD (R480, R505). -/
  runningSlot : Option Nat := none
  /-- Ticks since HEARTBEAT last advanced (R510: every 10 ms). -/
  heartbeatTicks : Nat := 0
  /-- Ticks that FW_STATE has been FAULT (R528). -/
  faultTicks : Nat := 0
  /-- A mailbox RESET that has replied: its type and the ticks left until it acts (R526). -/
  resetDue : Option (Nat × Nat) := none
  /-- Ticks until a FIRMWARE reset has FW_STATE back at RUNNING (R526). -/
  fwRestart : Option Nat := none
  deriving DecidableEq, Repr

/-- The always-on monitors and the reset sequencer (R513, R523, R525). -/
structure ClkUnit where
  /-- First instant of the open dip below warning, in µs. -/
  dipFirst : Nat := 0
  /-- Last instant of recovery in the open dip, in µs. -/
  dipLast : Nat := 0
  /-- Consecutive thermal samples at or above 135.00 °C. -/
  hotSamples : Nat := 0
  /-- The device is held in a THERMAL reset (R525). -/
  thermalHold : Bool := false
  /-- Event 3 latches during the next start-up (R525). -/
  thermalTrip : Bool := false
  deriving DecidableEq, Repr

/-- A sequence window: the last accepted number, bit b of `seen` for last − b, and consecutive rejections (R102). -/
structure SeqWindow where
  last : Nat
  seen : Nat
  rejects : Nat := 0
  deriving DecidableEq, Repr

/-! ### The Pattern: the parsed records of a region (R40 to R55) -/

/-- ZONE entry (R41): law 0 DELAY, 1 AMP, 2 HYBRID; sound speed in Q16.16 m/s; the delay limit in 1/128 sample. -/
structure Zone where
  id : Nat
  law : Nat
  set : Nat
  crossover : Nat
  speed : Nat
  maxDelay : Nat
  deriving DecidableEq, Repr

/-- A position in Q16.16 metres. -/
structure Pos where
  x : Int := 0
  y : Int := 0
  z : Int := 0
  deriving DecidableEq, Repr

/-- SPEAKER_SET (R42): outputs with their positions, and triangles as indexes into the set. -/
structure SpeakerSet where
  id : Nat
  spk : List (Nat × Pos)
  tri : List (Nat × Nat × Nat)
  deriving DecidableEq, Repr

/-- OBJECT_GROUP (R43). -/
structure ObjGroup where
  zone : Nat
  foreground : Bool
  comp : Bool
  first : Nat
  count : Nat
  deriving DecidableEq, Repr

/-- GRAPH_NODES entry (R45). -/
structure GNode where
  node : Nat
  nkind : Nat
  engine : Nat
  flow : Nat
  deadline : Nat
  cost : Nat
  operand : Nat
  deriving DecidableEq, Repr

/-- GRAPH_EDGES entry (R45). -/
structure GEdge where
  src : Nat
  dst : Nat
  region : Nat
  prev : Bool
  deriving DecidableEq, Repr

/-- TILE_MAP entry (R47). -/
structure TileEntry where
  tile : Nat
  count : Nat
  first : Nat
  pages : Nat
  deriving DecidableEq, Repr

/-- ROW_PROGRAM (R49): instruction words and initial parameter slots. -/
structure RowProgram where
  id : Nat
  first : Nat
  n : Nat
  instr : List Nat
  params : List Word
  deriving DecidableEq, Repr

/-- FILTER_SET (R50). Inline coefficients are output-major, Q1.31. -/
structure FilterSet where
  id : Nat
  first : Nat
  n : Nat
  source : Nat
  taps : Nat
  ref : Nat
  coefs : List Int
  deriving DecidableEq, Repr

/-- A crosspoint default (R48). -/
structure XpEntry where
  ixp : Bool
  dst : Nat
  src : Nat
  gain : Word
  deriving DecidableEq, Repr

/-- PORT_CONFIG entry (R51). -/
structure PortCfg where
  cls : Nat
  inst : Nat
  vals : List Word
  deriving DecidableEq, Repr

/-- STREAM_CONFIG entry (R52). -/
structure StreamCfg where
  transmit : Bool
  stream : Nat
  channels : Nat
  encoding : Nat
  rate : Nat
  ptime : Nat
  firstCh : Nat
  linkOffset : Nat
  address : Nat
  port : Nat
  deriving DecidableEq, Repr

/-- TIME_ACTIONS entry (R53). -/
structure ActionCfg where
  ta : Nat
  kind : Nat
  late : Nat
  output : Nat
  seconds : Nat
  nanos : Nat
  period : Nat
  count : Nat
  /-- PAY_OFFSET, and the bytes that are loaded there. -/
  payOffset : Nat
  payload : List Byte
  deriving DecidableEq, Repr

/-- GAUGE_POLICY entry (R54). -/
structure GaugePolicy where
  first : Nat
  count : Nat
  param : Nat
  freeze : Bool
  lo : Int
  hi : Int
  deriving DecidableEq, Repr

/-- CASCADE_ROLE (R55). -/
structure CascadeRole where
  id : Nat
  master : Nat
  backup : Nat
  mode : Nat
  ports : Nat
  hopLimit : Nat
  deriving DecidableEq, Repr

/-- HEDGE_CONFIG (R55). -/
structure HedgeCfg where
  peer : Nat
  secondary : Bool
  autoRevert : Bool
  arbTimeout : Nat
  revertHold : Nat
  arbiter : Nat
  deriving DecidableEq, Repr

/-- REGISTER_PRESET entry (R56). -/
structure Preset where
  off : Nat
  val : Word
  mask : Word
  deriving DecidableEq, Repr

/-- How a region version enters or leaves the audio: a full load (block B), a crossfade of R304 (block C and its
length), or a hard switch of R306 (block C, or the retire block of a bind-off). -/
inductive Fade where
  | load (b : Nat)
  | cross (c l : Nat)
  | hard (c : Nat)
  /-- A kind without audio changes at block C without a transition (R306 step 5, R307). -/
  | cut (c : Nat)
  deriving DecidableEq, Repr

/-- One version of a region: its table entry (R31), REGION_INFO (R40) and the records it holds. -/
structure Region where
  id : Nat
  kind : Nat
  priority : Nat
  parallel : Bool
  deps : List Nat
  tiles : Nat
  needles : Nat
  pages : Nat
  dramMiB : Nat
  xfade : Nat := 256
  loads : List Nat := [0, 0, 0, 0]
  origin : Pos := {}
  version : Nat := 0
  zones : List Zone := []
  sets : List SpeakerSet := []
  groups : List ObjGroup := []
  nodes : List GNode := []
  edges : List GEdge := []
  tileMap : List TileEntry := []
  programs : List RowProgram := []
  filters : List FilterSet := []
  xp : List XpEntry := []
  ports : List PortCfg := []
  streams : List StreamCfg := []
  actions : List ActionCfg := []
  policies : List GaugePolicy := []
  cascade : Option CascadeRole := none
  hedge : Option HedgeCfg := none
  presets : List Preset := []
  deriving DecidableEq, Repr

/-- A committed version: the block as of which it committed, how it enters and, once replaced or bound off, how it
leaves. -/
structure Version where
  uid : Nat
  region : Region
  since : Nat
  enter : Option Fade := none
  leave : Option Fade := none
  /-- It replaces a committed version of the same region (R544 otherwise). -/
  replaces : Bool := false
  /-- Event 22, or for a full load event 16, is still to come. -/
  settling : Bool := false
  deriving DecidableEq, Repr

/-- A shadow: the regions of a verified container and its header. -/
structure Shadow where
  regions : List Region
  full : Bool
  crc : Nat
  build : Nat
  time : Nat
  key : Nat
  /-- CAP_MASK (R35). -/
  caps : Nat
  boot : Bool
  deriving DecidableEq, Repr

/-- The loader beyond its registers. -/
structure PatUnit where
  /-- The copy in the loader area (R68). -/
  image : List Byte := []
  /-- The revoke bits sampled at the key check (R63). -/
  sampled : Option Nat := none
  shadow : Option Shadow := none
  /-- The commit block of a pending COMMIT (R301). -/
  commitAt : Option Nat := none
  /-- Committed versions, by region ID, an old version before its replacement. -/
  versions : List Version := []
  nextUid : Nat := 1
  /-- A full load in its three silent blocks: its block B (R59). -/
  loadAt : Option Nat := none
  /-- Regions to bind off, with their retire blocks (R310, R319). -/
  bindOff : List (Nat × Nat) := []
  /-- CAP_MASK of the active full Pattern. -/
  caps : Nat := 0
  deriving DecidableEq, Repr

/-- A unit's shadowed registers (R85): the offsets written and not yet applied, each with the block from which it
applies by itself (written with HOLD = 0; none under HOLD), the block of an accepted APPLY, and the values an APPLY of
the crosspoints has taken with it (R226). -/
structure ShadowBank where
  pending : List (Nat × Option Nat) := []
  applyAt : Option Nat := none
  snap : List (Nat × Word) := []
  deriving DecidableEq, Repr

/-- Ratio tracking of a channel (R81): position and increment in UQ.40 input samples, and blocks within ±2 samples. -/
structure TrackLoop where
  pos : Nat := 0
  inc : Nat := 0
  within : Nat := 0
  started : Bool := false
  deriving DecidableEq, Repr

/-- A conditioning channel beyond its registers. -/
structure CondChannel where
  /-- Source samples, newest first, and the index of the newest (Q1.31; a tick's modulator bits for a measurement
  input). -/
  hist : List Int := []
  top : Int := 0
  /-- Frames and nanoseconds between a source sample's own instant and its source instant (R355, R24). -/
  shift : Nat := 0
  offNs : Nat := 0
  /-- Block k of a restart in progress (R88). -/
  restart : Option Nat := none
  /-- The restart was caused on a source that had never delivered. -/
  silentStart : Bool := false
  /-- The source has delivered audio since the full load. -/
  delivered : Bool := false
  /-- The tick of the page grant or of the last clear: the delay line reads zero before it (R84). -/
  lineFrom : Option Nat := none
  /-- A page request that the allocator has not answered. -/
  pageAsked : Bool := false
  /-- The phase delay a crossfade runs to (R86). -/
  xfadeTo : Option Nat := none
  /-- The block in which a rate fault ramps the channel out (R82). -/
  muteFrom : Option Nat := none
  track : TrackLoop := {}
  /-- The source ramps out in a block, and in again in another: a measurement fault (R275) or a TDM port (R385, R391). -/
  gateOut : Option Nat := none
  gateIn : Option Nat := none
  deriving DecidableEq, Repr

structure CondUnit where
  ch : List (Nat × CondChannel) := []
  bank : ShadowBank := {}
  /-- Crossfades of an APPLY run in this block (R91 example: APPLY_PENDING clears with XFADE). -/
  applyBusy : Bool := false
  /-- The conditioned samples of the present tick, by IXP source; sources not listed deliver 0. -/
  out : List (Nat × Int) := []
  deriving DecidableEq, Repr

/-- A metadata entry of an object's queue (R99, R105): the resolved apply time in 1/3 ns since the PTP epoch, a unit in which every block starts on a whole number, the
application block and the fields. -/
structure MetaEntry where
  t : Nat
  block : Nat
  /-- SEQUENCE of the packet, for a network entry. -/
  seq : Option Nat
  flags : Nat
  pos : Pos
  gain : Int
  spread : Nat
  diffuse : Nat
  law : Nat
  deriving DecidableEq, Repr

/-- A correction blend (R112): the first block, N and E. -/
structure Blend where
  start : Nat
  n : Nat
  e : Pos
  deriving DecidableEq, Repr

/-- What the geometry of an object reads for one block (R109 to R113). -/
structure ObjInput where
  pos : Pos := {}
  gain : Int := 2 ^ 28
  spread : Nat := 0
  /-- The law in force: 0 DELAY, 1 AMP, 2 HYBRID. -/
  law : Nat := 0
  deriving DecidableEq, Repr

/-- The targets of an object (R131 to R137): delay and gain of every speaker of the set, for the only history channel
or the high band, and for the low band of a HYBRID zone. A starved pair has its delay held and its gain 0 (R174). -/
structure Targets where
  law : Nat
  h : List (Nat × Int) := []
  l : List (Nat × Int) := []
  deriving DecidableEq, Repr

/-- How an object's contribution to a block is shaped: full, a linear ramp to or from zero, or nothing. -/
inductive Shape where
  | full | out | rampIn | silent
  deriving DecidableEq, Repr

/-- What an object renders in an audio block (R141): the targets of the block before and of the block. -/
structure BlockPlan where
  block : Nat
  /-- The region version whose zone and set it is for. -/
  uid : Nat
  prev : Targets
  cur : Targets
  /-- The ramps of R113 and of a change of law (R139). -/
  shape : Shape := .full
  deriving DecidableEq, Repr

/-- What metadata gave a block: the input of the geometry, and DIFFUSE. -/
structure BlockMeta where
  block : Nat
  input : ObjInput
  diffuse : Nat
  deriving DecidableEq, Repr

/-- A direct-form-I history: two inputs and two outputs, newest first. -/
structure BiquadState where
  x1 : Int := 0
  x2 : Int := 0
  y1 : Int := 0
  y2 : Int := 0
  deriving DecidableEq, Repr

/-- The object stage's state (R114 to R117, R136, R315). -/
structure ObjStage where
  df : List BiquadState := List.replicate 4 {}
  /-- The states of the new coefficient set during its crossfade (R115). -/
  dfNew : Option (List BiquadState) := none
  air : Int := 0
  /-- Inputs and outputs of the eight all-pass stages, newest first. -/
  ap : List (List Int × List Int) := List.replicate 8 ([], [])
  /-- The weights cos θ and sin θ at the last boundary (UQ1.31). -/
  mixCos : Nat := 2 ^ 31
  mixSin : Nat := 0
  /-- Outputs of the decorrelation mix, newest first, for the HYBRID crossover. -/
  mixed : List Int := []
  /-- The first sample not yet processed. -/
  next : Nat := 0
  deriving DecidableEq, Repr

/-- An object that lies in a committed group, beyond its registers. -/
structure ObjState where
  queue : List MetaEntry := []
  /-- Apply time of the last entry applied, in 1/3 ns (R106). -/
  lastT : Option Nat := none
  gain : Int := 2 ^ 28
  spread : Nat := 0
  diffuse : Nat := 0
  /-- LAW of the metadata: 0 for the zone's law. -/
  law : Nat := 0
  /-- The last three received points, oldest first (R110), and the block of the last applied position. -/
  points : List (Nat × Pos) := []
  posBlock : Option Nat := none
  blend : Option Blend := none
  /-- The speculative input of the block in progress (R147 step 1). -/
  spec : Option ObjInput := none
  /-- The last blocks, newest first. -/
  metas : List BlockMeta := []
  plans : List BlockPlan := []
  /-- Speakers of the set whose pairs are starved (R174). -/
  starved : List Nat := []
  /-- The fence of a Needle silences the object until its window is resident: the block of the ramp-out (R190). -/
  needleOut : Option Nat := none
  needleIn : Option Nat := none
  /-- Block s of a class or delay switch (R119), with the old FOREGROUND and COMP_DELAY. -/
  switching : Option (Nat × Bool × Bool) := none
  /-- Block of an ENABLE change (R97). -/
  enableAt : Option Nat := none
  /-- The DF words before a change, and the block at which it applies (R115). -/
  dfOld : Option (Nat × List Word) := none
  stage : ObjStage := {}
  deriving DecidableEq, Repr

/-- A metadata sender (R102): its address, its port, its window and the root count of its last accepted packet. -/
structure Sender where
  src : Nat
  port : Nat
  win : SeqWindow
  lastAt : Nat
  deriving DecidableEq, Repr

structure OmdUnit where
  obj : List (Nat × ObjState) := []
  senders : List Sender := []
  bank : ShadowBank := {}
  /-- The IXP sums of the object destinations over the last ticks, newest first (R114). -/
  input : List (Nat × List Int) := []
  deriving DecidableEq, Repr

/-- A mix: sample lists in Q9.55 by speaker output, the samples in time order. -/
abbrev Mix := List (Nat × List Int)

/-- Late-block concealment of a domain (R212, R213): how far the fade has run, counted in samples. -/
inductive ConcealPhase where
  | normal
  | fade (i : Nat)
  | silent
  | rampIn (i : Nat)
  deriving DecidableEq, Repr

/-- A render tile beyond its registers (R312 to R318). -/
structure TileState where
  /-- FENCED at the next block boundary. -/
  fenceDue : Bool := false
  /-- A known-answer test runs; the STATE to return to. -/
  testing : Option Nat := none
  katDue : Bool := false
  /-- Refill complete (R317 step 5). -/
  refilled : Bool := false
  deriving DecidableEq, Repr

/-- A logical tile: its physical host, and the run block F of the fault of a takeover in progress (R317). -/
structure LogicalTile where
  host : Option Nat
  fault : Option Nat := none
  deriving DecidableEq, Repr

structure RndrUnit where
  tiles : List (Nat × TileState) := []
  logical : List (Nat × LogicalTile) := []
  /-- The last partial mix of every logical tile, with its version (R317 step 3). -/
  partials : List (Nat × Nat × Mix) := []
  /-- Block feeds rendered, by audio block, newest first, before concealment. -/
  feeds : List (Nat × Mix) := []
  /-- The block feeds delivered over the last 32 samples, newest sample first, and the domain's phase. -/
  delivered : Mix := []
  blockConceal : ConcealPhase := .normal
  /-- BLOCK_MIX of this audio block missed its deadline. -/
  blockLate : Option Nat := none
  /-- The gain tolerance factor K (UQ1.31), computed when TOL_GAIN is written (R149). -/
  tolGain : Nat := 2145012689
  deriving DecidableEq, Repr

/-- A history page on chip (R168 to R171): its index, whether its DRAM read has completed, the low-retention mark of an
unconfirmed prefetch, and whether it lies outside the hosting tile. -/
structure HistPage where
  idx : Nat
  loaded : Bool := false
  lowRet : Bool := false
  remote : Bool := false
  deriving DecidableEq, Repr

/-- A history channel (R165): band H of object n under key 2n, band L under 2n + 1. -/
structure HistChannel where
  /-- Samples, newest first, and the index of the newest; the DRAM ring holds the same samples (R166, R167). -/
  hist : List Int := []
  top : Int := -1
  /-- The tick of the group's commit: an older sample reads as zero (R167). -/
  start : Nat := 0
  /-- The logical tile of the object, none for a Foreground object. -/
  tile : Option Nat := none
  /-- Samples the ring holds (R166). -/
  ring : Nat := 0
  pages : List HistPage := []
  /-- Pages denied in the present block, and those that a ramp-out still reads (R172, R174). -/
  denied : List Nat := []
  /-- The span of ramped delays last reported, when a pair has a gain (R169). -/
  span : Option (Nat × Nat) := none
  deriving DecidableEq, Repr

structure SkeinUnit where
  hist : List (Nat × HistChannel) := []
  /-- History pages that the TILE_MAP entry of each logical tile declares. -/
  declared : List (Nat × Nat) := []
  /-- Low-retention pages before the speculative request of the block (R207). -/
  lowBefore : Nat := 0
  /-- A WIN_SEL write waits for the next boundary. -/
  winWaiting : Bool := false
  /-- A lowered BORROW_LIMIT waits for the next boundary (R163). -/
  limitLowered : Bool := false
  deriving DecidableEq, Repr

/-- A Needle beyond its registers. -/
structure NeedleState where
  fenceDue : Bool := false
  katDue : Bool := false
  deriving DecidableEq, Repr

/-- A work unit (R184): object, slice and micro-block. -/
structure WorkUnit where
  obj : Nat
  slice : Nat
  deriving DecidableEq, Repr

structure NdlUnit where
  needles : List (Nat × NeedleState) := []
  /-- Home Needle of each Foreground object (R179). -/
  home : List (Nat × Nat) := []
  /-- The Foreground mix of the micro-blocks, by conditioned sample, newest first. -/
  mix : List (Nat × Mix) := []
  /-- The Foreground mix delivered over the last 32 samples, newest first, and the domain's phase. -/
  delivered : Mix := []
  conceal : ConcealPhase := .normal
  /-- Micro-blocks (first sample) that missed their deadline. -/
  late : List Nat := []
  /-- MAC operations of each Needle in the block so far (R191, LOAD). -/
  macs : List (Nat × Nat) := []
  /-- Foreground objects beyond the limit of R178 after a fence. -/
  unranked : List Nat := []
  deriving DecidableEq, Repr

/-- Where an instance stands (R195 to R203). -/
inductive InstState where
  | waiting
  /-- Its ready transition is deferred (R209). -/
  | deferred
  | ready
  | spilled
  | running
  /-- Cancelled while it ran: its result is discarded at completion (R203). -/
  | doomed
  /-- A token in the reorder buffer, not yet released: true for DONE. -/
  | token (done : Bool)
  /-- Released, or passed by the release pointer with CANCELLED. -/
  | released
  | cancelled
  deriving DecidableEq, Repr

/-- An instance of a node for an audio block (R193). -/
structure Instance where
  uid : Nat
  region : Nat
  /-- The version of the region. -/
  ver : Nat
  node : GNode
  block : Nat
  micro : Option Nat := none
  /-- The speculative instance of a GEOM node (R206). -/
  spec : Bool := false
  runBlock : Nat
  seq : Option Nat := none
  state : InstState := .waiting
  /-- It was dispatched, so it counts in its flow's OUTSTANDING. -/
  dispatched : Bool := false
  /-- SPILL_FULL and ROB_FULL count once per instance. -/
  deferredOnce : Bool := false
  heldOnce : Bool := false
  deriving DecidableEq, Repr

/-- A conceal state of an output domain. -/
structure OutConceal where
  phase : ConcealPhase := .normal
  /-- The audio block of the output that missed. -/
  late : Option Nat := none
  /-- The block whose OUT_ROW instance was cancelled before dispatch: its program does not run (R205). -/
  skip : Option Nat := none
  deriving DecidableEq, Repr

structure SchedUnit where
  inst : List Instance := []
  /-- Next sequence number to give, by flow (R199). -/
  give : List (Nat × Nat) := []
  /-- Lists (class and logical tile) at or above HIGH_WATER that await re-arming (R210). -/
  high : List (Nat × Nat) := []
  /-- SCHED Skein pages of each class (R208). -/
  pages : List (Nat × Nat) := []
  /-- Event 32 and event 36 already raised in this block. -/
  lateRaised : Bool := false
  readyCancelRaised : Bool := false
  out : List (Nat × OutConceal) := []
  nextUid : Nat := 1
  /-- Classes whose spill ring was in use when the registers were last brought up. -/
  spilling : Bool := false
  deriving DecidableEq, Repr

/-- A node ramp (R227): the first sample it shapes (a conditioned sample, or an OXP tick), its length, the gain it starts
from (Q4.41) and the gain it ends at (Q4.28). -/
structure NodeRamp where
  start : Nat
  len : Nat
  old : Int
  new : Int
  /-- The ramp has ended for the counts and limits of R230. -/
  done : Bool := false
  deriving DecidableEq, Repr

structure XpUnit where
  bank : ShadowBank := {}
  /-- Ramps by node offset, newest first. -/
  ramps : List (Nat × List NodeRamp) := []
  /-- Crossfades of R229 by BUS or DIRECT offset: the block of the change and the word before it. -/
  sources : List (Nat × Nat × Word) := []
  /-- Conditioned sources, and bus sums, of the last ticks, newest first: tick, and values by number (R220, R221). -/
  past : List (Nat × List (Nat × Int)) := []
  buses : List (Nat × List (Nat × Int)) := []
  /-- OXP outputs of the last ticks, newest first. -/
  oxp : List (Nat × List (Nat × Int)) := []
  /-- Event 24 was raised in this block. -/
  refusedRaised : Bool := false
  deriving DecidableEq, Repr

/-- The dynamics of an output (R256, R257): levels in Q10.22. -/
structure DynState where
  gc : Int := 0
  gl : Int := 0
  /-- c and Q of the last samples, newest first. -/
  line : List Int := []
  need : List Int := []
  /-- Gc or Gl was below 0 on a sample of the block. -/
  compressing : Bool := false
  limiting : Bool := false
  deriving DecidableEq, Repr

/-- The instruction state of one version's program on an output (R245). -/
structure ProgState where
  uid : Nat
  /-- State of each biquad, and of its new coefficients during a crossfade. -/
  bq : List (Nat × BiquadState) := []
  bqNew : List (Nat × BiquadState) := []
  dyn : DynState := {}
  /-- The convolution input history and the alignment line, newest first (R246, R254). -/
  conv : List Int := []
  align : List Int := []
  /-- The slots and the taps that a replaced version keeps for the audio it still renders (R306). -/
  frozen : Option (List Word × List Int) := none
  /-- The convolution history and the alignment line that the program takes over from the version it replaces, when its first run
  comes or that version retires (R245). -/
  heir : Bool × Bool := (false, false)
  deriving DecidableEq, Repr

/-- A running bank swap (R251): its block and its length in samples, and the SWAP command it belongs to, 0 for Gauge. -/
structure BankXfade where
  block : Nat
  len : Nat
  cmd : Nat
  deriving DecidableEq, Repr

/-- One output beyond its registers. -/
structure OutState where
  progs : List ProgState := []
  /-- Changes on their way by item (R263), newest first: the block of each and the word before it. Items are BAR0 offsets. -/
  changes : List (Nat × List (Nat × Word)) := []
  /-- The trim gain (Q4.28, R260) and the limiter offset (R286), with the changes on their way: block and value before. -/
  trim : Int := 2 ^ 28
  trimWas : List (Nat × Int) := []
  limWas : List (Nat × Int) := []
  /-- The taps of the two banks (R249). -/
  active : List Int := []
  standby : List Int := []
  /-- The standby bank holds a Gauge update and not a host PREPARE. -/
  gaugeStandby : Bool := false
  /-- Queued swaps: the first block, and the command they belong to, 0 for Gauge. -/
  queued : Option (Nat × Nat) := none
  xfade : Option BankXfade := none
  /-- Coefficients last committed or swapped in by the host (R291). -/
  base : List Int := []
  /-- Values of ST, SEND and MON that have not left, newest first. -/
  raw : List (Nat × Int × List (Nat × Int) × Option Int) := []
  /-- What left in the last 32 samples, newest first. -/
  sent : List (Int × List (Nat × Int) × Option Int) := []
  /-- x at the PILOT instruction in the block so far, newest first, and the pilot gains (Q1.31) of the block before and of
  the block (R277). -/
  pilotX : List Int := []
  pilotOld : Int := 0
  pilotNew : Int := 0
  deriving DecidableEq, Repr

structure OutsUnit where
  bank : ShadowBank := {}
  out : List (Nat × OutState) := []
  /-- The PREPARE in progress: targets, taps of each and the coefficients copied (R250). -/
  prepare : Option (List Nat × Nat × List Int) := none
  /-- SWAP commands so far, and the last crossfade end of each to raise event 25. -/
  swaps : Nat := 0
  /-- Output values on the ports: tick, and values by output, newest first. -/
  ports : List (Nat × List (Nat × Int)) := []
  deriving DecidableEq, Repr

/-- One measurement input beyond its registers (R273, R274). -/
structure MeasState where
  /-- Ones and bits of the block, of samples 8 to 15 and of samples 24 to 31. -/
  ones : Nat := 0
  bits : Nat := 0
  highOnes : Nat := 0
  highBits : Nat := 0
  lowOnes : Nat := 0
  lowBits : Nat := 0
  /-- Consecutive blocks of all ones, of all zeros, and without the condition. -/
  runHigh : Nat := 0
  runLow : Nat := 0
  clearHigh : Nat := 0
  clearLow : Nat := 0
  /-- Consecutive failed and passed bias checks. -/
  failed : Nat := 0
  passed : Nat := 0
  /-- Gain and offset in force before a change, and its block (R271). -/
  change : Option (Nat × Word × Word) := none
  deriving DecidableEq, Repr

/-- The channel of a correlation job (R278). -/
inductive JobChannel where
  | v | i | mic
  deriving DecidableEq, Repr

/-- A correlation job on a correlator (R279). -/
structure Job where
  out : Nat
  chan : JobChannel
  src : Nat
  t0 : Nat
  lag : Nat
  taps : Nat
  /-- The sweep in which it runs. -/
  sweep : Nat
  /-- Sums of the taps in Q9.55, and E. -/
  acc : List Int := []
  energy : Int := 0
  /-- A GAUGE instance that carried it was cancelled, or its source faulted (R280). -/
  spoiled : Bool := false
  deriving DecidableEq, Repr

/-- A response: its taps in Q4.28 and the period it was formed in. -/
structure Response where
  taps : List Int
  period : Nat
  deriving DecidableEq, Repr

/-- A Gauge update (R286). -/
inductive UpdateKind where
  | limiter (offset : Int)
  | topiary (vector : List Int)
  | mute (on : Bool)
  | invert (on : Bool)
  deriving DecidableEq, Repr

structure GaugeUpdate where
  out : Nat
  target : Nat
  kind : UpdateKind
  deriving DecidableEq, Repr

/-- Gauge's view of one output beyond its registers. -/
structure GaugeOut where
  /-- Sense samples, newest first: tick, voltage and current in Q1.31. -/
  sense : List (Nat × Int × Int) := []
  shortRun : Nat := 0
  openRun : Nat := 0
  shortClear : Nat := 0
  openClear : Nat := 0
  /-- θm and θv in Q16.16 °C. -/
  thetaM : Int := 0
  thetaV : Int := 0
  respV : Option Response := none
  respI : Option Response := none
  respMic : Option Response := none
  baseMic : Option Response := none
  /-- Sweep numbers of the last valid V and I responses. -/
  sweepV : Option Nat := none
  sweepI : Option Nat := none
  /-- Baseline items still to come (R284), and the polarity at the baseline. -/
  wantMic : Bool := false
  wantRe : Bool := false
  basePolarity : Bool := false
  /-- Consecutive invalid jobs by channel, and the channels that have lost the pilot. -/
  invalid : List Nat := [0, 0, 0]
  lost : List Bool := [false, false, false]
  negative : Nat := 0
  positive : Nat := 0
  /-- M_base − M of the last two valid MIC jobs, in dB × 2^160, newest first; none for a band without power (R291). -/
  micDiff : List (List (Option Int)) := []
  /-- Override ends by parameter: Topiary, limiter, polarity, thermal (R294), as root counts of uptime. -/
  holds : List (Option Nat) := [none, none, none, none]
  /-- The pilot samples, newest first, and the tick of the newest. -/
  pilot : List Int := []
  pilotTop : Nat := 0
  deriving DecidableEq, Repr

structure GaugeUnit where
  bank : ShadowBank := {}
  meas : List (Nat × MeasState) := []
  out : List (Nat × GaugeOut) := []
  jobs : List (Nat × Job) := []
  /-- The sweep: its number, the jobs done in it, the last job taken and the periods since it began. -/
  sweep : Nat := 0
  done : List (Nat × JobChannel) := []
  last : Option (Nat × JobChannel) := none
  periods : Nat := 0
  /-- Updates issued and not yet applied, in the order they were decided. -/
  updates : List GaugeUpdate := []
  deriving DecidableEq, Repr

/-- A cue entry of the TIME.CUE FIFO (R334, R339). -/
structure CueEntry where
  ta : Nat
  late : Bool
  occurrence : Nat
  deriving DecidableEq, Repr

/-- A captured edge: local time in root counts and its direction (R338). -/
structure CaptureStamp where
  counts : Nat
  falling : Bool
  deriving DecidableEq, Repr

/-- A running pulse of a time action: its output, its action and the root count at which it ends (R333). -/
structure Pulse where
  output : Nat
  ta : Nat
  ends : Nat
  deriving DecidableEq, Repr

/-- An armed time action beyond its registers: the next occurrence and the region whose record armed it (R332). -/
structure ArmedAction where
  next : Nat := 0
  region : Option Nat := none
  deriving DecidableEq, Repr

/-- A step of local time under R329. -/
structure StepPlan where
  /-- Block E, at which local time moves. -/
  atBlock : Nat
  /-- The correction, whole samples and remainder in 2^-16 ns, to be added to local time. -/
  samples : Int
  remainder : Int
  /-- The step sets a time of day: started by SET_TOD, or by the first time of day from a source. -/
  setTod : Bool := false
  acquire : Bool := false
  /-- Local time has moved and the sources deliver zero until the next boundary, block E'. -/
  moved : Bool := false
  deriving DecidableEq, Repr

/-- A slew in progress (R330): where it started and the offset it removes, in 2^-16 ns. -/
structure Slew where
  start : Nat
  offset : Int
  /-- It removes the remainder of a step that a SET_TOD started, so FREERUN follows (R326). -/
  afterSetTod : Bool := false
  deriving DecidableEq, Repr

/-- REF_IN as the device sees it (R325, R331). -/
structure RefUnit where
  /-- Root count of the last valid edge. -/
  lastEdge : Option Nat := none
  /-- Valid edges of the block so far: sum of their offsets in 2^-16 ns, and how many. -/
  sum : Int := 0
  edges : Nat := 0
  /-- Event 6 was raised in this block. -/
  glitched : Bool := false
  deriving DecidableEq, Repr

/-- What the firmware holds of PTP: the state of each port and the grandmaster data (R324, R505). -/
structure PtpUnit where
  /-- Port states, IEEE 1588 numbering (9 SLAVE). -/
  portState : List Nat := [0, 0]
  priorities : Nat := 0
  stepsRemoved : Nat := 0
  /-- Mean path delay of each port, in ns. -/
  pathDelay : List Int := [0, 0]
  /-- An Announce has named a grandmaster. -/
  gmKnown : Bool := false
  deriving DecidableEq, Repr

/-- The time base, the time actions and the capture inputs beyond their registers. -/
structure TimeUnit where
  /-- Consecutive measurements within LOCK_THRESH while ACQUIRING, or beyond it while LOCKED (R326). -/
  settle : Nat := 0
  exceed : Nat := 0
  /-- The servo's integral term, in 2^-16 of 0.001 ppm. -/
  integral : Int := 0
  ref : RefUnit := {}
  ptp : PtpUnit := {}
  step : Option StepPlan := none
  slew : Option Slew := none
  /-- Block E' of a step: the sources ramp in over it (R329). -/
  rampIn : Option Nat := none
  cues : List CueEntry := []
  /-- The four capture FIFOs, oldest entry first, and the latched entry of each. -/
  captures : List (List CaptureStamp) := [[], [], [], []]
  captured : List CaptureStamp := List.replicate 4 ⟨0, false⟩
  /-- The last timestamped edge of each capture input (R540). -/
  lastEdges : List (Nat × Nat) := []
  armed : List (Nat × ArmedAction) := []
  pulses : List Pulse := []
  deriving DecidableEq, Repr

/-- What has already happened at the present sample tick, so that no event of a tick happens twice. -/
structure TickDone where
  block : Bool := false
  cutoff : Bool := false
  fgCutoff : Bool := false
  micro : Bool := false
  outMicro : Bool := false
  /-- Frenus Link ports that have sent this tick's frame, and TDM ports that have had this tick's device frame. -/
  casSent : List Nat := []
  tdmTick : List Nat := []
  deriving DecidableEq, Repr

/-- A UDP datagram as the device sends or receives it; addresses are 128-bit numbers, IPv4 in its mapped form. -/
structure Datagram where
  src : Nat := 0
  dst : Nat
  sport : Nat
  dport : Nat
  payload : List Byte
  deriving DecidableEq, Repr

/-- A frame in a transmit queue (R347): its datagram, its tag, its PRP sequence number, and for a stream packet the
stream and the root count after which its departure is late (R363). -/
structure TxFrame where
  datagram : Datagram
  dscp : Nat := 0
  /-- VID and PCP of a tagged frame. -/
  tag : Option (Nat × Nat) := none
  prpSeq : Option Nat := none
  stream : Option Nat := none
  lateAfter : Nat := 0
  /-- The frame has been counted in GATE_HELD (R349). -/
  held : Bool := false
  deriving DecidableEq, Repr

/-- The gate control list in operation (R348). Instants are in 2^-16 ns of local time. -/
structure GateList where
  cycle : Nat
  base : Nat
  /-- GATES and INTERVAL (ns) of each entry. -/
  entries : List (Nat × Nat)
  cycleStart : Nat
  index : Nat
  entryEnd : Nat
  deriving DecidableEq, Repr

/-- One Ethernet port beyond its registers. -/
structure NetPort where
  training : Bool := true
  /-- The present training attempt uses inverted receive polarity (R344). -/
  invertedTry : Bool := false
  queues : List (List TxFrame) := List.replicate 8 []
  /-- Credit of shaper class c, in bits × 3,145,728,000, and the root count it was brought up to. -/
  credit : List Int := [0, 0, 0, 0]
  creditAt : Nat := 0
  /-- Cycle start of a scheduled admin list, in 2^-16 ns. -/
  gclStart : Option Nat := none
  gcl : Option GateList := none
  /-- Frames waiting for the supervisor firmware (R346). -/
  fwQueue : List (List Byte) := []
  deriving DecidableEq, Repr

/-- A PRP node-table entry (R351, R352): bit b of `seen` stands for number H − b. -/
structure PrpNode where
  mac : Nat
  highest : Nat
  seen : Nat
  heard : Nat
  deriving DecidableEq, Repr

/-- Where a received frame went (R346). -/
inductive RxDest where
  | duplicate | ptp | tunnel | metadata | hedge
  | stream (n : Nat)
  | firmware | fwOverflow | dropped
  deriving DecidableEq, Repr

/-- Concealment of a receive stream (R358): delivering, fading over sample i, silent, or ramping in over sample i. -/
inductive RxPhase where
  | normal
  | fade (i : Nat)
  | silent
  | rampIn (i : Nat)
  deriving DecidableEq, Repr

/-- A receive stream beyond its registers. -/
structure RxStream where
  /-- Samples that wait for their source instant, by index n: one Q1.31 value per channel (R355). -/
  buffer : List (Nat × List Int) := []
  /-- The first index whose source instant has not come. -/
  next : Option Nat := none
  phase : RxPhase := .normal
  /-- The last delivered samples, newest first. -/
  recent : List (List Int) := []
  locked : Bool := false
  /-- A new SSRC and how many consecutive packets carried it (R359). -/
  candidate : Option (Nat × Nat) := none
  lastSeq : Option Nat := none
  /-- Uptime of the last accepted packet. -/
  lastAccept : Nat := 0
  /-- 64 KiB frames of a buffer that software's ENABLE took (R356). -/
  frames : Nat := 0
  /-- ENABLE has cleared; the channels ramp out over this block (R353). -/
  closing : Option Nat := none
  deriving DecidableEq, Repr

/-- A transmit stream: the next packet (R362), and the block at which a new version's configuration takes over (R307). -/
structure TxStream where
  next : Nat := 0
  stop : Option Nat := none
  deriving DecidableEq, Repr

/-- A tunnel key slot (R370): the staged key words, the committed key, its window, and the last request and reply. -/
structure KeySlot where
  staged : List Word := [0, 0, 0, 0]
  key : Option (List Byte) := none
  window : Option SeqWindow := none
  lastRequest : List Byte := []
  lastReply : List Byte := []
  deriving DecidableEq, Repr

structure NetUnit where
  ports : List NetPort := [{}, {}]
  /-- PRP in force: PRP_EN takes effect at the next training of both ports. -/
  prp : Bool := false
  /-- Ports that have trained since PRP_EN was last written. -/
  prpTrained : List Nat := []
  nodes : List PrpNode := []
  /-- PRP send sequence by destination. -/
  prpSend : List (Nat × Nat) := []
  lastDest : Option RxDest := none
  rx : List (Nat × RxStream) := []
  tx : List (Nat × TxStream) := []
  slots : List KeySlot := List.replicate 17 {}
  tunnel : List TunnelRequest := []
  /-- Receive streams that a committed STREAM_CONFIG defines (R356). -/
  configured : List Nat := []
  /-- Transmit channels (R240) and Gauge taps (R261) by OXP tick, newest first: (tick, values by channel). -/
  sendRing : List (Nat × List (Nat × Int)) := []
  monRing : List (Nat × List (Nat × Int)) := []
  /-- Events 84 and 85 already raised in this block (R371). -/
  raised : List Nat := []
  deriving DecidableEq, Repr

/-- What the inputs of a TDM port deliver (R384, R385, R391): their frames; the last delivered samples fading over sample i;
zero; frames ramping in over sample i; frames ramping out over sample i for a disable. -/
inductive TdmShape where
  | normal
  | fade (i : Nat)
  | silent
  | rampIn (i : Nat)
  | closing (i : Nat)
  deriving DecidableEq, Repr

/-- A TDM port beyond its registers. -/
structure TdmPort where
  shape : TdmShape := .silent
  /-- The frame FIFOs of a slave, oldest first (R382): values by slot position of the range, and output values. -/
  rxFifo : List (List Int) := []
  txFifo : List (List (Nat × Int)) := []
  rxLast : List Int := []
  txLast : List (Nat × Int) := []
  /-- The tick at which a mask that waits was written (R388). -/
  maskAt : Option Nat := none
  /-- Consecutive valid frames, how many RUNNING needs, the last window, and the tick of the last valid frame. -/
  valid : Nat := 0
  needed : Nat := 16
  rateOk : Bool := true
  lastValid : Nat := 0
  /-- Consecutive frames of all ones and of all zeros, and of mismatching and matching read-back (R390). -/
  highRun : Nat := 0
  idleRun : Nat := 0
  shortRun : Nat := 0
  goodRun : Nat := 0
  /-- The block in which its event was last raised (R392). -/
  raisedIn : Option Nat := none
  deriving DecidableEq, Repr

/-- What the object stage of an object uses in a block (R114 to R117). -/
structure StageParams where
  n : Nat
  df : List Word
  /-- The old DF words during a crossfade. -/
  dfOld : Option (List Word)
  air : Option Int
  cosNew : Nat
  sinNew : Nat
  crossover : Nat
  deriving DecidableEq, Repr

/-- The contribution of an object to a logical tile in one version, as it stood at the end of its audio block. -/
structure LatePart where
  version : Version
  tile : Nat
  plan : BlockPlan
  factors : List Shape
  set : SpeakerSet
  /-- The tile is in a takeover, which discards the contribution (R317). -/
  dropped : Bool
  deriving DecidableEq, Repr

/-- An object whose input has a link channel: its stage and rendering for an audio block wait for the instant of R407. -/
structure LateJob where
  block : Nat
  params : StageParams
  parts : List LatePart
  deriving DecidableEq, Repr

/-- A section that waits to leave a Frenus Link port: its type and its words (R400). -/
structure CasSection where
  type : Nat
  words : List Nat
  deriving DecidableEq, Repr

/-- A Frenus Link port beyond its registers (R397 to R405). -/
structure CasPort where
  /-- The last HELLO, the block in which it came and the sender's Cascade ID. -/
  hello : Option Nat := none
  helloAt : Nat := 0
  neighbour : Nat := 0
  /-- By BLOCK, newest first: arrivals a and departures d at this end, and D of the neighbour, in root counts. -/
  arrived : List (Nat × Int) := []
  departed : List (Nat × Int) := []
  farLeft : List (Nat × Int) := []
  /-- Consecutive blocks in which it offered strictly fewer hops than the up port. -/
  better : Nat := 0
  /-- Sections that wait, oldest first. -/
  out : List CasSection := []
  deriving DecidableEq, Repr

/-- Feed words received for an audio block: the port, the run of feeds, and the samples, none under ABSENT (R410, R412). -/
structure MixTerm where
  port : Nat
  block : Nat
  first : Nat
  count : Nat
  words : Option (List Int)
  deriving DecidableEq, Repr

/-- The cascade unit beyond its registers. -/
structure CasUnit where
  ports : List CasPort := List.replicate 4 {}
  /-- Consecutive blocks without a candidate, and a backup that becomes acting master at the next boundary (R413). -/
  lone : Nat := 0
  taking : Bool := false
  /-- Consecutive blocks in which the original master has offered itself, and the acting backup yields next (R414). -/
  offered : Nat := 0
  yielding : Bool := false
  /-- Sections accepted, newest first (R402): (SRC_ID, KIND, FIRST, TICK), and (SRC_ID, OBJECT, C). -/
  audio : List (Nat × Nat × Nat × Nat) := []
  metas : List (Nat × Nat × Nat) := []
  /-- Link channels: samples by conditioned sample, and concealment (R407, R408). -/
  link : List (Nat × RxStream) := []
  /-- IXP sums without the link channels, in Q9.55: tick, and sums by destination, newest first. -/
  sums : List (Nat × List (Nat × Int)) := []
  jobs : List LateJob := []
  /-- Sums received, the next feed to send for the block, and that block (R410). -/
  mix : List MixTerm := []
  sentBlock : Nat := 0
  sentFeed : Nat := 0
  /-- Events already raised in this block (R399, R408). -/
  raised : List Nat := []
  deriving DecidableEq, Repr

/-- What the last heartbeat of the peer said (R434). -/
structure PeerReport where
  role : Nat
  basis : Nat
  flags : Nat
  crc : Nat
  epoch : Nat
  checksum : Nat
  chkBlock : Nat
  handover : Nat
  deriving DecidableEq, Repr

/-- A query in progress (R424): its QUERY_ID, the root count of its first QUERY and the block of its last. -/
structure HedgeQuery where
  id : Nat
  since : Nat
  last : Nat
  deriving DecidableEq, Repr

/-- An epoch on its way in (R430): number, target block, parts by number, and the commit: parts, FULL and CRC. -/
structure EpochIn where
  number : Nat
  target : Nat
  parts : List (Nat × List Byte) := []
  commit : Option (Nat × Bool × Nat) := none
  /-- The block in which the commit came. -/
  commitAt : Nat := 0
  deriving DecidableEq, Repr

/-- The Hedge unit beyond its registers. -/
structure HedgeUnit where
  /-- The next SEQUENCE to send, the next QUERY_ID, and the windows of the peer and of the arbiter (R433). -/
  sendSeq : Nat := 0
  nextQuery : Nat := 1
  peerWin : Option SeqWindow := none
  arbWin : Option SeqWindow := none
  peer : Option PeerReport := none
  /-- A peer heartbeat came in the block; blocks since one came, and consecutive heartbeats that report unhealthy. -/
  heard : Bool := false
  missing : Nat := 0
  unhealthy : Nat := 0
  /-- Consecutive blocks in which neither heartbeat reported HOLDER. -/
  noHolder : Nat := 0
  query : Option HedgeQuery := none
  /-- A former holder keeps driving its control outputs while it asks. -/
  drives : Bool := false
  /-- A verdict received while asking: whom it names and its EFFECTIVE_BLOCK. -/
  verdict : Option (Nat × Nat) := none
  /-- The root count of the last arbiter message. -/
  arbAt : Option Nat := none
  /-- A dual holder that must yield at the next boundary (R425), and the run of dual control has raised event 181. -/
  yielding : Bool := false
  dualRaised : Bool := false
  /-- A handover in progress: block H, and the peer's echo. -/
  handover : Option Nat := none
  echoed : Bool := false
  /-- Root count since which the revert condition has held (R428). -/
  revertSince : Option Nat := none
  /-- Own checksums by audio block, newest first, and consecutive blocks that matched. -/
  checks : List (Nat × Nat) := []
  matching : Nat := 0
  /-- The first audio block touched by a taint cause. -/
  taintFrom : Option Nat := none
  /-- Counters whose growth is a taint cause, as they stood at the last boundary. -/
  counts : List Nat := []
  /-- Updates decided and not yet sent as epochs, and a FULL epoch asked for (R429, R432). -/
  unsent : List GaugeUpdate := []
  fullAsked : Bool := false
  incoming : List EpochIn := []
  /-- Target block of the last FULL epoch received (R432). -/
  fullAt : Option Nat := none
  /-- Event 189 was raised in this block. -/
  authRaised : Bool := false
  /-- The taint of R420 has the unit withhold. -/
  holding : Bool := false
  /-- Epochs that act at their target blocks: number and target (R429, R430). -/
  epochs : List (Nat × Nat) := []
  /-- One above the last CHK_BLOCK compared with the peer's (R431). -/
  compared : Nat := 0
  /-- DRAM blocks delivered as zeros to the masters of R420. -/
  zeroBlocks : Nat := 0
  deriving DecidableEq, Repr

/-- Who holds a DRAM frame (R440, R442, R456). -/
inductive FrameOwner where
  | loader
  | region (uid : Nat)
  | spill
  | rxStream (n : Nat)
  | host
  deriving DecidableEq, Repr

/-- A backed frame: the channel it lies on, and its owner. -/
structure Frame where
  chan : Nat
  owner : FrameOwner
  deriving DecidableEq, Repr

/-- The targets of R439. -/
inductive BusTarget where
  | registers | bootFlash | dram (chan : Nat) | default
  deriving DecidableEq, Repr

/-- An outstanding transaction (R443, R444, R448). -/
structure Txn where
  burst : Burst
  target : BusTarget
  fabric : Nat
  /-- It has gone to its target; a register crossing whose clock has stopped holds it unexecuted (R518). -/
  issued : Bool := false
  executed : Bool := false
  timedOut : Bool := false
  /-- Its master was reset: its response is discarded (R446). -/
  orphan : Bool := false
  /-- The data and error that its response carries. -/
  data : List Byte := []
  error : Bool := false
  deriving DecidableEq, Repr

/-- A DRAM channel beyond its registers. -/
structure DramChannel where
  /-- Uncorrectable errors by block, newest first (R455). -/
  ue : List (Nat × Nat) := []
  offlineDue : Bool := false
  retrainDue : Bool := false
  deriving DecidableEq, Repr

structure MatrixUnit where
  /-- The frame map (R440): backed frames by number. -/
  frames : List (Nat × Frame) := []
  /-- Outstanding transactions, oldest first. -/
  txns : List Txn := []
  /-- The master each target served last (R445): targets as BusTarget.code numbers them. -/
  served : List (Nat × Nat) := []
  chans : List (Nat × DramChannel) := []
  /-- A channel has gone offline since power-on, so new frames go to the channel with the most free capacity. -/
  wentOffline : Bool := false
  /-- Addresses of 32-byte blocks that read as uncorrectable once (R457). -/
  marked : List Nat := []
  /-- Events raised at most once per block, already raised in this one. -/
  raised : List Nat := []
  /-- The response the matrix delivered last: master, tag, data and error. -/
  response : Option (Nat × Nat × List Byte × Bool) := none
  deriving DecidableEq, Repr

/-- A show-store object (R462): its kind, its bytes, and the sectors that NAND has lost (R468). -/
structure StoreObject where
  kind : Nat
  bytes : List Byte
  lost : List Nat := []
  deriving DecidableEq, Repr

/-- The NAND array, which no reset touches (R461 to R470): the channels with targets, the logical capacity, the good
blocks, their erase counts (0 where not listed), the blocks retired as bad, the spares of the first mount and the
objects. Where a sector lies is the store's own affair, so the array holds objects and not pages. -/
structure NandArray where
  channels : Nat := 0xFF
  capacityMiB : Nat := 1048576
  blocks : Nat := 65536
  erases : List (Nat × Nat) := []
  bad : List Nat := []
  mounted : Bool := false
  spareInitial : Nat := 0
  spareLeft : Nat := 0
  objects : List (Nat × StoreObject) := []
  deriving DecidableEq, Repr

/-- A store command in progress (R464): its OP, object, kind and staging address, and the bytes it carries; a code that is
not 0 when it fails. -/
structure StoreCmd where
  op : Nat
  object : Nat
  kind : Nat
  stage : Nat
  bytes : List Byte := []
  code : Nat := 0
  detail : Nat := 0
  deriving DecidableEq, Repr

/-- A playback stem beyond its registers (R475 to R478): its first sample and its block, the next sample, the block of a
STOP, and the concealment of missing samples. -/
structure StemState where
  first : Nat := 0
  start : Nat := 0
  pos : Nat := 0
  stop : Option Nat := none
  /-- The sample after the last has been passed (R475). -/
  ended : Bool := false
  /-- The version of the object that it plays (R465). -/
  content : StoreObject := { kind := 3, bytes := [] }
  conceal : RxStream := {}
  deriving DecidableEq, Repr

structure StoreUnit where
  cmd : Option StoreCmd := none
  stems : List (Nat × StemState) := []
  /-- Root count of uptime at which the scrub pass began (R467). -/
  scrubFrom : Nat := 0
  /-- Event 70 was raised in this block. -/
  underrun : Bool := false
  deriving DecidableEq, Repr

/-- A boot descriptor copy (R473, R479): its sequence number, A, B and the firmware slot, in the layout of BOOT_CFG. -/
structure BootDescriptor where
  seq : Nat
  cfg : Word
  deriving DecidableEq, Repr

/-- A BOOTF command in progress (R481): OP, slot, flash address, staging address, length, the staged bytes and a staging
error. -/
structure BootCmd where
  op : Nat
  slot : Nat
  addr : Nat
  stage : Nat
  len : Nat
  bytes : List Byte
  failed : Bool
  deriving DecidableEq, Repr

structure BootUnit where
  cmd : Option BootCmd := none
  /-- BOOT_CFG as last written; reads return the descriptor in force (R485). -/
  cfg : Word := 0
  deriving DecidableEq, Repr

/-- What leaves the device, logged by the model so that a statement can speak of it. -/
inductive Emit where
  /-- The MSI-X message of a vector: address low and high, and data (R496). -/
  | msix (vector : Nat) (lo hi data : Word)
  /-- A PME message (R502). -/
  | pme
  /-- A pulse on a time-pulse output: output, first and last root count (R333). -/
  | pulse (output start stop : Nat)
  /-- A frame leaves an Ethernet port (R349). -/
  | frame (port : Nat) (f : TxFrame)
  /-- A PRP supervision frame (R350). -/
  | prpSupervision
  /-- A transmit frame of a TDM port: its slots, none where the pin is high-impedance (R386). -/
  | tdm (port : Nat) (slots : List (Option Int))
  /-- A Frenus Link frame: its port, H0, its data blocks and its CRC (R398). -/
  | cas (port h0 : Nat) (blocks : List Nat) (crc : Nat)
  deriving DecidableEq, Repr

/-- The whole state. -/
structure State where
  dev : Device := {}
  /-- Local time in root counts since the PTP epoch (R320). -/
  now : Nat := 0
  /-- Root counts since reset release, which no setting of local time moves. -/
  uptime : Nat := 0
  regs : RegFile := []
  /-- The values in force of the shadowed registers; `regs` holds what software wrote (R85). -/
  applied : RegFile := []
  /-- Latched _HI values, by the offset of the _LO register (R16). -/
  latches : List (Nat × Word) := []
  ticked : TickDone := {}
  evt : EvtUnit := {}
  host : HostUnit := {}
  clk : ClkUnit := {}
  time : TimeUnit := {}
  net : NetUnit := {}
  cond : CondUnit := {}
  skein : SkeinUnit := {}
  pat : PatUnit := {}
  omd : OmdUnit := {}
  rndr : RndrUnit := {}
  ndl : NdlUnit := {}
  sched : SchedUnit := {}
  xp : XpUnit := {}
  outs : OutsUnit := {}
  gauge : GaugeUnit := {}
  tdm : List (Nat × TdmPort) := []
  cas : CasUnit := {}
  hedge : HedgeUnit := {}
  store : StoreUnit := {}
  bootf : BootUnit := {}
  mtx : MatrixUnit := {}
  /-- DRAM, by fabric address (R440); unlisted bytes read 0. -/
  dram : List Host.Cell := []
  /-- The show-store array, and the two boot descriptor copies of the boot flash: both keep their contents over every reset. -/
  nand : NandArray := {}
  bootCopies : List (Option BootDescriptor) := [none, none]
  /-- Boot flash, by flash address; unlisted bytes read 0xFF. -/
  flash : List Host.Cell := []
  /-- The model's own: how many free values have been taken. -/
  freeIdx : Nat := 0
  /-- The model's own: what has left the device, newest first. -/
  outbox : List Emit := []
  /-- The model's own: what the last read command returned. -/
  readData : Word := 0
  /-- Commands that wait, first in, first out. -/
  pending : List Instr := []
  deriving DecidableEq, Repr

/-- The device right after reset: every register at its reset value, the FRN-8248 at its first stepping with blank
OTP, and nothing waiting. -/
def State.reset : State := {}

end Sys2Proof.Machine
end

