-- ==== Sys2Proof/Machine/RegMap.lean ====
section
/-! DEFINITION. The BAR0 map (R489, R490), the presence of units (R8, R9) and, for every register, its reset value,
its access code and the ranges of its fields, as the register tables of the chapters give them. A register whose
table row is RO with reset 0 needs no row here: the default specification is exactly that. -/

namespace Sys2Proof.Machine

/-! ### Counts of units: the variant table, R6 and R8 -/

def Part.activeTiles : Part → Nat | .f8248 => 64 | .f8244 => 32 | .f8242 => 16
def Part.spareTiles : Part → Nat | .f8248 => 4 | .f8244 => 2 | .f8242 => 1
def Part.objects : Part → Nat | .f8248 => 1024 | .f8244 => 512 | .f8242 => 256
def Part.speakers : Part → Nat | .f8248 => 512 | .f8244 => 512 | .f8242 => 256
def Part.auxOutputs : Part → Nat | .f8248 => 128 | .f8244 => 128 | .f8242 => 64
def Part.needles : Part → Nat | .f8248 => 16 | .f8244 => 8 | .f8242 => 4
def Part.measInputs : Part → Nat | .f8248 => 16 | .f8244 => 8 | .f8242 => 0
def Part.hasStore : Part → Bool | .f8242 => false | _ => true
def Part.casPorts : Part → Nat | .f8248 => 4 | .f8244 => 2 | .f8242 => 0
def Part.hasHedge : Part → Bool | .f8242 => false | _ => true
def Part.dramChannels : Part → Nat | .f8248 => 4 | _ => 2
def Part.code : Part → Nat | .f8248 => 0x8248 | .f8244 => 0x8244 | .f8242 => 0x8242
/-- R6. -/
def Part.cap0 : Part → Word | .f8248 => 0x84002C40 | .f8244 => 0x42002220 | .f8242 => 0x21002110
def Part.cap1 : Part → Word | .f8248 => 0x72420200 | .f8244 => 0x69220200 | .f8242 => 0x08010100
def Part.hasGauge (p : Part) : Bool := decide (0 < p.measInputs)
/-- Tiles, spares included (R8). -/
def Part.tiles (p : Part) : Nat := p.activeTiles + p.spareTiles

/-- An output number the device has: speakers from 0, auxiliary outputs from 512 (R8). -/
def Part.hasOutput (p : Part) (j : Nat) : Bool :=
  decide (j < p.speakers) || (decide (512 ≤ j) && decide (j < 512 + p.auxOutputs))

/-! ### Blocks -/

/-- The register blocks of R489. -/
inductive Block where
  | ident | clk | evt | time | ta | pat | sched | skein | matrix | dram | store | hedge | gauge | meas | net | cond
  | obj | spk | rxs | txs | tdm | tile | ndl | cas | omd | rndr | xp | outs | netc | bootf | host | rowp
  deriving DecidableEq, Repr

/-- One row of R489, with the block type of R491 (0 for the blocks without a BLOCK_ID). -/
structure BlockRow where
  block : Block
  base : Nat
  count : Nat
  stride : Nat
  type : Nat
  deriving DecidableEq, Repr

def blockRows : List BlockRow :=
  [⟨.ident, 0x0, 1, 0x10000, 0⟩, ⟨.clk, 0x10000, 1, 0x10000, 0x02⟩, ⟨.evt, 0x20000, 1, 0x10000, 0x03⟩,
   ⟨.time, 0x30000, 1, 0x10000, 0x04⟩, ⟨.ta, 0x40000, 256, 0x40, 0x05⟩, ⟨.pat, 0x50000, 1, 0x10000, 0x06⟩,
   ⟨.sched, 0x60000, 1, 0x10000, 0x07⟩, ⟨.skein, 0x70000, 1, 0x10000, 0x08⟩, ⟨.matrix, 0x80000, 1, 0x10000, 0x09⟩,
   ⟨.dram, 0x90000, 4, 0x4000, 0x0A⟩, ⟨.store, 0xA0000, 1, 0x10000, 0x0B⟩, ⟨.hedge, 0xB0000, 1, 0x10000, 0x0C⟩,
   ⟨.gauge, 0xC0000, 1, 0x10000, 0x0D⟩, ⟨.meas, 0xD0000, 16, 0x200, 0x0E⟩, ⟨.net, 0xE0000, 2, 0x8000, 0x0F⟩,
   ⟨.cond, 0xF0000, 1, 0x10000, 0x10⟩] ++
  [⟨.obj, 0x100000, 1024, 0x100, 0x11⟩, ⟨.spk, 0x140000, 640, 0x200, 0x12⟩, ⟨.rxs, 0x190000, 128, 0x100, 0x13⟩,
   ⟨.txs, 0x198000, 128, 0x100, 0x14⟩, ⟨.tdm, 0x1A0000, 32, 0x400, 0x15⟩, ⟨.tile, 0x1B0000, 68, 0x1000, 0x16⟩,
   ⟨.ndl, 0x1F4000, 16, 0x400, 0x17⟩, ⟨.cas, 0x1F8000, 4, 0x2000, 0x18⟩, ⟨.omd, 0x200000, 1, 0x10000, 0x19⟩,
   ⟨.rndr, 0x210000, 1, 0x10000, 0x1A⟩, ⟨.xp, 0x220000, 1, 0x10000, 0x1B⟩, ⟨.outs, 0x230000, 1, 0x10000, 0x1C⟩,
   ⟨.netc, 0x240000, 1, 0x10000, 0x1D⟩, ⟨.bootf, 0x250000, 1, 0x10000, 0x1E⟩, ⟨.host, 0x260000, 1, 0x10000, 0x1F⟩,
   ⟨.rowp, 0x300000, 640, 0x400, 0⟩]

/-- What a BAR0 offset names. -/
inductive Place where
  /-- Word `o` of instance `i` of a block. -/
  | reg (b : Block) (i o : Nat)
  /-- Node from IXP source to destination (R223). -/
  | ixpNode (src dst : Nat)
  | oxpNode (src dst : Nat)
  /-- The MSI-X table or PBA, reached from PCIe only (R486, R489). -/
  | msix (o : Nat)
  /-- A reserved offset inside a block's regions: reads 0, ignores writes (R490). -/
  | reserved
  /-- The default target (R490, R447). -/
  | default
  deriving DecidableEq, Repr

def BlockRow.find? (rows : List BlockRow) (off : Nat) : Option BlockRow :=
  rows.find? fun r => decide (r.base ≤ off) && decide (off < r.base + r.count * r.stride)

/-- R489 and R490: the place an aligned BAR0 offset names. The node of destination v and source u lies
at (v × sources + u) × 4 of its array (R223). -/
def place (off : Nat) : Place :=
  match BlockRow.find? blockRows off with
  | some r => .reg r.block ((off - r.base) / r.stride) ((off - r.base) % r.stride)
  | none =>
    if 0x270000 ≤ off ∧ off < 0x280000 then .msix (off - 0x270000)
    else if 0x1000000 ≤ off ∧ off < 0x1000000 + 4 * 1088 * 2048 then
      .ixpNode ((off - 0x1000000) / 4 % 2048) ((off - 0x1000000) / 4 / 2048)
    else if 0x2000000 ≤ off ∧ off < 0x2000000 + 4 * 640 * 640 then
      .oxpNode ((off - 0x2000000) / 4 % 640) ((off - 0x2000000) / 4 / 640)
    else if off < 0x280000 ∨ (0x300000 ≤ off ∧ off < 0x3A0000) ∨ (0x1000000 ≤ off ∧ off < 0x3000000) then .reserved
    else .default

/-- Presence of an instance of a block (R8, R9). -/
def Part.has (p : Part) (b : Block) (i : Nat) : Bool :=
  match b with
  | .dram => decide (i < p.dramChannels)
  | .store => p.hasStore
  | .hedge => p.hasHedge
  | .gauge => p.hasGauge
  | .meas => decide (i < p.measInputs)
  | .obj => decide (i < p.objects)
  | .spk => p.hasOutput i
  | .rowp => p.hasOutput i
  | .tile => decide (i < p.tiles)
  | .ndl => decide (i < p.needles)
  | .cas => decide (i < p.casPorts)
  | _ => true

/-- Presence of a node: its source and its destination belong to present units (R8, R10). -/
def Part.hasIxpNode (p : Part) (src dst : Nat) : Bool :=
  (decide (src < 1536) || (decide (src < 1792) && p.hasStore) || (decide (1792 ≤ src) && decide (src < 1792 + p.measInputs)) ||
    (decide (1808 ≤ src) && decide (src < 1824))) && (decide (dst < p.objects) || (decide (1024 ≤ dst) && decide (dst < 1088)))
def Part.hasOxpNode (p : Part) (src dst : Nat) : Bool :=
  (decide (src < p.speakers) || (decide (512 ≤ src) && decide (src < 640))) && p.hasOutput dst

/-! ### Register specifications -/

/-- The range a field accepts; a write outside it leaves the field unchanged. -/
structure FieldRange where
  hi : Nat
  lo : Nat
  min : Int
  max : Int
  /-- A value outside the range makes the device ignore the whole write, where the table says that the write is ignored. -/
  whole : Bool := false
  deriving DecidableEq, Repr

/-- Reset value, bits stored by a write, bits cleared by writing 1, and the ranges of the fields (R17, R18). -/
structure RegSpec where
  reset : Word := 0
  rw : Word := 0
  w1c : Word := 0
  ranges : List FieldRange := []
  deriving DecidableEq, Repr

def RegSpec.ro (reset : Word) : RegSpec := { reset := reset }
def RegSpec.rwr (mask reset : Word) (ranges : List FieldRange := []) : RegSpec :=
  { reset := reset, rw := mask, ranges := ranges }
def RegSpec.clr (mask : Word) : RegSpec := { w1c := mask }

/-- A range outside which a write leaves the field unchanged, where the register's row says so. -/
def rng (hi lo : Nat) (min max : Int) : FieldRange := { hi := hi, lo := lo, min := min, max := max }
/-- A field whose reserved values make the device ignore the write. -/
def resv (hi lo : Nat) (max : Int) : FieldRange := { hi := hi, lo := lo, min := 0, max := max, whole := true }

abbrev RegTable := List (Nat × RegSpec)

/-- The table's row for a word, or the default: RO, reset 0. -/
def RegTable.at (t : RegTable) (o : Nat) : RegSpec := (t.lookup o).getD {}

/-- Word `o` of the factory calibration window (R270); words beyond the fitted data read 0. -/
def Device.fcalWord (d : Device) (o : Nat) : Word := (d.fcal.lookup o).getD 0

/-- Sign-extend the low `w` bits. -/
def signExt (w n : Nat) : Int := if n % 2 ^ w < 2 ^ (w - 1) then ((n % 2 ^ w : Nat) : Int) else ((n % 2 ^ w : Nat) : Int) - 2 ^ w

/-- A number as a register word, two's complement. -/
def wordOfInt (x : Int) : Word := BitVec.ofInt 32 x

/-- The per-output FCAL fields of R270: 0 TRIM (s16), 1 VSCALE (s8), 2 ISCALE (s8), sign-extended. -/
def Device.spkFcal (d : Device) (j which : Nat) : Word :=
  if d.part.hasOutput j then
    let w := (d.fcalWord (0x200 + 4 * j)).toNat
    match which with
    | 0 => wordOfInt (signExt 16 w)
    | 1 => wordOfInt (signExt 8 (w / 2 ^ 16))
    | _ => wordOfInt (signExt 8 (w / 2 ^ 24))
  else 0

def identRegs (d : Device) : RegTable :=
  [(0x000, .ro 0x0A4D0F2E), (0x004, .ro (BitVec.ofNat 32 ((d.stepping % 256) * 65536 + d.part.code))),
   (0x008, .ro d.part.cap0), (0x00C, .ro d.part.cap1)]

/-- R530, R531. -/
def clkRegs (d : Device) : RegTable :=
  [(0x00C, .ro (d.fcalWord 0x180)), (0x010, .rwr 0xFFFFFFFF 0),
   (0x02C, .rwr 0xFFFF 0x2CEC [rng 15 0 8500 12500]),
   (0x038, .rwr 0xFF03 0x0A00 [rng 15 8 1 255]), (0x040, .clr 0x7F)]

/-- R508, R509. -/
def evtRegs : RegTable :=
  [(0x004, .rwr 1 0)] ++ (List.range 8).map (fun w => (0x040 + 4 * w, .clr 0xFFFFFFFF)) ++
  (List.range 8).map (fun w => (0x080 + 4 * w, .rwr 0xFFFFFFFF 0)) ++
  (List.range 8).map (fun k => (0x100 + 0x10 * k, .rwr 0x3FFF07FF 0x000A0001 [rng 10 0 1 1024, rng 29 16 1 10000]))

/-- R510. -/
def hostRegs (o : Nat) : RegSpec := if 0x100 ≤ o ∧ o < 0x500 then .rwr 0xFFFFFFFF 0 else {}


/-- R64, R65. KEY_STATUS and KEY_REVOKE read the OTP. -/
def patRegs : RegTable :=
  [(0x008, .rwr 0xFF03 0), (0x00C, .rwr 0xFFFFFFC0 0), (0x010, .rwr 0xFFFFFFFF 0), (0x014, .rwr 0xFFFFFFFF 0),
   (0x024, .rwr 0xFFFFFFFF 0), (0x028, .rwr 0xFFFFFFFF 0), (0x02C, .rwr 0xFFFFFFFE 0), (0x030, .rwr 0xFFFFFFFF 0)]

/-- R91 to R93. CTRL of a channel from 1,024 up is RO 0. -/
def condSpec (o : Nat) : RegSpec :=
  if 0x1000 ≤ o ∧ o < 0x1000 + 1808 * 0x20 then
    match (o - 0x1000) % 0x20 with
    | 0x00 => if (o - 0x1000) / 0x20 < 1024 then .rwr 3 0 [rng 1 0 0 1] else {}
    | 0x04 => .rwr 0x1FFFF 0
    | 0x0C => .clr 0x40
    | _ => {}
  else if 0x100 ≤ o ∧ o < 0x140 then .rwr 0x7F 0 [rng 1 0 0 2, rng 4 2 0 5]
  else match o with
    | 0x004 => .rwr 1 0
    | 0x010 => .rwr 0xFFFFFFFF 0
    | 0x014 => .rwr 0xFFFFFFFF 0
    | 0x018 => .rwr 0xFF03 0x0A01 [rng 1 0 0 2, rng 15 8 1 255]
    | _ => {}

/-- R122. -/
def omdRegs : RegTable :=
  [(0x004, .rwr 7 0), (0x010, .rwr 0xFFFFFFFF 0), (0x014, .rwr 0xFFFFFFFF 0), (0x018, .rwr 0xFF 0xA [rng 7 0 1 255]),
   (0x01C, .rwr 0xFFFF 0)]

/-- R123, R124. -/
def objRegs : RegTable :=
  [(0x04, .rwr 7 0), (0x0C, .clr 0xFF), (0x10, .rwr 0x007F03FF 0x0008001E [rng 22 16 0 64]), (0x14, .rwr 0xFFFFFF 0),
   (0x18, .rwr 0xFF 0x40), (0x1C, .rwr 0xF 0xF), (0x7C, .ro 0x10000000), (0xA0, .rwr 0xFFFFFFFF 0),
   (0xA4, .rwr 0xFFFFFFFF 0), (0xA8, .rwr 0xFFFFFFFF 0), (0xAC, .rwr 0xFFFFFFFF 0x10000000), (0xB0, .rwr 0xFFFFFFFF 0),
   (0xB4, .rwr 0xFFFFFFFF 0), (0xB8, .rwr 0xFFFFFFFF 0), (0xBC, .rwr 0xFFFFFFFF 0)]

def objSpec (o : Nat) : RegSpec :=
  if 0x20 ≤ o ∧ o < 0x70 then .rwr 0xFFFFFFFF (if (o - 0x20) % 0x14 = 0 then 0x40000000 else 0) else objRegs.at o

/-- R153, R155, R191, R216, R217. -/
def rndrRegs : RegTable := [(0x004, .rwr 1 1), (0x00C, .rwr 0xFFFF 0x3E8), (0x010, .rwr 0xFFFF 0xA)]
def tileRegs : RegTable := [(0x004, .rwr 1 1)]
def ndlRegs : RegTable := [(0x004, .rwr 3 3)]
def schedRegs : RegTable := [(0x004, .rwr 1 1), (0x010, .rwr 0xFFFFFFFF 0x0100324B)]

/-- R157: the pool at reset, by part; the Needle tier is 64 pages for each Needle. -/
def Part.poolPages (p : Part) : Nat := 256 * p.activeTiles + 256 * p.spareTiles + 64 * p.needles + 6144
def Part.sparePages (p : Part) : Nat := 256 * p.spareTiles

/-- R176, R177. -/
def skeinRegs (p : Part) : RegTable :=
  let w (n : Nat) : Word := BitVec.ofNat 32 n
  [(0x004, .rwr 1 1), (0x010, .rwr 0xFFFF000F 0x08000004 [rng 3 0 1 15, rng 31 16 0 24576]),
   (0x014, .ro (w p.poolPages)), (0x018, .ro (w p.sparePages)), (0x020, .ro (w p.sparePages)),
   (0x024, .ro (w (p.poolPages - p.sparePages))), (0x034, .ro (w (p.poolPages - p.sparePages))),
   (0x054, .rwr 0x7FF 0), (0x064, .ro (w (64 * p.needles)))]

/-- R235, R236. -/
def xpSpec (o : Nat) : RegSpec :=
  if 0x100 ≤ o ∧ o < 0x200 then .rwr 1 0
  else if 0x200 ≤ o ∧ o < 0x300 then .rwr 0x17FF 0x7FF
  else if 0x300 ≤ o ∧ o < 0x320 then (if o % 8 = 0 then .rwr 0x7FFFFF 0x186A0 [rng 22 0 1 4800000] else .rwr 0x3FF 0)
  else if (0x1000 ≤ o ∧ o < 0x2100) ∨ (0x3000 ≤ o ∧ o < 0x3A00) then .rwr 0x1FF 8 [rng 8 0 1 256]
  else match o with
    | 0x004 => .rwr 1 0
    | 0x010 => .rwr 0xFFFFFFFF 0
    | 0x014 => .rwr 0xFFFFFFFF 0
    | 0x020 => .clr 7
    | 0x038 => .rwr 0xFFFFFFFC 0
    | 0x048 => .rwr 0x107FF 0
    | _ => {}

/-- R264, R265. -/
def outsRegs : RegTable :=
  [(0x004, .rwr 1 0), (0x010, .rwr 0xFFFFFFFF 0), (0x014, .rwr 0xFFFFFFFF 0), (0x018, .rwr 0xFFFFFFC0 0),
   (0x01C, .rwr 0xFFFFFFFF 0), (0x020, .rwr 0xFFFF 0), (0x024, .rwr 0x03FF01FF 0), (0x028, .rwr 0xFFFFFFFF 0),
   (0x02C, .rwr 0xFFFFFFFF 0), (0x030, .rwr 0x00FF01FF 0x00400008 [rng 8 0 1 256, rng 23 16 1 128])]

/-- R267, R268. -/
def spkRegs (d : Device) (j : Nat) : RegTable :=
  [(0x004, .rwr 7 0), (0x00C, .ro (if 512 ≤ j then 0x2000 else 0)), (0x010, .clr 0xF), (0x014, .ro (d.spkFcal j 0)),
   (0x018, .rwr 0xFFFFFFFF 0), (0x030, .ro 0x2580)]

/-- R298, R299. The sources of SENSE_SRC and MIC_SRC are checked where they are written. -/
def spkGaugeRegs (d : Device) (j : Nat) : RegTable :=
  [(0x100, .rwr 0x7F 0 [resv 6 5 1]), (0x108, .clr 0x20), (0x10C, .rwr 0x07FF07FF 0x07FF07FF),
   (0x110, .rwr 0xFFFF07FF 0x7FF), (0x114, .rwr 0xFFFFFFFF 0), (0x118, .ro (d.spkFcal j 1)), (0x11C, .rwr 0xFFFFFFFF 0),
   (0x124, .ro (d.spkFcal j 2)), (0x128, .rwr 0xFFFFFFFF 0),
   (0x130, .rwr 0xFFFFFFFF 0x08191F40),
   (0x134, .rwr 0xFFFFFFFF 0x601001F4), (0x138, .rwr 0xFFFFFFFF 0),
   (0x13C, .rwr 0xFFFFFFFF 0), (0x140, .rwr 0xFFFFFFFF 0x9C4), (0x14C, .rwr 0x1F 0)] ++
  [(0x150, .rwr 0xFFFFFFFF 0), (0x154, .rwr 0xFFFFFFFF 0),
   (0x158, .rwr 0xFFFFFFFF 0), (0x15C, .rwr 0xFFFFFFFF 0),
   (0x160, .rwr 0xFFFFFFFF 0), (0x164, .rwr 0xFFFFFFFF 0),
   (0x16C, .ro 0x9C4)]

def spkSpec (d : Device) (j o : Nat) : RegSpec :=
  if o < 0x100 then (spkRegs d j).at o else if d.part.hasGauge then (spkGaugeRegs d j).at o else {}

/-- R295, R296. -/
def gaugeRegs (d : Device) : RegTable :=
  [(0x004, .rwr 7 0), (0x010, .rwr 0xFFFFFFFF 0), (0x014, .rwr 0xFFFFFFFF 0), (0x018, .rwr 0x03FF01FF 0),
   (0x01C, .rwr 0xFFF 0xA [rng 11 0 1 3600]), (0x020, .rwr 0x03FF00FF 0x00600018 [rng 7 0 2 255, rng 25 16 48 1023]),
   (0x024, .rwr 0x00FF03FF 0x0046012C [rng 9 0 0 600, rng 23 16 20 120]), (0x028, .ro (d.fcalWord 0x188)),
   (0x02C, .rwr 0xFFFFFFFF 0), (0x034, .ro (d.fcalWord 0x184)), (0x038, .rwr 0xFFFFFFFF 0),
   (0x044, .rwr 0x00FFFFFF 0x00400032 [rng 15 0 10 600]), (0x064, .rwr 0x7FFF 0)]

/-- R297. -/
def measRegs (d : Device) (m : Nat) : RegTable :=
  [(0x008, .clr 7), (0x010, .rwr 3 3), (0x014, .rwr 0xFF 4 [rng 7 0 1 255]), (0x018, .rwr 0x3FF 0x60 [rng 9 0 16 1023]),
   (0x01C, .ro (d.fcalWord (0x100 + 4 * m))), (0x020, .rwr 0xFFFFFFFF 0), (0x028, .ro (d.fcalWord (0x140 + 4 * m))),
   (0x02C, .rwr 0xFFFFFFFF 0)]

/-- R339, R340. -/
def timeRegs : RegTable :=
  [(0x0004, .rwr 7 4 [rng 1 0 0 2]), (0x000C, .ro 0x1C0), (0x0010, .rwr 0xFF3F 1 [resv 1 0 2]),
   (0x0014, .rwr 0xF 5 [resv 2 0 5]), (0x0018, .rwr 0xFF03 0x1901 [resv 1 0 2, rng 15 8 1 255]),
   (0x001C, .rwr 0xFFFFFF 0x2710 [rng 23 0 100 10000000]),
   (0x0048, .rwr 0xFFFFFFFF 0), (0x004C, .rwr 0xFFFFFFFF 0), (0x0050, .rwr 0xFFFFFFFF 0), (0x0054, .rwr 0xFFFFFFFF 0),
   (0x0058, .rwr 0xFFFFFFFF 0 [rng 31 0 0 999999999]), (0x005C, .rwr 0x1FFFF 0)] ++
  (List.range 4).map (fun c => (0x0080 + 0x20 * c, .rwr 0xFF 0 [resv 2 1 2])) ++
  (List.range 16).map (fun o => (0x0100 + 4 * o, .rwr 3 2))

def timeSpec (o : Nat) : RegSpec := if 0x8000 ≤ o then .rwr 0xFFFFFFFF 0 else timeRegs.at o

/-- R341, R342. The W1C bits of STATUS are MISSED, LATE and IGNORED. -/
def taRegs : RegTable :=
  [(0x04, .rwr 0x1F0F1F 0), (0x0C, .clr 0x1C), (0x10, .rwr 0xFFFFFFFF 0), (0x14, .rwr 0xFFFFFFFF 0),
   (0x18, .rwr 0xFFFFFFFF 0), (0x1C, .rwr 0xFFFF 0), (0x20, .rwr 0xFFFFFFFF 0), (0x24, .rwr 0xFFFF 0),
   (0x28, .rwr 0xFFFFFFFF 0), (0x2C, .rwr 0xFFFFFFFF 0x2710), (0x30, .rwr 0x07FF7FFF 0)]

/-- R372. -/
def netRegs : RegTable :=
  [(0x00C, .clr 3), (0x010, .rwr 0x1FFF007F 4), (0x014, .rwr 0xFFFFFFFF 0), (0x018, .rwr 0xFFFF 0),
   (0x01C, .rwr 0xFFFFFFFF 0), (0x020, .rwr 0x3F 0), (0x024, .rwr 0xFFFFFFFF 0), (0x028, .rwr 0xFFFFFFFF 0),
   (0x02C, .rwr 0xFFFFFFFF 0), (0x030, .rwr 0xFFFFFFFF 0), (0x034, .rwr 0xFF 0), (0x038, .rwr 0xFFFFFF 0xFAC688),
   (0x040, .rwr 0xFFFFFF 0), (0x044, .rwr 0xFFFFFF 0), (0x048, .rwr 0xFFFFFF 0), (0x04C, .rwr 0xFFFFFF 0),
   (0x050, .rwr 0x7F01 0), (0x054, .rwr 0xFFFFFFFF 0xF4240), (0x058, .rwr 0xFFFFFFFF 0), (0x05C, .rwr 0xFFFFFFFF 0),
   (0x060, .rwr 0xFFFFFFFF 0)]

def netSpec (o : Nat) : RegSpec :=
  if 0x1000 ≤ o ∧ o < 0x1100 then .rwr 0xFFFFFFFF 0xFF
  else if 0x1100 ≤ o ∧ o < 0x1200 then .ro 0xFF
  else netRegs.at o

/-- R373. KEY words are write-only: their commands keep them (R370). -/
def netcSpec (o : Nat) : RegSpec :=
  if o = 0x004 then .rwr 0xF 2
  else if o = 0x010 then .rwr 0xFFFFFFFF 0x07D0003C
  else if o = 0x014 then .rwr 0x3FFFFF 0
  else if 0x200 ≤ o ∧ o < 0x240 then .rwr 3 0
  else if 0x300 ≤ o ∧ o < 0x400 then .rwr 0xFFFFFFFF 0
  else if 0x400 ≤ o ∧ o < 0x440 then .rwr 7 0
  else {}

/-- R374. CTRL bit 31 reads 0. -/
def rxsRegs : RegTable :=
  [(0x04, .rwr 0x007F000F 0x00600000), (0x08, .rwr 0x03FF7F7F 1), (0x0C, .rwr 0xFFFFFFFF 0),
   (0x10, .rwr 0xFFFFFFFF 0), (0x14, .rwr 0xFFFFFFFF 0), (0x18, .rwr 0xFFFFFFFF 0), (0x1C, .rwr 0xFFFFFFFF 0),
   (0x20, .rwr 0xFFFF 0), (0x24, .rwr 0xFFFFFFFF 0), (0x28, .rwr 0xFFFFFFFF 0), (0x2C, .rwr 0xFFFFFFFF 0),
   (0x30, .rwr 0xFFFFFFFF 0), (0x34, .rwr 0xFFFFFFFF 0), (0x3C, .clr 1)]

/-- R375. -/
def txsRegs : RegTable :=
  [(0x04, .rwr 0x007F001F 0x00600000), (0x08, .rwr 0x03FF7F7F 0x1001), (0x0C, .rwr 0x3F7FFF 0x225000),
   (0x10, .rwr 0xFFFFFFFF 0), (0x14, .rwr 0xFFFFFFFF 0), (0x18, .rwr 0xFFFFFFFF 0), (0x1C, .rwr 0xFFFFFFFF 0),
   (0x20, .rwr 0xFFFFFFFF 0), (0x24, .rwr 0xFFFFFFFF 0), (0x28, .rwr 0xFFFFFFFF 0), (0x2C, .rwr 0xFFFF 0),
   (0x34, .clr 1)]

/-- R393, R394. -/
def tdmRegs : RegTable :=
  [(0x00C, .clr 0xFF), (0x010, .rwr 0x3FFFF 0), (0x014, .rwr 0xFFFFFFFF 0), (0x018, .rwr 0xFFFFFFFF 0), (0x01C, .rwr 0x3FF 0x3FF),
   (0x04C, .rwr 0xFFFF0001 0), (0x050, .rwr 0xFFFFFFC0 0), (0x054, .rwr 0xFFFFFFFF 0)]

/-- R416, R417. -/
def casSpec (i o : Nat) : RegSpec :=
  let port : RegTable := [(0x00C, .clr 0xF), (0x010, .rwr 0x3 0), (0x014, .rwr 0xFFFF 0), (0x018, .rwr 0x1FFF 0)]
  let dev : RegTable := [(0x104, .ro 0xFFFF), (0x108, .rwr 0x1 0x1), (0x10C, .ro 0x003FF000),
    (0x110, .rwr 0x03FF01FF 0x02000000), (0x114, .rwr 0x03FF03FF 0),
    (0x118, .rwr 0xFF 0xC [rng 7 0 2 255])]
  if i = 0 ∧ 0x200 ≤ o ∧ o < 0x280 then .rwr 0xFFFFFFFF 0
  else if i = 0 ∧ 0x1000 ≤ o then .rwr 0xC03FFFFF 0
  else if i = 0 ∧ 0x100 ≤ o then dev.at o
  else port.at o

/-- R436, R437. -/
def hedgeRegs : RegTable :=
  [(0x004, .rwr 0xF07 4), (0x010, .rwr 0x03FF00FF 0x00140006 [rng 7 0 3 60, rng 25 16 1 1000]),
   (0x014, .rwr 0x3FFF 0x3C [rng 11 0 1 3600]), (0x044, .ro 0xFFFF)] ++
  ((List.range 8).map fun k => (0x01C + 4 * k, .rwr 0xFFFFFFFF 0)) ++ [(0x03C, .rwr 0xFFFFFFFF 0), (0x040, .rwr 0xFFFFFFFF 0)]

/-- R450. -/
def latTarget (m : Nat) : Word :=
  if m = 4 ∨ m = 6 ∨ m = 7 then 1000 else if m = 0 ∨ m = 1 ∨ m = 2 ∨ m = 10 ∨ m = 11 then 2000
  else if m = 3 ∨ m = 13 then 100000 else 20000

/-- R458, R459. -/
def matrixSpec (o : Nat) : RegSpec :=
  if o = 0x00C then .rwr 0xFFFF 0x1000 [rng 15 0 3072 65535]
  else if o = 0x038 then .ro 0x80000
  else if o = 0x040 then .rwr 0x1F 8 [rng 4 0 1 25]
  else if 0x100 ≤ o ∧ o < 0x138 then .rwr 0xFFFFF (latTarget ((o - 0x100) / 4))
  else if 0x200 ≤ o ∧ o < 0x300 then
    .rwr (match o % 16 with | 0 => 0x3F03 | 4 => 0xFFFFF000 | 8 => 0xFFFFF000 | _ => 0xFF) 0
  else {}

/-- R460. -/
def dramRegs (d : Device) : RegTable :=
  [(0x00C, .ro (BitVec.ofNat 32 d.dramGiB)), (0x010, .rwr 0xFF 4 [rng 7 0 1 255]), (0x014, .rwr 0x3F 0x10 [rng 5 0 1 63]),
   (0x018, .rwr 0x3FFF 0x64 [rng 13 0 10 10000]), (0x01C, .rwr 0xFF 0x18 [rng 7 0 1 255])]

/-- R483, R484. -/
def storeSpec (o : Nat) : RegSpec :=
  if 0x8000 ≤ o ∧ o < 0xC000 then
    (match o % 64 with
     | 0x00 => .rwr 0x1 0 | 0x0C => .rwr 0xFFFF 0
     | 0x10 => .rwr 0xFFFFFFFF 0 | 0x14 => .rwr 0xFFFFFFFF 0 | 0x18 => .rwr 0xFFFFFFFF 0 | 0x1C => .rwr 0xFFFFFFFF 0
     | 0x20 => .rwr 0xFFFFFFFF 0 | 0x24 => .rwr 0xFFFFFFFF 0 | _ => {})
  else match o with
    | 0x00C => .rwr 0x3FFFF 0
    | 0x010 => .rwr 0xFFFFFFC0 0
    | 0x014 => .rwr 0xFFFFFFFF 0
    | 0x018 => .rwr 0xFFFFFFFF 0
    | 0x01C => .rwr 0xFFFFFFFF 0
    | 0x03C => .rwr 0xFFFFFFFF 0x3C6403E8 [rng 15 0 100 10000, rng 23 16 10 255, rng 31 24 8 100]
    | 0x040 => .rwr 0xFF 7 [rng 7 0 1 255]
    | _ => {}

/-- R485. -/
def bootfRegs : RegTable :=
  [(0x00C, .rwr 0xFFFFFFC0 0), (0x010, .rwr 0xFFFFFFFF 0), (0x014, .rwr 0xFFFFFFFF 0), (0x018, .rwr 0xFFFFFFFF 0x06000000),
   (0x01C, .rwr 0x1FFFF 0)]

/-- The specification of word `o` of instance `i` of a block. -/
def blockSpec (d : Device) (b : Block) (i o : Nat) : RegSpec :=
  match b with
  | .ident => if 0x100 ≤ o ∧ o < 0x1000 then .ro (d.fcalWord o) else (identRegs d).at o
  | .clk => (clkRegs d).at o
  | .evt => evtRegs.at o
  | .host => hostRegs o
  | .cond => condSpec o
  | .skein => (skeinRegs d.part).at o
  | .time => timeSpec o
  | .ta => taRegs.at o
  | .net => netSpec o
  | .netc => netcSpec o
  | .rxs => rxsRegs.at o
  | .txs => txsRegs.at o
  | .pat => patRegs.at o
  | .omd => omdRegs.at o
  | .obj => objSpec o
  | .rndr => rndrRegs.at o
  | .tile => tileRegs.at o
  | .ndl => ndlRegs.at o
  | .sched => schedRegs.at o
  | .matrix => matrixSpec o
  | .dram => (dramRegs d).at o
  | .xp => xpSpec o
  | .outs => outsRegs.at o
  | .spk => spkSpec d i o
  | .rowp => .rwr 0xFFFFFFFF 0
  | .gauge => (gaugeRegs d).at o
  | .meas => (measRegs d i).at o
  | .tdm => tdmRegs.at o
  | .hedge => hedgeRegs.at o
  | .cas => casSpec i o
  | .store => storeSpec o
  | .bootf => bootfRegs.at o

/-- The specification of the register at a BAR0 offset. -/
def regSpec (d : Device) (off : Nat) : RegSpec :=
  match place off with
  | .reg b i o => blockSpec d b i o
  | .msix o => if o < 0x80 then .rwr (if o % 16 = 12 then 1 else if o % 16 = 0 then 0xFFFFFFFC else 0xFFFFFFFF) (if o % 16 = 12 then 1 else 0) else {}
  | .ixpNode _ _ => .rwr 0xFFFFFFFF 0
  | .oxpNode _ _ => .rwr 0xFFFFFFFF 0
  | _ => {}

/-- The reset value of the register at a BAR0 offset. -/
def resetValue (d : Device) (off : Nat) : Word := (regSpec d off).reset

end Sys2Proof.Machine
end

