-- ==== Sys2Proof/Machine/Ops.lean ====
section
/-! DEFINITION. The named operations every meaning is written over: bit fields, sorted association lists, the
register file, saturating counters (R14), convergent rounding (R20), local time (R320, R321), target block numbers
(R69, R85), the free values and the log of what leaves the device. -/

namespace Sys2Proof.Machine

/-! ### Bit fields of a word -/

/-- Field [hi:lo] of a number. -/
def natField (w hi lo : Nat) : Nat := w / 2 ^ lo % 2 ^ (hi + 1 - lo)

/-- Field [hi:lo] of a word. -/
def fld (w : Word) (hi lo : Nat) : Nat := natField w.toNat hi lo

/-- The word with field [hi:lo] set to `n`, reduced to the field's width. -/
def setFld (w : Word) (hi lo n : Nat) : Word :=
  BitVec.ofNat 32 (w.toNat - fld w hi lo * 2 ^ lo + n % 2 ^ (hi + 1 - lo) * 2 ^ lo)

/-- Bit `b` of a word. -/
def bitAt (w : Word) (b : Nat) : Bool := fld w b b == 1

/-- One bit as a number. -/
def b2n (b : Bool) : Nat := if b then 1 else 0

/-- A word with only bit `b` set. -/
def bitWord (b : Nat) : Word := BitVec.ofNat 32 (2 ^ b)

/-- The signed field [hi:lo]. -/
def sfld (w : Word) (hi lo : Nat) : Int := signExt (hi + 1 - lo) (fld w hi lo)

/-! ### Numbers -/

/-- `n / d` rounded half to even (R20); `d` is positive. -/
def divEven (n : Int) (d : Nat) : Int :=
  let q := n.fdiv d
  let r := 2 * (n - q * d)
  if r < d then q else if (d : Int) < r then q + 1 else if q % 2 = 0 then q else q + 1

/-- The value limited to the interval. -/
def clampInt (lo hi x : Int) : Int := if x < lo then lo else if hi < x then hi else x

/-- Two's-complement wrap to 64 bits (R145). -/
def wrap64 (x : Int) : Int := (x + 2 ^ 63) % 2 ^ 64 - 2 ^ 63

/-- Narrowing to Q1.31 with saturation. -/
def satQ31 (x : Int) : Int := clampInt (-(2 ^ 31)) (2 ^ 31 - 1) x

/-- A saturating s32 value as a word. -/
def satWord (x : Int) : Word := wordOfInt (satQ31 x)

/-! ### Bytes -/

/-- Byte `o` of a byte list as a number; 0 beyond its end. -/
def byteAt (l : List Byte) (o : Nat) : Nat := (l.getD o 0).toNat

/-- The big-endian number in `n` bytes from offset `o`. -/
def beNat (l : List Byte) (o n : Nat) : Nat := (List.range n).foldl (fun a i => a * 256 + byteAt l (o + i)) 0

/-- The little-endian number in `n` bytes from offset `o`. -/
def leNat (l : List Byte) (o n : Nat) : Nat := (List.range n).foldr (fun i a => a * 256 + byteAt l (o + i)) 0

/-- `n` as `w` bytes, big-endian and little-endian. -/
def beBytes (w n : Nat) : List Byte := (List.range w).map fun i => BitVec.ofNat 8 (n / 256 ^ (w - 1 - i))
def leBytes (w n : Nat) : List Byte := (List.range w).map fun i => BitVec.ofNat 8 (n / 256 ^ i)

/-! ### Association lists with rising keys -/

def Assoc.get? {α : Type} (k : Nat) : List (Nat × α) → Option α
  | [] => none
  | (a, v) :: r => if a = k then some v else Assoc.get? k r

/-- Insert or replace, keeping the keys rising. -/
def Assoc.put {α : Type} (k : Nat) (v : α) : List (Nat × α) → List (Nat × α)
  | [] => [(k, v)]
  | (a, w) :: r => if a = k then (k, v) :: r else if k < a then (k, v) :: (a, w) :: r else (a, w) :: Assoc.put k v r

def Assoc.del {α : Type} (k : Nat) : List (Nat × α) → List (Nat × α)
  | [] => []
  | (a, w) :: r => if a = k then Assoc.del k r else (a, w) :: Assoc.del k r

/-- Rising keys. -/
def Assoc.sorted {α : Type} : List (Nat × α) → Bool
  | [] => true
  | [_] => true
  | (a, _) :: (b, w) :: r => decide (a < b) && Assoc.sorted ((b, w) :: r)

/-! ### Memories in canonical form -/

/-- Rising addresses, and no entry equal to what an unlisted address reads as. -/
def Memory.wf (blank : Byte) (m : List Host.Cell) : Bool := Assoc.sorted m && m.all fun e => e.2 != blank

def Memory.get (blank : Byte) (m : List Host.Cell) (a : Nat) : Byte := (Assoc.get? a m).getD blank

def Memory.put (blank : Byte) (m : List Host.Cell) (a : Nat) (v : Byte) : List Host.Cell :=
  if v = blank then Assoc.del a m else Assoc.put a v m

/-- Write the bytes that have a strobe, at rising addresses from `a` (R445). -/
def Memory.write (blank : Byte) (m : List Host.Cell) (a : Nat) : List (Option Byte) → List Host.Cell
  | [] => m
  | some v :: r => Memory.write blank (Memory.put blank m a v) (a + 1) r
  | none :: r => Memory.write blank m (a + 1) r

def Memory.read (blank : Byte) (m : List Host.Cell) (a n : Nat) : List Byte := (List.range n).map fun i => Memory.get blank m (a + i)

/-- The canonical form of a memory: the memory itself where it is canonical. -/
def Memory.canon (blank : Byte) (m : List Host.Cell) : List Host.Cell :=
  m.foldr (fun e acc => Memory.put blank acc e.1 e.2) []

/-! ### The register file -/

/-- The canonical form: rising offsets, and no entry equal to the reset value of its register. -/
def RegFile.wf (rst : Nat → Word) (m : RegFile) : Bool := Assoc.sorted m && m.all fun e => e.2 != rst e.1

/-- The value a register file holds for an offset: the entry, or the reset value. -/
def RegFile.get (rst : Nat → Word) (m : RegFile) (o : Nat) : Word := (Assoc.get? o m).getD (rst o)

/-- Store a value, keeping the canonical form. -/
def RegFile.put (rst : Nat → Word) (m : RegFile) (o : Nat) (v : Word) : RegFile :=
  if v = rst o then Assoc.del o m else Assoc.put o v m

/-- Root counts per second and per sample tick (R320, R321). -/
def countsPerSecond : Nat := 3145728000
def countsPerTick : Nat := 32768

namespace State

/-- The stored value of the register at a BAR0 offset. -/
def rd (s : State) (o : Nat) : Word := RegFile.get (resetValue s.dev) s.regs o

def wr (s : State) (o : Nat) (v : Word) : State := { s with regs := RegFile.put (resetValue s.dev) s.regs o v }

/-- Field [hi:lo] of a register. -/
def rf (s : State) (o hi lo : Nat) : Nat := fld (s.rd o) hi lo
/-- Signed field [hi:lo] of a register. -/
def rsf (s : State) (o hi lo : Nat) : Int := sfld (s.rd o) hi lo
def bitOf (s : State) (o b : Nat) : Bool := bitAt (s.rd o) b
def wf (s : State) (o hi lo n : Nat) : State := s.wr o (setFld (s.rd o) hi lo n)
def setBit (s : State) (o b : Nat) : State := s.wf o b b 1
def clrBit (s : State) (o b : Nat) : State := s.wf o b b 0
def putBit (s : State) (o b : Nat) (v : Bool) : State := s.wf o b b (b2n v)

/-- The 64-bit value of a _LO/_HI pair (R16). -/
def rd64 (s : State) (lo : Nat) : Nat := (s.rd lo).toNat + (s.rd (lo + 4)).toNat * 2 ^ 32
def wr64 (s : State) (lo n : Nat) : State := (s.wr lo (BitVec.ofNat 32 n)).wr (lo + 4) (BitVec.ofNat 32 (n / 2 ^ 32))

/-- Add to a 32-bit counter, saturating (R14). -/
def countBy (s : State) (o n : Nat) : State := s.wr o (BitVec.ofNat 32 (min ((s.rd o).toNat + n) 0xFFFFFFFF))
def count (s : State) (o : Nat) : State := s.countBy o 1

/-- Add to a counter that fills field [hi:lo], saturating (R14). -/
def countField (s : State) (o hi lo n : Nat) : State := s.wf o hi lo (min (s.rf o hi lo + n) (2 ^ (hi + 1 - lo) - 1))

/-- Return registers to their reset values (the CLEAR_COUNTS commands clear counters to 0, which is their reset value). -/
def resetRegs (s : State) (os : List Nat) : State := os.foldl (fun t o => t.wr o (resetValue s.dev o)) s

/-- Keep the larger of a register's unsigned value and `n`. -/
def maxReg (s : State) (o n : Nat) : State := if (s.rd o).toNat < n then s.wr o (BitVec.ofNat 32 (min n 0xFFFFFFFF)) else s

/-- The value in force of a shadowed register. -/
def inForce (s : State) (o : Nat) : Word := RegFile.get (resetValue s.dev) s.applied o
def enforce (s : State) (o : Nat) (v : Word) : State :=
  { s with applied := RegFile.put (resetValue s.dev) s.applied o v }
def af (s : State) (o hi lo : Nat) : Nat := fld (s.inForce o) hi lo
def asf (s : State) (o hi lo : Nat) : Int := sfld (s.inForce o) hi lo
def abit (s : State) (o b : Nat) : Bool := bitAt (s.inForce o) b

/-! ### Local time: R320, R321 -/

/-- The sample tick in progress. -/
def tick (s : State) : Nat := s.now / 32768
/-- The block in progress. -/
def block (s : State) : Nat := s.tick / 32
/-- The sample of the block in progress. -/
def phase (s : State) : Nat := s.tick % 32
/-- Local time in 2^-16 ns: one root count is 62,500 / 3 of them, narrowed by convergent rounding (R320). -/
def nowUnits (s : State) : Nat := (divEven (s.now * 62500 : Nat) 3).toNat

/-- The target block an APPLY_BLOCK, COMMIT_BLOCK or SWAP_BLOCK pair selects: 0 means the first boundary after
acceptance; a non-zero value below the current block + 2 is refused (R69, R85). -/
def targetBlock (s : State) (lo : Nat) : Option Nat :=
  let v := s.rd64 lo
  if v = 0 then some (s.block + 1) else if v < s.block + 2 then none else some v

/-! ### What leaves the device, and free values -/

/-- Log what leaves the device, newest first. -/
def emit (s : State) (e : Emit) : State := { s with outbox := e :: s.outbox }

/-- The next free word: a value the spec leaves open. -/
def freeWord (s : State) : Word := Config.freeWord s.freeIdx
def bumpFree (s : State) : State := { s with freeIdx := s.freeIdx + 1 }

end State

/-- Fold a state function over a list. -/
def State.over {α : Type} (s : State) (l : List α) (f : State → α → State) : State := l.foldl f s

/-- Apply a function under a condition. -/
def State.when (s : State) (c : Bool) (f : State → State) : State := if c then f s else s

/-- The device after a command: its identity and its factory data are fixed, and OTP bits are only ever blown (R63). -/
def Device.keep (d e : Device) : Device := { d with revoked := Nat.lor d.revoked e.revoked }

end Sys2Proof.Machine
end

