-- ==== Sys2Proof/Machine/Crypto.lean ====
section
/-! DEFINITION. The fixed functions of the published standards that the manual names: the CRC-32C of RFC 3720 (R30, R399,
R431), SHA-256 with HMAC (R367, FIPS 180-4 and 198-1), SHA-384 and the P-384 verification of R30 (FIPS 186). Each is
written from its standard (PRESUMED: the manual names them and does not print them). -/

namespace Sys2Proof.Machine

/-! ### CRC-32C -/

/-- One bit of the reflected Castagnoli register. -/
def crcBit (c : Nat) : Nat := if c % 2 = 1 then Nat.xor (c / 2) 0x82F63B78 else c / 2

def crcByte (c : Nat) (b : Byte) : Nat :=
  let c := Nat.xor c b.toNat
  crcBit (crcBit (crcBit (crcBit (crcBit (crcBit (crcBit (crcBit c)))))))

/-- The CRC-32C of a byte string. -/
def crc32c (l : List Byte) : Nat := Nat.xor (l.foldl crcByte 0xFFFFFFFF) 0xFFFFFFFF

/-! ### SHA-2 -/

/-- The word size and the rotation counts of a SHA-2 function. -/
structure ShaKind where
  bits : Nat
  rounds : Nat
  big0 : Nat × Nat × Nat
  big1 : Nat × Nat × Nat
  small0 : Nat × Nat × Nat
  small1 : Nat × Nat × Nat

def sha32 : ShaKind := ⟨32, 64, (2, 13, 22), (6, 11, 25), (7, 18, 3), (17, 19, 10)⟩
def sha64 : ShaKind := ⟨64, 80, (28, 34, 39), (14, 18, 41), (1, 8, 7), (19, 61, 6)⟩

/-- The 80 round constants; those of the 32-bit functions are the upper halves of the first 64. -/
def shaConstants : List Nat :=
  [0x428a2f98d728ae22, 0x7137449123ef65cd, 0xb5c0fbcfec4d3b2f, 0xe9b5dba58189dbbc] ++
  [0x3956c25bf348b538, 0x59f111f1b605d019, 0x923f82a4af194f9b, 0xab1c5ed5da6d8118] ++
  [0xd807aa98a3030242, 0x12835b0145706fbe, 0x243185be4ee4b28c, 0x550c7dc3d5ffb4e2] ++
  [0x72be5d74f27b896f, 0x80deb1fe3b1696b1, 0x9bdc06a725c71235, 0xc19bf174cf692694] ++
  [0xe49b69c19ef14ad2, 0xefbe4786384f25e3, 0x0fc19dc68b8cd5b5, 0x240ca1cc77ac9c65] ++
  [0x2de92c6f592b0275, 0x4a7484aa6ea6e483, 0x5cb0a9dcbd41fbd4, 0x76f988da831153b5] ++
  [0x983e5152ee66dfab, 0xa831c66d2db43210, 0xb00327c898fb213f, 0xbf597fc7beef0ee4] ++
  [0xc6e00bf33da88fc2, 0xd5a79147930aa725, 0x06ca6351e003826f, 0x142929670a0e6e70] ++
  [0x27b70a8546d22ffc, 0x2e1b21385c26c926, 0x4d2c6dfc5ac42aed, 0x53380d139d95b3df] ++
  [0x650a73548baf63de, 0x766a0abb3c77b2a8, 0x81c2c92e47edaee6, 0x92722c851482353b] ++
  [0xa2bfe8a14cf10364, 0xa81a664bbc423001, 0xc24b8b70d0f89791, 0xc76c51a30654be30] ++
  [0xd192e819d6ef5218, 0xd69906245565a910, 0xf40e35855771202a, 0x106aa07032bbd1b8] ++
  [0x19a4c116b8d2d0c8, 0x1e376c085141ab53, 0x2748774cdf8eeb99, 0x34b0bcb5e19b48a8] ++
  [0x391c0cb3c5c95a63, 0x4ed8aa4ae3418acb, 0x5b9cca4f7763e373, 0x682e6ff3d6b2b8a3] ++
  [0x748f82ee5defb2fc, 0x78a5636f43172f60, 0x84c87814a1f0ab72, 0x8cc702081a6439ec] ++
  [0x90befffa23631e28, 0xa4506cebde82bde9, 0xbef9a3f7b2c67915, 0xc67178f2e372532b] ++
  [0xca273eceea26619c, 0xd186b8c721c0c207, 0xeada7dd6cde0eb1e, 0xf57d4f7fee6ed178] ++
  [0x06f067aa72176fba, 0x0a637dc5a2c898a6, 0x113f9804bef90dae, 0x1b710b35131c471b] ++
  [0x28db77f523047d84, 0x32caab7b40c72493, 0x3c9ebe0a15c9bebc, 0x431d67c49c100d4c] ++
  [0x4cc5d4becb3e42b6, 0x597f299cfc657e2a, 0x5fcb6fab3ad6faec, 0x6c44198c4a475817]

def ShaKind.constants (k : ShaKind) : List Nat := if k.bits = 32 then shaConstants.map (· / 2 ^ 32) else shaConstants
def ShaKind.mod (k : ShaKind) : Nat := 2 ^ k.bits
def ShaKind.rotr (k : ShaKind) (x n : Nat) : Nat := x / 2 ^ n + x % 2 ^ n * 2 ^ (k.bits - n)
def ShaKind.sum (k : ShaKind) (r : Nat × Nat × Nat) (x : Nat) : Nat := Nat.xor (Nat.xor (k.rotr x r.1) (k.rotr x r.2.1)) (k.rotr x r.2.2)
def ShaKind.sigma (k : ShaKind) (r : Nat × Nat × Nat) (x : Nat) : Nat := Nat.xor (Nat.xor (k.rotr x r.1) (k.rotr x r.2.1)) (x / 2 ^ r.2.2)

/-- The message schedule, newest word first. -/
def ShaKind.schedule (k : ShaKind) : Nat → List Nat → List Nat
  | 0, w => w
  | f + 1, w =>
    let x := (k.sigma k.small1 (w.getD 1 0) + w.getD 6 0 + k.sigma k.small0 (w.getD 14 0) + w.getD 15 0) % k.mod
    k.schedule f (x :: w)

/-- One round on the eight working variables a to h. -/
def ShaKind.round (k : ShaKind) (v : List Nat) (kw : Nat) : List Nat :=
  match v with
  | [a, b, c, d, e, f, g, h] =>
    let ch := Nat.xor (Nat.land e f) (Nat.land (k.mod - 1 - e) g)
    let maj := Nat.xor (Nat.xor (Nat.land a b) (Nat.land a c)) (Nat.land b c)
    let t1 := h + k.sum k.big1 e + ch + kw
    [(t1 + k.sum k.big0 a + maj) % k.mod, a, b, c, (d + t1) % k.mod, e, f, g]
  | _ => v

/-- Compress one block of 16 words. -/
def ShaKind.compress (k : ShaKind) (h : List Nat) (block : List Nat) : List Nat :=
  let w := (k.schedule (k.rounds - 16) block.reverse).reverse
  let v := (List.zipWith (· + ·) k.constants w).foldl k.round h
  List.zipWith (fun a b => (a + b) % k.mod) h v

/-- The padded message: a 1 bit, zeros, and the length in bits over two words. -/
def ShaKind.pad (k : ShaKind) (l : List Byte) : List Byte :=
  let b := k.bits * 2
  let z := (2 * b - (l.length + 1 + k.bits / 4) % b) % b
  l ++ [0x80] ++ List.replicate z 0 ++ beBytes (k.bits / 4) (8 * l.length)

/-- Compress the blocks of a padded message. -/
def ShaKind.blocks (k : ShaKind) : Nat → List Nat → List Byte → List Nat
  | 0, h, _ => h
  | f + 1, h, l => k.blocks f (k.compress h ((List.range 16).map fun i => beNat l (i * (k.bits / 8)) (k.bits / 8))) (l.drop (2 * k.bits))

def ShaKind.hash (k : ShaKind) (init : List Nat) (l : List Byte) : List Byte :=
  let m := k.pad l
  ((k.blocks (m.length / (2 * k.bits)) init m).map (beBytes (k.bits / 8))).flatten

def sha256 (l : List Byte) : List Byte :=
  sha32.hash ([0x6a09e667, 0xbb67ae85, 0x3c6ef372, 0xa54ff53a, 0x510e527f, 0x9b05688c, 0x1f83d9ab, 0x5be0cd19]) l

def sha384 (l : List Byte) : List Byte :=
  (sha64.hash ([0xcbbb9d5dc1059ed8, 0x629a292a367cd507, 0x9159015a3070dd17, 0x152fecd8f70e5939] ++
  [0x67332667ffc00b31, 0x8eb44a8768581511, 0xdb0c2e0d64f98fa7, 0x47b5481dbefa4fa4]) l).take 48

/-- HMAC-SHA-256 with a key of at most 64 bytes. -/
def hmacSha256 (key msg : List Byte) : List Byte :=
  let k := key ++ List.replicate (64 - key.length) 0
  sha256 (k.map (· ^^^ 0x5C) ++ sha256 (k.map (· ^^^ 0x36) ++ msg))

/-! ### ECDSA over P-384 -/

def p384P : Nat := 2 ^ 384 - 2 ^ 128 - 2 ^ 96 + 2 ^ 32 - 1
def p384B : Nat := 0xb3312fa7e23ee7e4988e056be3f82d19181d9c6efe8141120314088f5013875ac656398d8a2ed19d2a85c8edd3ec2aef
def p384N : Nat := 0xffffffffffffffffffffffffffffffffffffffffffffffffc7634d81f4372ddf581a0db248b0a77aecec196accc52973
def p384Gx : Nat := 0xaa87ca22be8b05378eb1c71ef320ad746e1d3b628ba79b9859f741e082542a385502f25dbf55296c3a545e3872760ab7
def p384Gy : Nat := 0x3617de4a96262c6f5d9e98bf9292dc29f8f41dbd289a147ce9da3113b5f0b8c00a60b1ce1d7e819d7a431d7c90ea0e5f

/-- b^e modulo m, for exponents of up to 384 bits. -/
def powMod (m : Nat) : Nat → Nat → Nat → Nat → Nat
  | 0, _, _, a => a
  | f + 1, b, e, a => powMod m f (b * b % m) (e / 2) (if e % 2 = 1 then a * b % m else a)
def invMod (m x : Nat) : Nat := powMod m 384 (x % m) (m - 2) 1

/-- A point in Jacobian coordinates; Z = 0 is the point at infinity. -/
structure JPoint where
  x : Nat
  y : Nat
  z : Nat

def JPoint.double (q : JPoint) : JPoint :=
  let p := p384P
  let zz := q.z * q.z % p
  let m := 3 * ((q.x + p - zz) * (q.x + zz)) % p
  let yy := q.y * q.y % p
  let s := 4 * q.x * yy % p
  let x := (m * m + 2 * (p - s)) % p
  ⟨x, (m * (s + p - x) + (p - 8 * yy * yy % p)) % p, 2 * q.y * q.z % p⟩

def JPoint.add (a b : JPoint) : JPoint :=
  let p := p384P
  if a.z = 0 then b
  else if b.z = 0 then a
  else
    let za := a.z * a.z % p
    let zb := b.z * b.z % p
    let u1 := a.x * zb % p
    let u2 := b.x * za % p
    let s1 := a.y * zb * b.z % p
    let s2 := b.y * za * a.z % p
    if u1 = u2 then (if s1 = s2 then a.double else ⟨1, 1, 0⟩)
    else
      let h := (u2 + p - u1) % p
      let r := (s2 + p - s1) % p
      let hh := h * h % p
      let h3 := h * hh % p
      let v := u1 * hh % p
      let x := (r * r + (p - h3) + 2 * (p - v)) % p
      ⟨x, (r * (v + p - x) + (p - s1 * h3 % p)) % p, h * a.z * b.z % p⟩

/-- Σ over the low `f` bits of `k`: double and add from the least significant bit. -/
def JPoint.mul : Nat → Nat → JPoint → JPoint → JPoint
  | 0, _, _, acc => acc
  | f + 1, k, q, acc => JPoint.mul f (k / 2) q.double (if k % 2 = 1 then acc.add q else acc)

/-- The point (x, y) lies on the curve y² = x³ − 3x + b. -/
def onP384 (x y : Nat) : Bool :=
  decide (x < p384P) && decide (y < p384P) && decide (y * y % p384P = (x * x * x + (p384P - 3) * x + p384B) % p384P)

/-- The ECDSA verification of R30: the public key (x, y), the signature (r, s) and the hash as a number. -/
def ecdsaP384 (x y r s h : Nat) : Bool :=
  if !onP384 x y || r = 0 || p384N ≤ r || s = 0 || p384N ≤ s then false
  else
    let w := invMod p384N s
    let o : JPoint := ⟨1, 1, 0⟩
    let q := (JPoint.mul 384 (h * w % p384N) ⟨p384Gx, p384Gy, 1⟩ o).add (JPoint.mul 384 (r * w % p384N) ⟨x, y, 1⟩ o)
    if q.z = 0 then false
    else
      let zi := invMod p384P q.z
      decide (q.x * (zi * zi % p384P) % p384P % p384N = r)

end Sys2Proof.Machine
end

