-- ==== Sys2Proof/Machine/Fixed.lean ====
section
/-! DEFINITION. The fixed functions of R129: square root, exponential, logarithm, power and trigonometric functions,
correctly rounded. A real number is held as an integer scaled by 2^160; each function below is good to well within
2^-120 of its exact value, and `roundFx` rounds half to even, taking as a tie what lies within 2^-110 of one. -/

namespace Sys2Proof.Machine

/-- A real number × 2^160. -/
abbrev Fx := Int

def fxOne : Fx := 2 ^ 160
/-- π, ln 2 and ln 10, × 2^160. -/
def fxPi : Fx := 4591442807048218921384805199743311128454155024418
def fxLn2 : Fx := 1013035739299659071135698605846798551586536899366
def fxLn10 : Fx := 3365231883504527125129111981421568120141379515367

def fxInt (n : Int) : Fx := n * fxOne
/-- The rational n / d. -/
def fxRat (n : Int) (d : Nat) : Fx := (n * fxOne).fdiv d
def fxMul (a b : Fx) : Fx := (a * b).fdiv fxOne
def fxDiv (a b : Fx) : Fx := if b = 0 then 0 else (a * fxOne).fdiv b

/-- Newton's iteration for the integer square root from above. -/
def isqrtLoop (n : Nat) : Nat → Nat → Nat
  | 0, x => x
  | f + 1, x =>
    let y := (x + n / x) / 2
    if y < x then isqrtLoop n f y else x

/-- The integer square root. -/
def isqrt (n : Nat) : Nat := if n = 0 then 0 else isqrtLoop n 300 (2 ^ ((Nat.log2 n) / 2 + 1))

def fxSqrt (a : Fx) : Fx := if a ≤ 0 then 0 else (isqrt (a.toNat * 2 ^ 160) : Nat)

/-- Taylor terms x^k / k! from term `t` on. -/
def expTerms (x : Fx) : Nat → Nat → Fx → Fx → Fx
  | 0, _, _, acc => acc
  | f + 1, k, t, acc =>
    let t' := (fxMul t x).fdiv (k : Nat)
    if t' = 0 then acc else expTerms x f (k + 1) t' (acc + t')

/-- e^x; 0 far below the resolution. -/
def fxExp (x : Fx) : Fx :=
  let k := (x + fxLn2 / 2).fdiv fxLn2
  if k < -200 then 0
  else
    let r := expTerms (x - k * fxLn2) 60 1 fxOne fxOne
    if 0 ≤ k then r * 2 ^ k.toNat else r.fdiv (2 ^ (-k).toNat)

/-- z + z^3/3 + z^5/5 + … -/
def atanhTerms (z2 : Fx) : Nat → Nat → Fx → Fx → Fx
  | 0, _, _, acc => acc
  | f + 1, k, t, acc =>
    let t' := fxMul t z2
    if t' = 0 ∨ t' = -1 then acc else atanhTerms z2 f (k + 2) t' (acc + t'.fdiv (k : Nat))

/-- ln x for x > 0. -/
def fxLn (x : Fx) : Fx :=
  if x ≤ 0 then 0
  else
    let e : Int := (Nat.log2 x.toNat : Int) - 160
    let m := if 0 ≤ e then x.fdiv (2 ^ e.toNat) else x * 2 ^ (-e).toNat
    let z := fxDiv (m - fxOne) (m + fxOne)
    2 * atanhTerms (fxMul z z) 60 3 z z + e * fxLn2

/-- log10 x for x > 0. -/
def fxLog10 (x : Fx) : Fx := fxDiv (fxLn x) fxLn10

/-- 10^x. -/
def fxPow10 (x : Fx) : Fx := fxExp (fxMul x fxLn10)

/-- x^y for x > 0. -/
def fxPow (x y : Fx) : Fx := if x ≤ 0 then 0 else fxExp (fxMul y (fxLn x))

/-- Alternating Taylor terms of sine and cosine. -/
def trigTerms (x2 : Fx) : Nat → Nat → Fx → Fx → Fx
  | 0, _, _, acc => acc
  | f + 1, k, t, acc =>
    let t' := -((fxMul t x2).fdiv (k * (k + 1) : Nat))
    if t' = 0 then acc else trigTerms x2 f (k + 2) t' (acc + t')

/-- Sine and cosine of an angle in radians, reduced to (−π, π]. -/
def fxReduce (x : Fx) : Fx := x - ((x + fxPi).fdiv (2 * fxPi)) * (2 * fxPi)
def fxSin (x : Fx) : Fx := let r := fxReduce x; trigTerms (fxMul r r) 80 2 r r
def fxCos (x : Fx) : Fx := let r := fxReduce x; trigTerms (fxMul r r) 80 1 fxOne fxOne

/-- sin and cos of π × n / d, exact at the multiples of π/2. -/
def sinPi (n : Int) (d : Nat) : Fx :=
  let m := n % (2 * d : Nat)
  if m = 0 ∨ m = d then 0 else if 2 * m = d then fxOne else if 2 * m = 3 * d then -fxOne
  else fxSin ((fxPi * m).fdiv d)
def cosPi (n : Int) (d : Nat) : Fx := sinPi (2 * n + d) (2 * d)

/-- Round to `frac` fractional bits, half to even (R20, R129). -/
def roundFx (x : Fx) (frac : Nat) : Int :=
  let u : Int := 2 ^ (160 - frac)
  let q := x.fdiv u
  let r := x - q * u
  let d := 2 * r - u
  if -(2 ^ 51) ≤ d ∧ d ≤ 2 ^ 51 then (if q % 2 = 0 then q else q + 1) else if d < 0 then q else q + 1

/-- 10^(n / d) narrowed to `frac` fractional bits. -/
def pow10Round (n : Int) (d frac : Nat) : Int := if n = 0 then 2 ^ frac else roundFx (fxPow10 (fxRat n d)) frac

/-- Square root of a rational n / d narrowed to `frac` fractional bits, formed exactly. -/
def sqrtRound (n d frac : Nat) : Int :=
  -- The root of n / d × 2^(2 frac + 2), halved and rounded with the sticky remainder.
  let v := n * 2 ^ (2 * frac + 2) / d
  let r := isqrt v
  let exact := decide (r * r * d = n * 2 ^ (2 * frac + 2))
  let q := r / 2
  if r % 2 = 0 then q else if exact then (if q % 2 = 0 then q else q + 1 : Nat) else (q + 1 : Nat)

/-- Saturation of a narrowed value to an unsigned or signed range. -/
def satU (bits : Nat) (x : Int) : Int := clampInt 0 (2 ^ bits - 1) x
def satS (bits : Nat) (x : Int) : Int := clampInt (-(2 ^ (bits - 1))) (2 ^ (bits - 1) - 1) x

/-- The effective value of a calibrated quantity: FCAL + UCAL, exact and limited (R269). -/
def effective (fcal ucal : Word) (limit : Int) : Int := clampInt (-limit) limit (fcal.toInt + ucal.toInt)

end Sys2Proof.Machine
end

