-- ==== Sys2Proof/Machine/Flags.lean ====
section
/-! DEFINITION. The event controller: which sources exist and of which kind (R12, R492), assertion and pending bits
(R493, R494), vectors, their coalescing and their messages (R496 to R503). Every unit raises its events through
`State.event` and moves its level sources through `State.level`. -/

namespace Sys2Proof.Machine

/-- Sources that the tables of R492, R125, R288, R371, R415, R435 and R482 mark reserved: they never assert. -/
def sourceReserved (n : Nat) : Bool :=
  n == 15 || (decide (27 ≤ n) && decide (n ≤ 31)) || (decide (38 ≤ n) && decide (n ≤ 47)) ||
  (decide (58 ≤ n) && decide (n ≤ 63)) || (decide (73 ≤ n) && decide (n ≤ 79)) ||
  (decide (92 ≤ n) && decide (n ≤ 95)) || (decide (150 ≤ n) && decide (n ≤ 159)) ||
  (decide (172 ≤ n) && decide (n ≤ 175)) || n == 190 || n == 191 ||
  (decide (199 ≤ n) && decide (n ≤ 207)) || (decide (215 ≤ n) && decide (n ≤ 223)) || decide (256 ≤ n)

/-- Sources that belong to an absent unit never assert (R12). -/
def Part.hasSource (p : Part) (n : Nat) : Bool :=
  if 64 ≤ n ∧ n ≤ 79 then p.hasStore
  else if 128 ≤ n ∧ n ≤ 143 then decide (n - 128 < p.measInputs)
  else if 144 ≤ n ∧ n ≤ 159 then p.hasGauge
  else if 160 ≤ n ∧ n ≤ 175 then decide (0 < p.casPorts)
  else if 176 ≤ n ∧ n ≤ 191 then p.hasHedge
  else true

/-- The level sources of R492 and R531; every other source is an edge source. -/
def sourceIsLevel (n : Nat) : Bool :=
  n == 0 || n == 2 || n == 4 || n == 5 || n == 51 || (decide (96 ≤ n) && decide (n ≤ 143)) || n == 182

namespace State

def sourceExists (s : State) (n : Nat) : Bool := !sourceReserved n && s.dev.part.hasSource n

/-- Fields of a vector's STATUS register (R509). -/
def raised (s : State) (k : Nat) : Bool := s.bitOf (Reg.VEC_STATUS k) 0
def wakeWait (s : State) (k : Nat) : Bool := s.bitOf (Reg.VEC_STATUS k) 1
def countNow (s : State) (k : Nat) : Nat := s.rf (Reg.VEC_STATUS k) 26 16
def vecTimer (s : State) (k : Nat) : Option Nat := (s.evt.timers[k]?).getD none
def setTimer (s : State) (k : Nat) (t : Option Nat) : State :=
  { s with evt := { s.evt with timers := s.evt.timers.set k t } }

def sourceEnabled (s : State) (n : Nat) : Bool := s.bitOf (Reg.EVT_ENABLE (n / 32)) (n % 32)
def sourcePending (s : State) (n : Nat) : Bool := s.bitOf (Reg.EVT_PENDING (n / 32)) (n % 32)
def sourceLive (s : State) (n : Nat) : Bool := s.bitOf (Reg.EVT_LIVE (n / 32)) (n % 32)

/-- Start a vector's timer if it is stopped (R497). -/
def startTimer (s : State) (k : Nat) : State := if (s.vecTimer k).isSome then s else s.setTimer k (some 0)

/-- An assertion of source `n` counts towards its vector while EVT.CTRL.ENABLE and the source's ENABLE are set
(R496); COUNT_NOW saturates at 1,024 and the timer starts at the first one counted (R497). -/
def countAssertion (s : State) (n : Nat) : State :=
  if s.bitOf Reg.EVT_CTRL 0 && s.sourceEnabled n then
    (s.wf (Reg.VEC_STATUS (n / 32)) 26 16 (min (s.countNow (n / 32) + 1) 1024)).startTimer (n / 32)
  else s

/-- One assertion of an edge source (R493): the pending bit latches, or the assertion merges. -/
def event (s : State) (n : Nat) : State :=
  if s.sourceExists n then
    let t := if s.sourcePending n then s.count Reg.EVT_MERGED else s.setBit (Reg.EVT_PENDING (n / 32)) (n % 32)
    t.countAssertion n
  else s

/-- `k` occurrences of an edge source. -/
def eventTimes (s : State) (n : Nat) : Nat → State
  | 0 => s
  | k + 1 => (s.event n).eventTimes n k

/-- The assertion of a level source: its pending bit latches and the assertion counts (R494). -/
def levelAssert (s : State) (n : Nat) : State :=
  if s.sourceExists n then (s.setBit (Reg.EVT_PENDING (n / 32)) (n % 32)).countAssertion n else s

/-- Move a level source to `live`; a rise is an assertion (R494). -/
def level (s : State) (n : Nat) (live : Bool) : State :=
  if s.sourceExists n then
    let t := if live && !s.sourceLive n then s.levelAssert n else s
    t.putBit (Reg.EVT_LIVE (n / 32)) (n % 32) live
  else s

/-- Write-1-to-clear of PENDING word `w` with mask `v`: a level source still live latches again at once, which is a
new assertion (R494). -/
def clearPending (s : State) (w : Nat) (v : Word) : State :=
  let t := s.wr (Reg.EVT_PENDING w) (s.rd (Reg.EVT_PENDING w) &&& ~~~v)
  t.over (List.range 32) fun u b =>
    if bitAt v b && u.sourceLive (32 * w + b) then u.levelAssert (32 * w + b) else u

/-- PCIe link and device power state (R511). -/
def linkPm (s : State) : Nat := s.rf Reg.HOST_STATUS 10 9
def inD3 (s : State) : Bool := s.bitOf Reg.HOST_STATUS 11

/-- The MSI-X message of entry `k` leaves. -/
def sendVector (s : State) (k : Nat) : State :=
  s.emit (.msix k (s.rd (0x270000 + 16 * k)) (s.rd (0x270004 + 16 * k)) (s.rd (0x270008 + 16 * k)))

/-- Vector `k` or the whole function is masked (R501). -/
def vectorMasked (s : State) (k : Nat) : Bool := s.evt.functionMask || s.bitOf (Reg.MSIX_VCTRL k) 0

/-- The message of a raise, subject to R501 and R502: nothing with MSI-X disabled, held in the PBA while masked, held
for a wake with the link in L1 or L1.2, and turned into a PME in D3hot. -/
def deliverVector (s : State) (k : Nat) : State :=
  if s.inD3 then
    ({ s with evt := { s.evt with d3Held := s.evt.d3Held.set k true, pmeStatus := true } }.emit .pme).count Reg.EVT_PME_COUNT
  else if !s.evt.msixEnable then s
  else if s.vectorMasked k then s.setBit 0x270800 k
  else if s.linkPm = 1 ∨ s.linkPm = 2 then (s.setBit (Reg.VEC_STATUS k) 1).count Reg.EVT_LATE_DELIVERY
  else s.sendVector k

/-- A raise of vector `k` (R496). -/
def raiseVector (s : State) (k : Nat) : State :=
  (((s.wf (Reg.VEC_STATUS k) 26 16 0).setBit (Reg.VEC_STATUS k) 0).setTimer k none).count (Reg.VEC_RAISES k)
    |>.deliverVector k

/-- The coalescing condition of vector `k` (R497): the count, or the running timer. One µs is 3,145.728 root counts. -/
def coalesced (s : State) (k : Nat) : Bool :=
  decide (s.rf (Reg.VEC_CFG k) 10 0 ≤ s.countNow k) ||
  match s.vecTimer k with
  | some t => decide (s.rf (Reg.VEC_CFG k) 29 16 * 3145728 ≤ t * 1000)
  | none => false

/-- Raise vector `k` if its condition is met and it is not awaiting an acknowledgement (R496, R498). -/
def raiseIfMet (s : State) (k : Nat) : State := if s.coalesced k && !s.raised k then s.raiseVector k else s

/-- Every vector whose condition is met is raised, in ascending order (R499). -/
def raiseAllMet (s : State) : State := s.over (List.range 8) raiseIfMet

/-- An enabled source of vector `k`'s group is pending. -/
def groupPending (s : State) (k : Nat) : Bool := (s.rd (Reg.EVT_PENDING k) &&& s.rd (Reg.EVT_ENABLE k)) != 0

/-- The acknowledgement of vector `k` (R498). -/
def ackVector (s : State) (k : Nat) : State :=
  let t := s.clrBit (Reg.VEC_STATUS k) 0
  let t := if t.countNow k = 0 ∧ t.groupPending k then (t.wf (Reg.VEC_STATUS k) 26 16 1).startTimer k else t
  t.raiseIfMet k

/-- EVT.FLUSH (R503). -/
def flushVectors (s : State) : State :=
  s.over (List.range 8) fun t k => if !t.raised k && decide (0 < t.countNow k) then t.raiseVector k else t

/-- Let `c` root counts pass on the coalescing timers, and evaluate the conditions at both ends (R497). -/
def runVectorTimers (s : State) (c : Nat) : State :=
  let t := s.raiseAllMet
  { t with evt := { t.evt with timers := t.evt.timers.map (Option.map (· + c)) } }.raiseAllMet

/-- Local time passes on to root count `c` inside the present tick, never back. -/
def passTo (s : State) (c : Nat) : State :=
  if s.now < c then { s with now := c, uptime := s.uptime + (c - s.now) }.runVectorTimers (c - s.now) else s

/-- Messages held in the PBA leave once neither the vector nor the function is masked (R501). -/
def releaseMasked (s : State) : State :=
  s.over (List.range 8) fun t k =>
    if t.bitOf 0x270800 k && t.evt.msixEnable && !t.vectorMasked k then (t.clrBit 0x270800 k).deliverVector k else t

/-- Set sticky bit `b` of register `o`. -/
def sticky (s : State) (o b : Nat) : State := s.setBit o b

end State

end Sys2Proof.Machine
end

