-- ==== Sys2Proof/Machine/Net.lean ====
section
/-! DEFINITION. The Ethernet ports: links and training (R343, R344), reception and sorting (R346), transmit queues,
shaping and gates (R347 to R349), and PRP (R350 to R352). -/

namespace Sys2Proof.Machine

namespace State

def netPort (s : State) (n : Nat) : NetPort := (s.net.ports[n]?).getD {}
def setNetPort (s : State) (n : Nat) (p : NetPort) : State := { s with net := { s.net with ports := s.net.ports.set n p } }
def netLinkUp (s : State) (n : Nat) : Bool := s.bitOf (Reg.NET_STATUS n) 0
def netEnabled (s : State) (n : Nat) : Bool := s.bitOf (Reg.NET_CFG0 n) 2

/-- Raise a network event that R371 limits to once per block. -/
def eventOncePerBlock (s : State) (n : Nat) : State :=
  if s.net.raised.contains n then s else { s with net := { s.net with raised := n :: s.net.raised } }.event n

/-! ### Links and training -/

/-- The link goes down: counted when it was up (R372), with its event (R371). -/
def netDown (s : State) (n : Nat) : State :=
  if s.netLinkUp n then
    ((s.clrBit (Reg.NET_STATUS n) 0).count (Reg.NET_LINK_DOWNS n)).setBit (Reg.NET_STICKY n) 0 |>.event (80 + n)
  else s

/-- Retrain: the link goes down and training starts with normal polarity (R343, R344). -/
def netRetrain (s : State) (n : Nat) : State :=
  let s := (s.netDown n).clrBit (Reg.NET_STATUS n) 1
  s.setNetPort n { s.netPort n with training := true, invertedTry := false }

/-- The SerDes reference of the port's mode is present (R343, R513). -/
def netRefOk (s : State) (n : Nat) : Bool :=
  if s.rf (Reg.NET_CFG0 n) 1 0 = 0 then s.bitOf Reg.CLK_CLK_STATUS 1 else s.bitOf Reg.CLK_CLK_STATUS 2

/-- LINK_TRAINING_DONE (R344): the link comes up with the polarity of the present attempt, or goes down. PRP_EN takes
effect once both ports have trained. -/
def netTrainingDone (s : State) (n : Nat) (up : Bool) : State :=
  let p := s.netPort n
  if 2 ≤ n then s
  else if !up then (s.netDown n).setNetPort n { p with training := true, invertedTry := false }
  else if p.training && s.netEnabled n && s.netRefOk n then
    let s := s.setNetPort n { p with training := false }
    let s := ((s.setBit (Reg.NET_STATUS n) 0).putBit (Reg.NET_STATUS n) 1 p.invertedTry).event (80 + n)
    let s := if p.invertedTry then s.event 82 else s
    let trained := if s.net.prpTrained.contains n then s.net.prpTrained else n :: s.net.prpTrained
    let prp := if trained.length = 2 then s.bitOf Reg.NETC_CTRL 0 else s.net.prp
    { s with net := { s.net with prpTrained := trained, prp := prp } }
  else s

/-- POLARITY_RETRY: no lock within 1 ms inverts the receive lane for the next attempt (R344). -/
def netPolarityRetry (s : State) (n : Nat) : State :=
  let p := s.netPort n
  if p.training && decide (n < 2) then s.setNetPort n { p with invertedTry := !p.invertedTry } else s

/-! ### Transmit queues and gates -/

/-- Local time in 2^-16 ns for an instant in nanoseconds. -/
def netNs (ns : Nat) : Nat := ns * 65536

/-- Bytes of a frame on the wire between preamble and FCS: Ethernet, tag, IP, UDP, payload, PRP trailer, FCS. -/
def frameBytes (f : TxFrame) : Nat :=
  let ip := if f.datagram.dst / 2 ^ 32 = 0xFFFF then 20 else 40
  14 + (if f.tag.isSome then 4 else 0) + ip + 8 + f.datagram.payload.length + (if f.prpSeq.isSome then 6 else 0) + 4

/-- Port rate in 0.1 Mb/s (R343). -/
def portRate (s : State) (n : Nat) : Nat :=
  match s.rf (Reg.NET_CFG0 n) 1 0 with | 0 => 250000 | 1 => 100000 | _ => 10000

/-- Time a frame takes on the wire, with preamble and gap of 20 bytes, in 2^-16 ns. -/
def wireTime (s : State) (n : Nat) (f : TxFrame) : Nat := (frameBytes f + 20) * 8 * 65536 * 10000 / s.portRate n

/-- How long gate `q` stays open from the present entry on, within one cycle; none when it never closes (R348). -/
def gateOpenFor (g : GateList) (q now : Nat) : Option Nat :=
  if g.entries.all fun e => natField e.1 q q == 1 then none
  else
    let rest := (g.entries.drop (g.index + 1)).takeWhile fun e => natField e.1 q q == 1
    some (g.entryEnd + rest.foldl (fun a e => a + netNs e.2) 0 - now)

/-- Gate `q` of port `n` is open for at least `t`; with GCL_CTRL.EN = 0 or no list every gate is open (R348, R349). -/
def gateAllows (s : State) (n q t : Nat) : Bool :=
  if !s.bitOf (Reg.NET_GCL_CTRL n) 0 then true
  else match (s.netPort n).gcl with
    | none => true
    | some g =>
      natField (g.entries.getD g.index (255, 0)).1 q q == 1 &&
      match gateOpenFor g q s.nowUnits with | none => true | some d => decide (t ≤ d)

/-- Idle slope of queue `q` in 0.1 Mb/s; 0 leaves the queue unshaped (R347). -/
def idleSlope (s : State) (n q : Nat) : Nat := if q < 4 then 0 else s.rf (Reg.NET_CBS n (q - 4)) 23 0

/-- Bring the credit of the shaped classes up to now: it grows at the idle slope while the gate is open and frames
wait or the credit is negative, and a positive credit without waiting frames is lost (R347, R349). -/
def bringCredit (s : State) (n : Nat) : State :=
  let p := s.netPort n
  let dt : Int := s.now - p.creditAt
  let dt := max dt 0
  let credit := (List.range 4).map fun c =>
    let x := p.credit.getD c 0
    let waiting := !(p.queues.getD (4 + c) []).isEmpty
    let grown := if s.gateAllows n (4 + c) 0 then x + s.idleSlope n (4 + c) * 100000 * dt else x
    if waiting then grown else min 0 grown
  s.setNetPort n { p with credit := credit, creditAt := s.now }

/-- A frame enters queue `q` of port `n`; a full queue drops it (R347). The depth is the implementation's. -/
def enqueueTx (s : State) (n q : Nat) (f : TxFrame) : State :=
  let s := s.bringCredit n
  let p := s.netPort n
  let l := p.queues.getD q []
  if l.length < Config.txQueueDepth then s.setNetPort n { p with queues := p.queues.set q (l ++ [f]) }
  else ((s.count (Reg.NET_TX_DROPS n)).setBit (Reg.NET_STICKY n) 1).event 89

/-- The queue of a frame: TC_MAP of its PCP, or queue 0 untagged (R347). -/
def txQueueOf (s : State) (n : Nat) (f : TxFrame) : Nat :=
  match f.tag with
  | some t => s.rf (Reg.NET_TC_MAP n) (3 * t.2 + 2) (3 * t.2)
  | none => 0

/-- Send a frame: on the ports named, or under PRP on both with one sequence number by destination (R350). -/
def sendFrame (s : State) (ports : List Nat) (f : TxFrame) : State :=
  if s.net.prp then
    let k := ((Assoc.get? f.datagram.dst s.net.prpSend).getD 0 + 1) % 65536
    let s := { s with net := { s.net with prpSend := Assoc.put f.datagram.dst k s.net.prpSend } }
    let f := { f with prpSeq := some k }
    s.over [0, 1] fun t n => t.enqueueTx n (t.txQueueOf n f) f
  else s.over ports fun t n => t.enqueueTx n (t.txQueueOf n f) f

/-- A datagram of the device's own traffic, with the port's VLAN when VLAN_EN is set (R372). -/
def sendOwn (s : State) (port : Nat) (d : Datagram) : State :=
  let tag := if s.bitOf (Reg.NET_CFG0 port) 28 then some (s.rf (Reg.NET_CFG0 port) 27 16, 0) else none
  s.sendFrame [port] { datagram := d, tag := tag }

/-- The device's IPv4 address in mapped form, and its IPv6 address, on port `n`; under PRP those of NET[0] (R345). -/
def ip4Of (s : State) (n : Nat) : Nat := 0xFFFF * 2 ^ 32 + (s.rd (Reg.NET_IP4 (if s.net.prp then 0 else n))).toNat
def ip6Of (s : State) (n : Nat) : Nat :=
  (List.range 4).foldl (fun a k => a * 2 ^ 32 + (s.rd (Reg.NET_IP6 (if s.net.prp then 0 else n) k)).toNat) 0
def macOf (s : State) (n : Nat) : Nat := s.rd64 (Reg.NET_MAC_LO (if s.net.prp then 0 else n)) % 2 ^ 48

/-- A control packet of a time action, with the QoS of NETC.CTL_QOS (R364). `dst` is 16 address bytes. -/
def sendControl (s : State) (port : Nat) (dst : List Nat) (sport dport : Nat) (udp : List Nat) : State :=
  let q := s.rd Reg.NETC_CTL_QOS
  let addr := dst.foldl (fun a b => a * 256 + b) 0
  let src := if addr / 2 ^ 32 = 0xFFFF then s.ip4Of port else s.ip6Of port
  let tag := if bitAt q 12 then some (fld q 11 0, fld q 15 13) else none
  s.sendFrame [port] { datagram := ⟨src, addr, sport, dport, udp.map (BitVec.ofNat 8)⟩, dscp := fld q 21 16, tag := tag }

/-- Frames at the head of a queue whose gate is closed count once in GATE_HELD (R349). -/
def markHeld (s : State) (n : Nat) : State :=
  s.over (List.range 8) fun t q =>
    let p := t.netPort n
    match p.queues.getD q [] with
    | f :: r =>
      if !f.held && !t.gateAllows n q (t.wireTime n f) then
        (t.setNetPort n { p with queues := p.queues.set q ({ f with held := true } :: r) }).count (Reg.NET_GATE_HELD n)
      else t
    | [] => t

/-- A queue may start its head frame: credit not negative if shaped, and the last bit leaves before its gate closes. -/
def queueReady (s : State) (n q : Nat) : Bool :=
  let p := s.netPort n
  match p.queues.getD q [] with
  | f :: _ => s.gateAllows n q (s.wireTime n f) && (s.idleSlope n q == 0 || decide (0 ≤ p.credit.getD (q - 4) 0))
  | [] => false

/-- TX_FRAME_DEPART (R347, R349): the highest ready queue of port `n` sends its head frame. -/
def txDepart (s : State) (n : Nat) : State :=
  if decide (n < 2) && s.netLinkUp n then
    let s := (s.bringCredit n).markHeld n
    match [7, 6, 5, 4, 3, 2, 1, 0].find? (s.queueReady n) with
    | none => s
    | some q =>
      let p := s.netPort n
      match p.queues.getD q [] with
      | [] => s
      | f :: r =>
        let bits : Int := (frameBytes f + 20) * 8
        let slope : Int := s.idleSlope n q
        -- Sending costs bits at the send slope, which is the idle slope minus the port rate.
        let cost := if slope = 0 then 0 else divEven (bits * 3145728000 * (s.portRate n - slope)) (s.portRate n)
        let credit := if slope = 0 then p.credit else p.credit.set (q - 4) (p.credit.getD (q - 4) 0 - cost)
        let s := s.setNetPort n { p with queues := p.queues.set q r, credit := credit }
        let s := (s.emit (.frame n f)).count (Reg.NET_TX_FRAMES n)
        match f.stream with
        | some i => if f.lateAfter < s.now then s.count (Reg.TXS_LATE_DEPART i) else s
        | none => s
  else s

/-! ### Gate control lists: R348 -/

/-- The admin list: its entries up to LEN. -/
def adminEntries (s : State) (n : Nat) : List (Nat × Nat) :=
  (List.range (min (s.rf (Reg.NET_GCL_CTRL n) 14 8) 64)).map fun k =>
    (s.rf (Reg.NET_GCL_ADMIN n k) 7 0, s.rf (Reg.NET_GCL_ADMIN n k) 31 8)

def gclBase (s : State) (n : Nat) : Nat :=
  netNs (s.rd64 (Reg.NET_GCL_BASE_S_LO n) * 1000000000 + (s.rd (Reg.NET_GCL_BASE_NS n)).toNat)

/-- The first cycle start at or after an instant. -/
def cycleAtOrAfter (base cycle t : Nat) : Nat :=
  if t ≤ base ∨ cycle = 0 then max base (if cycle = 0 then t else base) else base + (t - base + cycle - 1) / cycle * cycle

/-- CMD.GCL_APPLY (R348): the admin list becomes operational at a cycle start. -/
def gclApply (s : State) (n : Nat) : State :=
  let start := cycleAtOrAfter (s.gclBase n) (netNs (s.rd (Reg.NET_GCL_CYCLE n)).toNat) s.nowUnits
  (s.setBit (Reg.NET_STATUS n) 2).setNetPort n { s.netPort n with gclStart := some start }

/-- The end of entry `i` of a list that started its cycle at `start`: the last entry runs to the cycle end, and a
list longer than the cycle is cut there. -/
def entryEndOf (entries : List (Nat × Nat)) (cycle start i : Nat) : Nat :=
  if entries.length ≤ i + 1 then start + cycle
  else min (start + cycle) (start + (entries.take (i + 1)).foldl (fun a e => a + netNs e.2) 0)

/-- An instant in 2^-16 ns is reached before the next sample tick. -/
def unitsDue (s : State) (u : Nat) : Bool := decide (u * 3 < (s.tick + 1) * 32768 * 62500)

/-- Local time moves on to an instant, never back. -/
def advanceTo (s : State) (u : Nat) : State := s.passTo (divEven ((u : Int) * 3) 62500).toNat

/-- GCL_ACTIVATE (R348). -/
def gclActivate (s : State) (n : Nat) : State :=
  match (s.netPort n).gclStart with
  | some start =>
    if s.unitsDue start then
      let s := s.advanceTo start
      let es := s.adminEntries n
      let cycle := netNs (s.rd (Reg.NET_GCL_CYCLE n)).toNat
      let s := (s.bringCredit n).setNetPort n { (s.bringCredit n).netPort n with
        gclStart := none,
        gcl := if es.isEmpty then none else some ⟨cycle, s.gclBase n, es, start, 0, entryEndOf es cycle start 0⟩ }
      let s := s.over (List.range 64) fun t k => t.wr (Reg.NET_GCL_OPER n k) (t.rd (Reg.NET_GCL_ADMIN n k))
      (s.clrBit (Reg.NET_STATUS n) 2).event 90
    else s
  | none => s

/-- GATE_INTERVAL_END (R348): the next entry's gates take force, or the next cycle starts. -/
def gateIntervalEnd (s : State) (n : Nat) : State :=
  match (s.netPort n).gcl with
  | some g =>
    if s.unitsDue g.entryEnd && decide (0 < g.cycle) then
      let s := (s.advanceTo g.entryEnd).bringCredit n
      let g := if g.cycleStart + g.cycle ≤ g.entryEnd then
          { g with cycleStart := g.cycleStart + g.cycle, index := 0,
                   entryEnd := entryEndOf g.entries g.cycle (g.cycleStart + g.cycle) 0 }
        else { g with index := g.index + 1, entryEnd := entryEndOf g.entries g.cycle g.cycleStart (g.index + 1) }
      s.setNetPort n { s.netPort n with gcl := some g }
    else s
  | none => s

/-- The entry in force at distance `d` into a cycle. -/
def entryAt : List (Nat × Nat) → Nat → Nat → Nat
  | [], _, i => i - 1
  | e :: r, d, i => if d < netNs e.2 then i else entryAt r (d - netNs e.2) (i + 1)

/-- Gate control lists follow the new local time (R348, R545). -/
def gclRealign (s : State) : State :=
  s.over [0, 1] fun t n =>
    match (t.netPort n).gcl with
    | some g =>
      if g.cycle = 0 then t
      else
        let now := t.nowUnits
        let start := if now < g.base then g.base else g.base + (now - g.base) / g.cycle * g.cycle
        let i := min (entryAt g.entries (now - start) 0) (g.entries.length - 1)
        t.setNetPort n { t.netPort n with gcl := some { g with cycleStart := start, index := i, entryEnd := entryEndOf g.entries g.cycle start i } }
    | none => t

/-! ### Reception -/

/-- What a received frame shows: MACs, VID, EtherType, the offset of its payload, and its datagram when it is UDP. -/
structure FrameInfo where
  dst : Nat
  src : Nat
  vid : Option Nat
  ethertype : Nat
  datagram : Option Datagram

/-- Parse the UDP datagram of an IPv4 or IPv6 packet at offset `o`. -/
def parseUdp (b : List Byte) (et o : Nat) : Option Datagram :=
  if et = 0x0800 ∧ byteAt b o / 16 = 4 ∧ byteAt b (o + 9) = 17 ∧ beNat b (o + 6) 2 % 0x4000 = 0 then
    let u := o + byteAt b o % 16 * 4
    some { src := 0xFFFF * 2 ^ 32 + beNat b (o + 12) 4, dst := 0xFFFF * 2 ^ 32 + beNat b (o + 16) 4,
           sport := beNat b u 2, dport := beNat b (u + 2) 2, payload := (b.drop (u + 8)).take (beNat b (u + 4) 2 - 8) }
  else if et = 0x86DD ∧ byteAt b o / 16 = 6 ∧ byteAt b (o + 6) = 17 then
    let u := o + 40
    some { src := beNat b (o + 8) 16, dst := beNat b (o + 24) 16,
           sport := beNat b u 2, dport := beNat b (u + 2) 2, payload := (b.drop (u + 8)).take (beNat b (u + 4) 2 - 8) }
  else none

def parseFrame (b : List Byte) : FrameInfo :=
  let et := beNat b 12 2
  let tagged := et == 0x8100
  let et' := if tagged then beNat b 16 2 else et
  { dst := beNat b 0 6, src := beNat b 6 6, vid := if tagged then some (beNat b 14 2 % 4096) else none,
    ethertype := et', datagram := parseUdp b et' (if tagged then 18 else 14) }

/-- The PRP trailer of a frame: sequence number and LAN identifier (R350). -/
def prpTrailer (b : List Byte) : Option (Nat × Nat) :=
  let t := b.drop (b.length - 6)
  if decide (20 ≤ b.length) && beNat t 4 2 == 0x88FB && (byteAt t 2 / 16 == 0xA || byteAt t 2 / 16 == 0xB) then
    some (beNat t 0 2, byteAt t 2 / 16)
  else none

/-- Keep PRP_NODES and PRP_TABLE_FULL current (R352, R373). -/
def setNodes (s : State) (l : List PrpNode) : State :=
  let s := { s with net := { s.net with nodes := l } }
  let full := decide (256 ≤ l.length)
  let rose := full && !s.bitOf Reg.NETC_STATUS 9
  let s := (s.wf Reg.NETC_STATUS 8 0 l.length).putBit Reg.NETC_STATUS 9 full
  if rose then s.event 86 else s

/-- R351: accept or discard one PRP frame. -/
def prpAccept (s : State) (n : Nat) (b : List Byte) : State × Bool :=
  match prpTrailer b with
  | none => (s.count Reg.NETC_PRP_NO_RCT, true)
  | some (q, lan) =>
    let s := if lan ≠ 0xA + n then (s.count Reg.NETC_PRP_WRONG_LAN).event 86 else s
    let mac := beNat b 6 6
    match s.net.nodes.find? fun e => e.mac == mac with
    | none =>
      if s.net.nodes.length < 256 then (s.setNodes (s.net.nodes ++ [⟨mac, q, 1, s.uptime⟩]), true)
      else (s.count Reg.NETC_PRP_UNTRACKED, true)
    | some e =>
      let d := (q + 65536 - e.highest) % 65536
      let back := (e.highest + 65536 - q) % 65536
      let put (e' : PrpNode) : List PrpNode := s.net.nodes.map fun x => if x.mac = mac then e' else x
      if 1 ≤ d ∧ d ≤ 32767 then
        ({ s with net := { s.net with nodes := put { e with highest := q, seen := (e.seen * 2 ^ d + 1) % 2 ^ 64, heard := s.uptime } } }, true)
      else if back < 64 ∧ natField e.seen back back = 0 then
        ({ s with net := { s.net with nodes := put { e with seen := e.seen + 2 ^ back, heard := s.uptime } } }, true)
      else
        ({ s with net := { s.net with nodes := put { e with heard := s.uptime } } }.count Reg.NETC_PRP_DUP_DISCARD, false)

/-- PRP_FORGET (R352): entries without frames for FORGET_TIME are removed. -/
def prpForget (s : State) : State :=
  s.setNodes (s.net.nodes.filter fun e => decide (s.uptime - e.heard < s.rf Reg.NETC_PRP_CFG 15 0 * countsPerSecond))

/-- CMD.PRP_FLUSH (R352). -/
def prpFlush (s : State) : State := s.setNodes []

/-- Receive-stream fields (R374). -/
def rxsEnabled (s : State) (i : Nat) : Bool := s.bitOf (Reg.RXS_CTRL i) 0
def addrWords (s : State) (o : Nat) : Nat := (List.range 4).foldl (fun a k => a * 2 ^ 32 + (s.rd (o + 4 * k)).toNat) 0

/-- The number under which a stream of a replaced version goes on beside its successor: its registers are kept past BAR0 (R303,
R307). -/
def oldStream (i : Nat) : Nat := 0x100000 + i

/-- The receive streams: the 128 blocks, and the streams of versions that leave. -/
def rxSlots (s : State) : List Nat := List.range 128 ++ (s.net.rx.map (·.1)).filter fun i => decide (0x100000 ≤ i)

/-- An enabled receive stream takes datagram `d` from port `n` (R346 row 6; PORT is ignored under PRP). -/
def rxsMatches (s : State) (n i : Nat) (d : Datagram) : Bool :=
  s.rxsEnabled i && s.addrWords (Reg.RXS_ADDR i 0) == d.dst && s.rf (Reg.RXS_UDP_PORT i) 15 0 == d.dport &&
  (!s.bitOf (Reg.RXS_CTRL i) 3 || s.addrWords (Reg.RXS_SRC i 0) == d.src) &&
  (s.net.prp || s.rf (Reg.RXS_CTRL i) 2 1 == n || s.rf (Reg.RXS_CTRL i) 2 1 == 2)

/-- Groups of NETC.GROUP enabled on port `n`. -/
def groupsOn (s : State) (n : Nat) : List Nat :=
  ((List.range 16).filter fun g => s.bitOf (Reg.NETC_GROUP_CTRL g) 0 && s.bitOf (Reg.NETC_GROUP_CTRL g) (1 + n)).map
    fun g => s.addrWords (Reg.NETC_GROUP g)

/-- The address is one of the device's or an enabled group (R346 rows 3 to 5). -/
def addressedTo (s : State) (n a : Nat) : Bool :=
  a == s.ip4Of n || a == s.ip6Of n || (s.groupsOn n).contains a

/-- The multicast MAC of a group address. -/
def groupMac (a : Nat) : Nat := if a / 2 ^ 32 = 0xFFFF then 0x01005E000000 + a % 2 ^ 23 else 0x333300000000 + a % 2 ^ 32

/-- A MAC the firmware's row takes: the port's own, broadcast, or that of a joined group (R345, R346). -/
def macJoined (s : State) (n mac : Nat) : Bool :=
  mac == s.macOf n || mac == 2 ^ 48 - 1 || (s.groupsOn n).any (fun a => groupMac a == mac) ||
  s.rxSlots.any fun i => s.rxsEnabled i && groupMac (s.addrWords (Reg.RXS_ADDR i 0)) == mac

/-- R346: the destination of an accepted frame. -/
def sortFrame (s : State) (n : Nat) (f : FrameInfo) : RxDest :=
  let fw : RxDest :=
    if s.macJoined n f.dst then (if (s.netPort n).fwQueue.length < 256 then .firmware else .fwOverflow) else .dropped
  if f.ethertype = 0x88F7 then .ptp
  else match f.datagram with
    | none => fw
    | some d =>
      if d.dport = 319 ∨ d.dport = 320 then .ptp
      else if d.dport = 49350 ∧ s.addressedTo n d.dst ∧ s.bitOf Reg.NETC_CTRL 1 then .tunnel
      else if d.dport = 49351 ∧ s.addressedTo n d.dst ∧ s.bitOf Reg.OMD_CTRL 0 then .metadata
      else if d.dport = 49352 ∧ s.addressedTo n d.dst then .hedge
      else match s.rxSlots.find? fun i => s.rxsMatches n i d with
        | some i => .stream (i % 0x100000)
        | none => fw

/-- NET_FRAME_RECEIVE (R346): a frame without its FCS arrives on port `n`. -/
def netReceive (s : State) (n : Nat) (b : List Byte) (fcsOk : Bool) : State :=
  if !(decide (n < 2) && s.netLinkUp n) then s
  else if !fcsOk then s.count (Reg.NET_RX_ERRORS n)
  else
    let s := s.count (Reg.NET_RX_FRAMES n)
    let f := parseFrame b
    let limit := if s.bitOf (Reg.NET_CFG0 n) 4 then 9216 else 1522
    let vidOk := match f.vid with | none => true | some v => v == 0 || v == s.rf (Reg.NET_CFG0 n) 27 16
    let note (t : State) (d : RxDest) : State := { t with net := { t.net with lastDest := some d } }
    if decide (limit < b.length + 4) || !vidOk then note s .dropped
    else
      let r := if s.net.prp then s.prpAccept n b else (s, true)
      let s := r.1
      if !r.2 then note s .duplicate
      else
        let d := s.sortFrame n f
        let s := note s d
        match d with
        | .firmware => s.setNetPort n { s.netPort n with fwQueue := (s.netPort n).fwQueue ++ [b] }
        | .fwOverflow => (s.count (Reg.NET_RX_DROPS n)).event 91
        | _ => s

/-- PRP_SUPERVISION (R350): the firmware sends a supervision frame; its contents are those of IEC 62439-3. -/
def prpSupervision (s : State) : State :=
  if s.net.prp && s.rf Reg.HOST_STATUS 1 0 == 2 then s.emit .prpSupervision else s

def netCounters (n : Nat) : List Nat :=
  [Reg.NET_RX_FRAMES n, Reg.NET_RX_ERRORS n, Reg.NET_RX_DROPS n, Reg.NET_TX_FRAMES n, Reg.NET_TX_DROPS n,
   Reg.NET_GATE_HELD n, Reg.NET_LINK_DOWNS n]

def netcCounters : List Nat := (List.range 11).map fun k => 0x240018 + 4 * k

end State

end Sys2Proof.Machine
end

