-- ==== Sys2Proof/Machine/Skein.lean ====
section
/-! DEFINITION. Skein: the page pool and its clients (R157 to R164), history channels (R165 to R168), the pager's window
(R169 to R171), shortage and denial (R172), and the SKEIN registers (R176, R177). -/

namespace Sys2Proof.Machine

/-- Sample `i` of a history channel: older than the commit it reads as zero (R167). -/
def HistChannel.sample (c : HistChannel) (i : Int) : Int :=
  if c.top < i ∨ i < c.start then 0 else c.hist.getD (c.top - i).toNat 0

namespace State

/-- Free pages, all tiers (SKEIN.FREE). -/
def skeinFree (s : State) : Nat := s.rf Reg.SKEIN_FREE 15 0

/-- Change FREE, and keep its minimum. -/
def setFree (s : State) (n : Nat) : State :=
  let s := s.wf Reg.SKEIN_FREE 15 0 n
  if n < s.rf Reg.SKEIN_FREE_MIN 15 0 then s.wf Reg.SKEIN_FREE_MIN 15 0 n else s

/-- Change the pages a client holds, and keep its peak (R176). -/
def setHeld (s : State) (c n : Nat) : State := (s.wf (Reg.SKEIN_HELD c) 15 0 n).maxReg (Reg.SKEIN_PEAK c) n
def held (s : State) (c : Nat) : Nat := s.rf (Reg.SKEIN_HELD c) 15 0

/-- A COND page (client 2): held outside any region (R161). -/
def takeCondPage (s : State) : State :=
  ((s.setFree (s.skeinFree - 1)).setHeld 2 (s.held 2 + 1)).wf Reg.SKEIN_OUTSIDE 15 0 (s.rf Reg.SKEIN_OUTSIDE 15 0 + 1)
def giveCondPage (s : State) : State :=
  ((s.setFree (s.skeinFree + 1)).setHeld 2 (s.held 2 - 1)).wf Reg.SKEIN_OUTSIDE 15 0 (s.rf Reg.SKEIN_OUTSIDE 15 0 - 1)

/-- Reserve or release the DEM_PAGES of a region (R160). -/
def reservePages (s : State) (n : Nat) : State :=
  (s.setFree (s.skeinFree - n)).wf Reg.SKEIN_RESERVED 15 0 (s.rf Reg.SKEIN_RESERVED 15 0 + n)
def unreservePages (s : State) (n : Nat) : State :=
  (s.setFree (s.skeinFree + n)).wf Reg.SKEIN_RESERVED 15 0 (s.rf Reg.SKEIN_RESERVED 15 0 - n)

/-- When a spare engages, 256 pages leave the spare reserve and the fenced tile's 256 leave the pool (R164). -/
def spareEngagesPages (s : State) : State :=
  let s := s.wf Reg.SKEIN_TOTAL 15 0 (s.rf Reg.SKEIN_TOTAL 15 0 - 256)
  let s := s.wf Reg.SKEIN_SPARE_RESERVE 15 0 (s.rf Reg.SKEIN_SPARE_RESERVE 15 0 - 256)
  s.wf Reg.SKEIN_OUTSIDE 15 0 (s.rf Reg.SKEIN_OUTSIDE 15 0 - 256)

/-! ### Borrowing: R162, R163 -/

def histCh (s : State) (k : Nat) : HistChannel := (Assoc.get? k s.skein.hist).getD {}
def setHist (s : State) (k : Nat) (c : HistChannel) : State := { s with skein := { s.skein with hist := Assoc.put k c s.skein.hist } }

/-- Pages that logical tile `t` holds, and those its TILE_MAP entry declares. -/
def tileHeld (s : State) (t : Nat) : Nat :=
  (s.skein.hist.filter fun e => e.2.tile == some t).foldl (fun a e => a + e.2.pages.length) 0
def tileDeclared (s : State) (t : Nat) : Nat := (Assoc.get? t s.skein.declared).getD 0

/-- Pages borrowed by the PAGER across the device. -/
def pagerBorrowed (s : State) : Nat := s.skein.declared.foldl (fun a e => a + (s.tileHeld e.1 - e.2)) 0

/-- Free pages that serve the PAGER: Tile and Central tiers, less the unused Needle tier (R157, R162). -/
def pagerFree (s : State) : Nat :=
  s.skeinFree - (s.rf Reg.SKEIN_NEEDLE_TIER 15 0 - min (s.held 1) (s.rf Reg.SKEIN_NEEDLE_TIER 15 0))

/-- Bring BORROWED, OUTSIDE, FREE, the PAGER's HELD, LOW_RET and REMOTE up to the pages held. -/
def accountPages (s : State) : State :=
  let old := s.rf Reg.SKEIN_BORROWED 15 0
  let new := s.pagerBorrowed
  let s := s.wf Reg.SKEIN_BORROWED 15 0 new
  let s := s.wf Reg.SKEIN_OUTSIDE 15 0 (s.rf Reg.SKEIN_OUTSIDE 15 0 + new - old)
  let s := s.setFree (s.skeinFree + old - new)
  let block := s.skein.hist.filter fun e => e.2.tile.isSome
  let s := s.setHeld 0 (block.foldl (fun a e => a + e.2.pages.length) 0)
  let s := s.setHeld 1 ((s.skein.hist.filter fun e => e.2.tile.isNone).foldl (fun a e => a + e.2.pages.length) 0)
  let s := s.wf Reg.SKEIN_LOW_RET 15 0 (s.skein.hist.foldl (fun a e => a + (e.2.pages.filter (·.lowRet)).length) 0)
  let s := s.wf Reg.SKEIN_REMOTE 15 0 (block.foldl (fun a e => a + (e.2.pages.filter (·.remote)).length) 0)
  s.putBit Reg.SKEIN_STATUS 2 (decide (new = s.rf Reg.SKEIN_PAGER_CFG 31 16))

/-! ### The window: R169 -/

/-- Page of a sample index, and the pages from index `lo` to `hi`. -/
def pagesFrom (lo hi : Int) : List Nat :=
  if hi < lo ∨ hi < 0 then [] else
    let a := (max lo 0).toNat / 1024
    (List.range (hi.toNat / 1024 + 1 - a)).map (a + ·)

/-- What R169 computes for a channel and a block: the oldest sample read, the tail pair, need and want. -/
structure PageWindow where
  lo : Int
  hi : Int
  tail : List Nat
  need : List Nat
  want : List Nat

def window (b lead : Nat) (span : Option (Nat × Nat)) : PageWindow :=
  let w : Int := 32 * b + 31
  let tail := pagesFrom (w - 1024) w
  match span with
  | none => ⟨w, w, tail, tail, tail⟩
  | some (dmin, dmax) =>
    let lo : Int := 32 * b - (dmax / 128 : Nat) - 7
    let hi : Int := 32 * b + 31 - (dmin / 128 : Nat)
    let need := (pagesFrom lo hi ++ tail).eraseDups
    ⟨lo, hi, tail, need, (need ++ pagesFrom (hi + 1) (min w (hi + 48 * lead))).eraseDups⟩

/-- One requested page: its index and channel key; ranked newest first, then lower object, then lower channel (R172). -/
def requestBefore (a b : Nat × Nat) : Bool := decide (b.1 < a.1) || (a.1 == b.1 && decide (a.2 ≤ b.2))

/-- Insertion sort by rank. -/
def insertRequest (x : Nat × Nat) : List (Nat × Nat) → List (Nat × Nat)
  | [] => [x]
  | y :: r => if requestBefore x y then x :: y :: r else y :: insertRequest x r

def lead (s : State) : Nat := s.rf Reg.SKEIN_PAGER_CFG 3 0

/-- Release the pages of channel `k` that its window no longer reaches (R169). -/
def releaseOld (s : State) (k b : Nat) : State :=
  let c := s.histCh k
  let w := window b s.lead c.span
  let keep := c.pages.filter fun p => w.tail.contains p.idx || !decide ((1024 * p.idx + 1023 : Int) < w.lo)
  (s.setHist k { c with pages := keep }).countBy Reg.SKEIN_RELEASES (c.pages.length - keep.length)

/-- A page may be granted to tile `t`: within its declared pages, or borrowed within the limit from free pages. -/
def mayGrant (s : State) (t : Nat) : Bool :=
  decide (s.tileHeld t < s.tileDeclared t) ||
  (decide (s.pagerBorrowed < s.rf Reg.SKEIN_PAGER_CFG 31 16) && decide (0 < s.pagerFree + s.rf Reg.SKEIN_BORROWED 15 0 - s.pagerBorrowed))

/-- Pages of every channel that may be reclaimed, in the order of R172: low-retention pages in no need, then pages in
want but not in need, oldest first. -/
def reclaimable (s : State) (b : Nat) : List (Nat × Nat) :=
  let all := s.skein.hist.filter fun e => e.2.tile.isSome
  let pick (low : Bool) : List (Nat × Nat) := (all.map fun e =>
    ((e.2.pages.filter fun p => p.lowRet == low && !(window b s.lead e.2.span).need.contains p.idx).map fun p => (p.idx, e.1))).flatten
  pick true ++ (((pick false).foldr insertRequest []).reverse)

/-- Remove page `p` of channel `k`. -/
def dropPage (s : State) (k p : Nat) : State :=
  let c := s.histCh k
  s.setHist k { c with pages := c.pages.filter fun x => x.idx != p }

/-- Grant page `p` to channel `k`; its DRAM read starts unless it is a tail page (R168). -/
def grantPage (s : State) (k p b : Nat) (lowRet : Bool) : State :=
  let c := s.histCh k
  let tail := (window b s.lead none).tail
  let home := match c.tile with | some t => decide (s.tileHeld t < 256) | none => true
  s.setHist k { c with pages := ⟨p, tail.contains p, lowRet, !home⟩ :: c.pages }

/-- Serve one request: grant it, after reclaiming a page when none may be granted, or deny it (R172). -/
def serveRequest (s : State) (b : Nat) (lowRet : Bool) (r : Nat × Nat) : State :=
  let c := s.histCh r.2
  match c.tile with
  | none => s.grantPage r.2 r.1 b lowRet
  | some t =>
    if s.mayGrant t then s.grantPage r.2 r.1 b lowRet
    else match s.reclaimable b with
      | (p, k) :: _ =>
        let s := (s.dropPage k p).count Reg.SKEIN_RECLAIMS
        if s.mayGrant t then s.grantPage r.2 r.1 b lowRet
        else (s.setHist r.2 { s.histCh r.2 with denied := r.1 :: (s.histCh r.2).denied }).count Reg.SKEIN_DENIED
      | [] => (s.setHist r.2 { c with denied := r.1 :: c.denied }).count Reg.SKEIN_DENIED

/-- The pager's pass for block `b` over the channels of a class (`fg` for the NEEDLE client, R182): releases first (R159),
then the requests by rank. `speculative` is the request of step 1 of R147, whose pages carry the low-retention mark
until step 4 confirms them. -/
def pagerPass (s : State) (b : Nat) (speculative fg : Bool) : State :=
  let mine := s.skein.hist.filter fun e => e.2.tile.isNone == fg
  let keys := mine.map (·.1)
  let s := s.over keys fun t k => t.releaseOld k b
  let s := s.over keys fun t k => t.setHist k { t.histCh k with denied := [] }
  let missing := (keys.map fun k =>
    let c := s.histCh k
    ((window b s.lead c.span).want.filter fun p => !(c.pages.any fun x => x.idx == p)).map fun p => (p, k)).flatten
  let s := s.over (missing.foldr insertRequest []) fun t r => t.serveRequest b speculative r
  let s := if speculative then s else s.over keys fun t k =>
    let c := t.histCh k
    let w := (window b t.lead c.span).want
    t.setHist k { c with pages := c.pages.map fun p => if w.contains p.idx then { p with lowRet := false } else p }
  (s.putBit Reg.SKEIN_STATUS 0 (s.skein.hist.any fun e => !e.2.denied.isEmpty)).accountPages

/-- PAGE_IN_DONE (R173): the DRAM read of page `p` of channel `k` completes. `zeros` are its 32-byte blocks of 8 samples that the
ECC could not correct and the pager receives as zeros (R451). -/
def pageInDone (s : State) (k p : Nat) (zeros : List Nat) : State :=
  let c := s.histCh k
  if c.pages.any fun x => x.idx == p && !x.loaded then
    let bad := (zeros.filter (· < 128)).eraseDups
    let lost (j : Nat) : Bool := bad.any fun z => (c.top - j) / 8 == ((128 * p + z : Nat) : Int)
    let hist := if bad.isEmpty then c.hist else c.hist.zipIdx.map fun e => if lost e.2 then 0 else e.1
    let s := (s.setHist k { c with hist := hist, pages := c.pages.map fun x => if x.idx = p then { x with loaded := true } else x }).count Reg.SKEIN_PAGE_INS
    { s with hedge := { s.hedge with zeroBlocks := s.hedge.zeroBlocks + bad.length } }
  else s

/-- The new sample of a history channel (R167); the ring keeps `ring` samples. -/
def pushHistory (s : State) (k : Nat) (i v : Int) : State :=
  let c := s.histCh k
  s.setHist k { c with hist := (v :: c.hist).take (max c.ring 1024), top := i }

/-! ### Registers -/

/-- WIN_SEL (R176): the window latches at the next block boundary. -/
def winSelWrite (s : State) (v : Word) : State :=
  { s.wr Reg.SKEIN_WIN_SEL (v &&& 0x7FF) with skein := { s.skein with winWaiting := true } }

/-- Latch the window of the selected channel for block `b` (R176, R177). -/
def latchWindow (s : State) (b : Nat) : State :=
  if !s.skein.winWaiting then s
  else
    let k := 2 * s.rf Reg.SKEIN_WIN_SEL 9 0 + s.rf Reg.SKEIN_WIN_SEL 10 10
    let s := { s with skein := { s.skein with winWaiting := false } }
    match Assoc.get? k s.skein.hist with
    | none => (s.wr Reg.SKEIN_WIN_STATUS 0).wr Reg.SKEIN_WIN_DMIN 0 |>.wr Reg.SKEIN_WIN_DMAX 0
    | some c =>
      let w := window b s.lead c.span
      let split := (pagesFrom (w.hi + 1) (32 * b + 31)).any fun p => !w.tail.contains p && !(c.pages.any fun x => x.idx == p)
      let starved := c.denied.any fun p => w.need.contains p
      let v := 1 + b2n starved * 2 + b2n split * 4 + min w.need.length 255 * 2 ^ 8 + min c.pages.length 255 * 2 ^ 16 +
        min c.denied.length 255 * 2 ^ 24
      ((s.wr Reg.SKEIN_WIN_STATUS (BitVec.ofNat 32 v)).wr Reg.SKEIN_WIN_DMIN (BitVec.ofNat 32 (c.span.getD (0, 0)).1)).wr
        Reg.SKEIN_WIN_DMAX (BitVec.ofNat 32 (c.span.getD (0, 0)).2)

/-- A write of PAGER_CFG: a BORROW_LIMIT below BORROWED takes effect at the next boundary (R163, R177). -/
def pagerCfgWrite (s : State) (v : Word) : State :=
  let s := if fld v 3 0 = 0 then s else s.wf Reg.SKEIN_PAGER_CFG 3 0 (fld v 3 0)
  let s := if 24576 < fld v 31 16 then s else s.wf Reg.SKEIN_PAGER_CFG 31 16 (fld v 31 16)
  let lowered := decide (s.rf Reg.SKEIN_PAGER_CFG 31 16 < s.rf Reg.SKEIN_BORROWED 15 0)
  if lowered then { s with skein := { s.skein with limitLowered := true } } else s

/-- Return pages until the borrowing meets the limit, in the order of R172: reclaimable pages first, then the pages of
borrowing tiles, oldest first (R163). -/
def returnExcess (s : State) (b : Nat) : Nat → State
  | 0 => s
  | f + 1 =>
    if s.pagerBorrowed ≤ s.rf Reg.SKEIN_PAGER_CFG 31 16 then s
    else
      let past (k : Nat) : Bool := match (s.histCh k).tile with | some t => decide (s.tileDeclared t < s.tileHeld t) | none => false
      let oldest := ((s.skein.hist.map fun e =>
        ((e.2.pages.filter fun p => !(window b s.lead none).tail.contains p.idx).map fun p => (p.idx, e.1))).flatten.foldr insertRequest []).reverse
      match (s.reclaimable b ++ oldest).find? fun r => past r.2 with
      | some (p, k) =>
        let needed := (window b s.lead (s.histCh k).span).need.contains p
        let s := (s.dropPage k p).count Reg.SKEIN_RECLAIMS
        let s := if needed then (s.setHist k { s.histCh k with denied := p :: (s.histCh k).denied }).count Reg.SKEIN_DENIED else s
        returnExcess s b f
      | none => s

/-- What the pager does at the boundary that starts block `b` besides its requests. -/
def skeinBoundary (s : State) (b : Nat) : State :=
  let s := s.latchWindow b
  if s.skein.limitLowered then
    ({ s with skein := { s.skein with limitLowered := false } }.returnExcess b 24576).accountPages
  else s

/-- SKEIN.CMD.CLEAR_COUNTS: counters clear; peaks and FREE_MIN start again from the present values (R176). -/
def skeinClearCounts (s : State) : State :=
  let s := s.resetRegs [Reg.SKEIN_PAGE_INS, Reg.SKEIN_RELEASES, Reg.SKEIN_RECLAIMS, Reg.SKEIN_DENIED, Reg.SKEIN_STARVE_STARTS,
    Reg.SKEIN_PAGEIN_WAITS]
  let s := s.wr Reg.SKEIN_FREE_MIN (s.rd Reg.SKEIN_FREE)
  s.over (List.range 7) fun t c => t.wr (Reg.SKEIN_PEAK c) (t.rd (Reg.SKEIN_HELD c))

end State

end Sys2Proof.Machine
end

