-- ==== Sys2Proof/Machine/Cond.lean ====
section
/-! DEFINITION. Input conditioning: the conditioned sample (R76 to R79), ratio tracking (R81, R82), phase delay and its
pages (R83, R84), shadows (R85) and their crossfade (R86), restarts (R87, R88) and the decimators (R89, R90). A channel
is computed from its source history at the position R76 gives, delay included, so the delay line needs no copy. -/

namespace Sys2Proof.Machine

/-! ### Shadows, shared by every unit that has them: R85 -/

/-- A write to a shadowed register: it waits for the first boundary from block `auto` on, or for an APPLY. -/
def ShadowBank.write (b : ShadowBank) (o : Nat) (auto : Option Nat) : ShadowBank :=
  { b with pending := (b.pending.filter fun e => e.1 != o) ++ [(o, auto)] }

def ShadowBank.drop (b : ShadowBank) (o : Nat) : ShadowBank := { b with pending := b.pending.filter fun e => e.1 != o }

/-- A shadow of `o` awaits application. -/
def ShadowBank.waits (b : ShadowBank) (o : Nat) : Bool := (b.pending.any fun e => e.1 == o) || b.snap.any fun e => e.1 == o

/-- An entry that applies by itself at the boundary that starts block `n`. -/
def autoDue (n : Nat) (e : Nat × Option Nat) : Bool := match e.2 with | some k => decide (k ≤ n) | none => false

/-- The shadows due at the boundary that starts block `n`, and what stays: all of them when an APPLY is due, and
otherwise those written with HOLD = 0. -/
def ShadowBank.due (b : ShadowBank) (n : Nat) : List Nat × ShadowBank :=
  let some' := ((b.pending.filter (autoDue n)).map (·.1), { b with pending := b.pending.filter fun e => !autoDue n e })
  match b.applyAt with
  | some t => if t ≤ n then (b.pending.map (·.1), {}) else some'
  | none => some'

/-! ### The resampler -/

/-- Source rates by the RATE code of CH[n].STATUS (R93): the rate in Hz, and the tap count of R79. -/
def rateHz (code : Nat) : Nat := match code with | 1 => 44100 | 2 => 48000 | 3 => 88200 | 4 => 96000 | 5 => 192000 | _ => 96000
def rateTaps (code : Nat) : Nat := match code with | 1 => 16 | 2 => 16 | 5 => 64 | _ => 32

/-- Coefficient j of phase m (R78, Q2.30). Phase 0 at 96 kHz is a unit impulse at the kernel centre (R77) and phase 512
is phase 0 shifted by one tap; the other coefficients are not in the manual. -/
def resampleCoef (code m j : Nat) : Int :=
  if code = 4 then
    (if m = 0 then (if j = 16 then 2 ^ 30 else 0)
     else if m = 512 then (if j = 17 then 2 ^ 30 else 0) else Config.resampleTap code m j)
  else if m = 512 then (if j = 0 then 0 else Config.resampleTap code 0 (j - 1)) else Config.resampleTap code m j

/-- The source sample with index `i`; samples outside the history read 0. -/
def CondChannel.sample (c : CondChannel) (i : Int) : Int :=
  if c.top < i then 0 else c.hist.getD (c.top - i).toNat 0

/-- Steps 2 to 6 of R78 at integer position `i0` and fraction `f24` (UQ0.24): the sample and whether it saturated. -/
def resample (c : CondChannel) (code : Nat) (i0 : Int) (f24 : Nat) : Int × Bool :=
  let t := rateTaps code
  let m := f24 / 2 ^ 15
  let a : Int := f24 % 2 ^ 15
  let term (j : Nat) : Int :=
    let h := resampleCoef code m j
    let cj := divEven (h * 2 ^ 15 + a * (resampleCoef code (m + 1) j - h)) (2 ^ 15)
    divEven (cj * c.sample (i0 - j + (t / 2 : Nat))) (2 ^ 6)
  let sum := if f24 = 0 ∧ code = 4 then c.sample i0 * 2 ^ 24
    else wrap64 ((List.range t).foldl (fun acc j => acc + term j) 0)
  let v := divEven sum (2 ^ 24)
  (satQ31 v, decide (satQ31 v ≠ v))

/-- Step 1 of R78: a position given as a fraction, with its fraction rounded to UQ0.24. -/
def splitPosition (num : Int) (den : Nat) : Int × Nat :=
  let p := divEven (num * 2 ^ 24) den
  (p.fdiv (2 ^ 24), (p - p.fdiv (2 ^ 24) * 2 ^ 24).toNat)

/-- R76: the source position of tick `k` at phase delay `d`, for a source whose sample n stands at
n / rate + shift / rate + offNs. -/
def lockedPosition (c : CondChannel) (code : Nat) (k : Int) (d : Nat) : Int × Nat :=
  let r := rateHz code
  splitPosition ((((k - 16) * 128 - d) * 1000000000 - (c.offNs : Int) * 12288000) * r - (c.shift : Int) * 12288000 * 1000000000)
    (12288000 * 1000000000)

/-- The formula of R86: the value of sample j of 32 between an old and a new one. -/
def blend32 (old new : Int) (j : Nat) : Int := old + divEven ((new - old) * (j + 1)) 32

/-- Linear ramps over a block: sample i of 32, out and in. -/
def rampOut (x : Int) (i : Nat) : Int := divEven (x * (31 - i)) 32
def rampIn (x : Int) (i : Nat) : Int := divEven (x * (i + 1)) 32

namespace State

def chan (s : State) (n : Nat) : CondChannel := (Assoc.get? n s.cond.ch).getD {}
def setChan (s : State) (n : Nat) (c : CondChannel) : State := { s with cond := { s.cond with ch := Assoc.put n c s.cond.ch } }
def chRate (s : State) (n : Nat) : Nat := s.rf (Reg.CH_STATUS n) 2 0

/-- A source delivers sample `i` to channel `n`; the history keeps what the longest delay reaches. -/
def pushSource (s : State) (n : Nat) (i v : Int) (shift offNs : Nat) : State :=
  let c := s.chan n
  let keep := if c.lineFrom.isSome then 2400 else 160
  s.setChan n { c with hist := (v :: c.hist).take keep, top := i, shift := shift, offNs := offNs, delivered := true }

/-- A restart of channel `n`, from the block that follows the cause (R88); one already in progress goes on. -/
def restartChannel (s : State) (n : Nat) : State :=
  let c := s.chan n
  match c.restart with
  | some _ => s
  | none => (s.setChan n { c with restart := some (s.block + 1), silentStart := !c.delivered }).setBit (Reg.CH_STATUS n) 9

/-- MEAS[m] gain (Q4.28) and offset under user values (R269, R272). -/
def measGain (s : State) (m : Nat) (ucal : Word) : Int := pow10Round (effective (s.rd (Reg.MEAS_GAIN_FCAL m)) ucal 12000) 20000 28
def measOffset (s : State) (m : Nat) (ucal : Word) : Int := clampInt (-(2 ^ 31)) (2 ^ 31 - 1) ((s.rd (Reg.MEAS_OFFSET_FCAL m)).toInt + ucal.toInt)

/-- Gain and offset on a decimator output (R272); a change ramps over the block at which it applies (R271). -/
def measAdjust (s : State) (m : Nat) (d : Int) : Int :=
  let g1 := s.measGain m (s.inForce (Reg.MEAS_GAIN_UCAL m))
  let o1 := s.measOffset m (s.inForce (Reg.MEAS_OFFSET_UCAL m))
  let r : Int × Int := match ((Assoc.get? m s.gauge.meas).getD {}).change with
    | some (b, gw, ow) =>
      if b = s.block then
        let g0 := s.measGain m gw
        let o0 := s.measOffset m ow
        (blend32 g0 g1 s.phase, blend32 o0 o1 s.phase)
      else (g1, o1)
    | none => (g1, o1)
  satQ31 (divEven (divEven (d * r.1) (2 ^ 4) + r.2 * 2 ^ 24) (2 ^ 24))

/-- TDM port fields that name a source (R376, R377), and a stem that is armed or plays (R484). -/
def tdmEnabled (s : State) (p : Nat) : Bool := s.bitOf (Reg.TDM_CFG0 p) 0
def tdmSlots (s : State) (p : Nat) : Nat := s.rf (Reg.TDM_CFG0 p) 10 6 + 1
def tdmWide (s : State) (p : Nat) : Bool := s.tdmEnabled p && decide (16 < s.tdmSlots p)
def tdmHalfRate (s : State) (p : Nat) : Bool := s.bitOf (Reg.TDM_CFG0 p) 11
def stemState (s : State) (k : Nat) : Nat := s.rf (Reg.STEM_STATUS k) 1 0
def stemActive (s : State) (k : Nat) : Bool := s.stemState k == 1 || s.stemState k == 2

/-- Channel `n` is a link channel of the cascade (R407). -/
def linkChannel (s : State) (n : Nat) : Bool := decide (n < 1024) && s.bitOf (Reg.CAS_IMPORT n) 31

/-- The rate code of the source behind channel `n`, 0 without one (R75, R93). -/
def sourceRate (s : State) (n : Nat) : Nat :=
  if n < 1024 then
    if s.linkChannel n then 4
    else match s.rxSlots.find? fun i => s.rxsEnabled i &&
        decide (s.rf (Reg.RXS_FORMAT i) 25 16 ≤ n) && decide (n < s.rf (Reg.RXS_FORMAT i) 25 16 + s.rf (Reg.RXS_FORMAT i) 6 0) with
      | some i => (match s.rf (Reg.RXS_FORMAT i) 14 12 with | 0 => 2 | 1 => 4 | 2 => 1 | 3 => 3 | _ => 5)
      | none => 0
  else if n < 1536 then
    let p := (n - 1024) / 16
    let p := if p % 2 = 1 ∧ s.tdmWide (p - 1) then p - 1 else p
    if s.tdmEnabled p then (if s.tdmHalfRate p then 2 else 4) else 0
  else if n < 1792 then (if s.stemActive (n - 1536) then 4 else 0)
  else if n < 1808 then (if s.bitOf (Reg.COND_MDEC (n - 1792)) 6 then 6 else 0)
  else 0

/-- A link channel runs LOCKED with zero phase delay whatever its registers hold (R407). -/
def chTrack (s : State) (n : Nat) : Bool := decide (n < 1024) && s.rf (Reg.CH_CTRL n) 1 0 == 1 && !s.linkChannel n
def chDelay (s : State) (n : Nat) : Nat := if s.linkChannel n then 0 else s.af (Reg.CH_PHASE_DELAY n) 16 0

/-- The receive-buffer fill of the stream behind channel `n` minus its link offset, in samples (R81). -/
def fillError (s : State) (n : Nat) : Int :=
  match s.rxSlots.find? fun i => s.rxsEnabled i &&
      decide (s.rf (Reg.RXS_FORMAT i) 25 16 ≤ n) && decide (n < s.rf (Reg.RXS_FORMAT i) 25 16 + s.rf (Reg.RXS_FORMAT i) 6 0) with
  | some i =>
    (((Assoc.get? i s.net.rx).getD {}).buffer.length : Int) -
      divEven ((s.rd (Reg.RXS_LINK_OFFSET i)).toNat * rateHz (s.chRate n) : Nat) 1000000000
  | none => 0

/-- The measurement input behind channel `n`, when it is one. -/
def measOf (n : Nat) : Option Nat := if 1792 ≤ n ∧ n < 1808 then some (n - 1792) else none

/-- The channel computed at phase delay `d` for tick `k`, and whether it saturated (R76, R83, R84). -/
def chanAt (s : State) (n : Nat) (k d : Nat) : Int × Bool :=
  let c := s.chan n
  let whole := d / 128
  let blank := decide (0 < whole) && (match c.lineFrom with | none => true | some t => decide (k < t + whole))
  if blank then (0, false)
  else match measOf n with
    | some m =>
      let r := s.rd (Reg.COND_MDEC m)
      let j : Int := (k : Int) - whole
      if bitAt r 6 then
        (s.measAdjust m (satQ31 (Config.decimate (fld r 1 0) (fld r 4 2) (d % 128) (c.hist.drop (c.top - j).toNat))), false)
      else (0, false)
    | none =>
      let code := s.chRate n
      if code = 0 then (0, false)
      else
        let p := if s.chTrack n && c.track.started then
            let q := (c.track.pos : Int) - (d : Int) * c.track.inc / 128
            (q.fdiv (2 ^ 40), ((q - q.fdiv (2 ^ 40) * 2 ^ 40) / 2 ^ 16).toNat)
          else lockedPosition c code k d
        resample c code p.1 p.2

/-- The gain a restart, a rate fault, a fault of its port or a time step leaves a source at sample `i` of block `b` (R88, R82, R329). -/
def chanShape (s : State) (n b i : Nat) (x : Int) : Int :=
  let c := s.chan n
  let x := match c.restart with
    | some k => if b < k then x else if b = k then (if c.silentStart then 0 else rampOut x i) else if b = k + 1 then 0 else rampIn x i
    | none => x
  let x := match c.gateOut, c.gateIn with
    | some k, none => if b < k then x else if b = k then rampOut x i else 0
    | some k, some j => if b < k then x else if b = k then rampOut x i else if b < j then 0 else if b = j then rampIn x i else x
    | none, _ => x
  match c.muteFrom with
    | some k => if b < k then x else if b = k then rampOut x i else 0
    | none => x

/-- A time step silences every conditioned source around its jump (R329). `rampInNow` holds in block E'. -/
def stepShape (s : State) (b i : Nat) (x : Int) : Int :=
  match s.time.step with
  | some p => if p.moved then 0 else if p.atBlock = b + 1 then rampOut x i else x
  | none => if s.time.rampIn = some b then rampIn x i else x

/-- The conditioned sample of channel `n` at the present tick (R76, R86). -/
def conditioned (s : State) (n : Nat) : Int × Bool :=
  let k := s.tick
  let i := s.phase
  let old := s.chanAt n k (s.chDelay n)
  let r := match (s.chan n).xfadeTo with
    | some d =>
      let new := s.chanAt n k d
      (old.1 + divEven ((new.1 - old.1) * (i + 1)) 32, old.2 || new.2)
    | none => old
  (s.stepShape s.block i (s.chanShape n s.block i r.1), r.2)

/-- The conditioned samples of every channel that has a source, at the present tick. -/
def conditionTick (s : State) : State :=
  let s := s.over s.cond.ch fun t (e : Nat × CondChannel) =>
    if t.chTrack e.1 && e.2.track.started then
      t.setChan e.1 { t.chan e.1 with track := { e.2.track with pos := e.2.track.pos + e.2.track.inc } } else t
  let vals : List (Nat × (Int × Bool)) := s.cond.ch.map fun e => (e.1, s.conditioned e.1)
  let s := { s with cond := { s.cond with out := vals.map fun (e : Nat × Int × Bool) => (e.1, e.2.1) } }
  s.over (vals.filter fun (e : Nat × Int × Bool) => e.2.2) fun t e => t.countField (Reg.CH_STATUS e.1) 31 16 1

/-! ### Phase delay, pages and shadows -/

/-- The block from which a write applies by itself: none while HOLD, bit `b` of the unit's CTRL, is 1 (R85). -/
def autoBlock (s : State) (ctrl b : Nat) : Option Nat := if s.bitOf ctrl b then none else some (s.block + 1)

/-- Request a delay-line page for channel `n` (R84). -/
def askPage (s : State) (n : Nat) : State := (s.setChan n { s.chan n with pageAsked := true }).setBit (Reg.CH_STATUS n) 5

/-- A write of PHASE_DELAY on channel `n` (R84, R85). -/
def phaseDelayWrite (s : State) (n : Nat) (v : Word) : State :=
  let o := Reg.CH_PHASE_DELAY n
  let s := s.wr o (v &&& 0x1FFFF)
  let s := { s with cond := { s.cond with bank := s.cond.bank.write o (s.autoBlock Reg.COND_CTRL 0) } }
  if decide (128 ≤ s.rf o 16 0) && !s.bitOf (Reg.CH_STATUS n) 8 && !(s.chan n).pageAsked then s.askPage n else s

/-- DELAY_PAGE_GRANT (R84): the allocator grants a page while one is free, and refuses it otherwise. -/
def delayPageGrant (s : State) (n : Nat) : State :=
  let c := s.chan n
  if !c.pageAsked then s
  else if 0 < s.skeinFree then
    let s := s.setChan n { c with pageAsked := false, lineFrom := some s.tick }
    ((s.setBit (Reg.CH_STATUS n) 8).countField Reg.COND_PAGES 15 0 1).takeCondPage
  else
    let o := Reg.CH_PHASE_DELAY n
    let s := s.setChan n { c with pageAsked := false }
    let s := ((s.clrBit (Reg.CH_STATUS n) 5).setBit (Reg.CH_STATUS n) 6).wr o (s.inForce o)
    { s with cond := { s.cond with bank := s.cond.bank.drop o } }

/-- DELAY_LINE_FILLED (R84): 1,024 samples after the grant. -/
def delayLineFilled (s : State) (n : Nat) : State :=
  match (s.chan n).lineFrom with
  | some t => if t + 1024 ≤ s.tick then s.clrBit (Reg.CH_STATUS n) 5 else s
  | none => s

/-- A command of the COND block was accepted, or refused (R91). -/
def condAccepted (s : State) : State := s.clrBit Reg.COND_STATUS 1

/-- COND.CMD.APPLY (R85). -/
def condApply (s : State) : State :=
  match s.targetBlock Reg.COND_APPLY_BLOCK_LO with
  | some t => ({ s with cond := { s.cond with bank := { s.cond.bank with applyAt := some t } } }.condAccepted).setBit Reg.COND_STATUS 0
  | none => s.setBit Reg.COND_STATUS 1

/-- COND.CMD.CLEAR_COUNTS (R93). -/
def condClearCounts (s : State) : State := s.condAccepted.over (s.cond.ch.map (·.1)) fun t n => t.wf (Reg.CH_STATUS n) 31 16 0

/-- Release the page of channel `n`. -/
def releasePage (s : State) (n : Nat) : State :=
  let s := s.setChan n { s.chan n with lineFrom := none }
  let s := (s.clrBit (Reg.CH_STATUS n) 8).clrBit (Reg.CH_STATUS n) 5
  (s.wf Reg.COND_PAGES 15 0 (s.rf Reg.COND_PAGES 15 0 - 1)).giveCondPage

/-- COND.CMD.RELEASE_PAGES (R84): channels whose applied integer delay is 0. A delay that still waits to be applied
asks for a page again. -/
def condReleasePages (s : State) : State :=
  s.condAccepted.over (s.cond.ch.map (·.1)) fun t n =>
    if t.bitOf (Reg.CH_STATUS n) 8 && decide (t.chDelay n < 128) && ((t.chan n).xfadeTo.getD 0 < 128) then
      let t := t.releasePage n
      if 128 ≤ t.rf (Reg.CH_PHASE_DELAY n) 16 0 then t.askPage n else t
    else t

/-- A write of COND.CMD: an APPLY that is refused refuses only itself (R85, R91). -/
def condCommand (s : State) (v : Word) : State :=
  let s := if bitAt v 1 then s.condClearCounts else s
  let s := if bitAt v 2 then s.condReleasePages else s
  if bitAt v 0 then s.condApply else s

/-- A write of CH[n].CTRL: a change of RATIO_MODE restarts the channel (R87). `old` is the mode before. -/
def ratioModeWritten (s : State) (n old : Nat) : State := if s.rf (Reg.CH_CTRL n) 1 0 = old then s else s.restartChannel n

/-- A write of MDEC[m] (R90, R92): WB768 with another CLKDIV than 0 is ignored as a whole and sets CMD_ERROR; MODE 3 and
CLKDIV 6 or 7 are ignored. A change restarts the channel (R87). -/
def mdecWrite (s : State) (m : Nat) (v : Word) : State :=
  if fld v 1 0 = 3 ∨ 6 ≤ fld v 4 2 then s
  else if fld v 1 0 = 2 ∧ fld v 4 2 ≠ 0 then s.setBit Reg.COND_STATUS 1
  else
    let changed := s.rd (Reg.COND_MDEC m) != v &&& 0x7F
    let s := s.wr (Reg.COND_MDEC m) (v &&& 0x7F)
    if changed then s.restartChannel (1792 + m) else s

/-! ### At a block boundary -/

/-- The crossfades of the block before end: the new delay is in force (R86). -/
def condFinishXfades (s : State) : State :=
  let s := s.over s.cond.ch fun t e =>
    match e.2.xfadeTo with
    | some d =>
      ((t.enforce (Reg.CH_PHASE_DELAY e.1) (BitVec.ofNat 32 d)).setChan e.1 { t.chan e.1 with xfadeTo := none }).clrBit (Reg.CH_STATUS e.1) 7
    | none => t
  if s.cond.applyBusy then { s with cond := { s.cond with applyBusy := false } }.putBit Reg.COND_STATUS 0 s.cond.bank.applyAt.isSome else s

/-- The shadows due at the boundary start their crossfades (R85, R86). -/
def condApplyShadows (s : State) (b : Nat) : State :=
  let r := s.cond.bank.due b
  let wasApply := s.cond.bank.applyAt.isSome && !r.2.applyAt.isSome
  let s := { s with cond := { s.cond with bank := r.2, applyBusy := wasApply } }
  s.over r.1 fun t o =>
    let n := (o - 0xF1000) / 32
    let d := t.rf o 16 0
    if d = t.chDelay n then t else (t.setChan n { t.chan n with xfadeTo := some d }).setBit (Reg.CH_STATUS n) 7

/-- The restarts move on at the boundary that starts block `b` (R88). -/
def condRestarts (s : State) (b : Nat) : State :=
  s.over s.cond.ch fun t e =>
    match e.2.restart with
    | some k =>
      if b = k + 1 then
        let rate := t.sourceRate e.1
        (t.setChan e.1 { t.chan e.1 with hist := [], muteFrom := none, track := {}, lineFrom := e.2.lineFrom.map fun _ => t.tick }).wf
          (Reg.CH_STATUS e.1) 2 0 rate
      else if k + 3 ≤ b then (t.setChan e.1 { t.chan e.1 with restart := none }).clrBit (Reg.CH_STATUS e.1) 9
      else t
    | none =>
      match e.2.muteFrom with
      | some k =>
        if k < b && t.sourceRate e.1 == 0 then
          (t.setChan e.1 { t.chan e.1 with hist := [], muteFrom := none, delivered := false, track := {} }).wf (Reg.CH_STATUS e.1) 2 0 0
        else t
      | none => t

/-- TRACK at a block boundary (R81, R82). The fill error comes from the stream behind the channel. -/
def trackUpdate (s : State) (b : Nat) : State :=
  s.over s.cond.ch fun t e =>
    let n := e.1
    let c := t.chan n
    if !(t.chTrack n) || c.restart.isSome || decide (t.chRate n = 0) then t
    else
      let err := t.fillError n
      let nominal : Int := rateHz (t.chRate n) * 2 ^ 40 / 96000
      let inc : Int := if c.track.started then c.track.inc else nominal
      let start := lockedPosition c (t.chRate n) t.tick 0
      let pos := if c.track.started then c.track.pos else (start.1 * 2 ^ 40 + start.2 * 2 ^ 16).toNat
      let demand := Config.trackLoop (t.rf Reg.COND_TRACK_CFG 1 0) nominal inc err
      let limit := nominal / 1000
      let fault := decide (limit < demand - nominal) || decide (demand - nominal < -limit)
      let slew := nominal * t.rf Reg.COND_TRACK_CFG 15 8 / 100000000
      let inc' := clampInt (nominal - limit) (nominal + limit) (clampInt (inc - slew) (inc + slew) demand)
      let within := if -2 ≤ err ∧ err ≤ 2 then c.track.within + 1 else 0
      let t := t.setChan n { c with track := { c.track with pos := pos, inc := inc'.toNat, within := within, started := true } }
      let t := if within = 0 then t.clrBit (Reg.CH_STATUS n) 3 else t
      let t := t.wr (Reg.CH_RATIO n) (satWord (divEven ((inc' - nominal) * 1000000 * 65536) nominal.toNat))
      let was := t.bitOf (Reg.CH_STATUS n) 4
      if fault && !was then (t.setBit (Reg.CH_STATUS n) 4).setChan n { t.chan n with muteFrom := some b }
      else if !fault && was then (t.clrBit (Reg.CH_STATUS n) 4).restartChannel n
      else t

/-- TRACK_LOCK_TIMER (R81): the fill error has stayed within ±2 samples for 1 s, which is 3,000 blocks. -/
def trackLockTimer (s : State) (n : Nat) : State :=
  if s.chTrack n && decide (3000 ≤ (s.chan n).track.within) then s.setBit (Reg.CH_STATUS n) 3 else s

end State

end Sys2Proof.Machine
end

