-- ==== Sys2Proof/Machine/Capacity.lean ====
section
/-! DEFINITION. What several units ask of others: the DRAM frame map and its capacity (R440, R456, R73), whether a
Pattern is active (R65), whether the root PLL is locked (R514), and how the Hedge role gates what the device sends
(R419, R420, R423). -/

namespace Sys2Proof.Machine

/-- Is a version heard or rendered for audio block `b`: from its commit until its retire block (R304 to R311, R544). -/
def Version.runs (v : Version) (b : Nat) : Bool :=
  (match v.enter with
   | some (.hard c) => decide (c + 2 ≤ b)
   | some (.cross c _) => decide (c ≤ b)
   | some (.load c) => decide (c + 3 ≤ b)
   | some (.cut c) => decide (c ≤ b)
   | none => decide (v.since ≤ b)) &&
  (match v.leave with
   | some (.hard c) => decide (b < c + 2)
   | some (.cross c l) => decide (b < c + (l + 31) / 32)
   | some (.load c) => decide (b < c)
   | some (.cut c) => decide (b < c)
   | none => true)

/-- A full load has retired the version: only its output stage still runs (R59). -/
def Version.gone (v : Version) : Bool := match v.leave with | some (.load _) => true | _ => false

/-- The weight of a version on sample i of audio block b (R304, R306, R311, R544): numerator and power of two, for the
entry and for the exit. -/
def enterWeight (v : Version) (b i : Nat) : Int × Nat :=
  match v.enter with
  | some (.cross c l) =>
    let k := 32 * (b - c) + i
    if l ≤ k + 1 then (1, 0) else (satU 32 (roundFx (sinPi (k + 1 : Nat) (2 * l)) 31), 31)
  | some (.hard c) => let k := 32 * (b - c - 2) + i; if k < 64 then ((k : Int) + 1, 6) else (1, 0)
  | _ => (1, 0)

def leaveWeight (v : Version) (b i : Nat) : Int × Nat :=
  match v.leave with
  | some (.cross c l) =>
    let k := 32 * (b - c) + i
    if b < c then (1, 0) else if l ≤ k + 1 then (0, 0) else (satU 32 (roundFx (cosPi (k + 1 : Nat) (2 * l)) 31), 31)
  | some (.hard c) => let k := 32 * (b - c) + i; if b < c then (1, 0) else if k < 64 then (63 - (k : Int), 6) else (0, 0)
  | _ => (1, 0)

/-- A value weighted and narrowed once (R303). -/
def Version.weigh (v : Version) (b i : Nat) (x : Int) : Int :=
  let e := enterWeight v b i
  let l := leaveWeight v b i
  if e.2 = 0 ∧ l.2 = 0 then x * e.1 * l.1 else divEven (x * e.1 * l.1) (2 ^ (e.2 + l.2))

/-- The group of an object in a version. -/
def Version.groupOf (v : Version) (n : Nat) : Option ObjGroup :=
  v.region.groups.find? fun g => decide (g.first ≤ n) && decide (n < g.first + g.count)

namespace State

/-- A full Pattern is active (PAT.STATUS.ACTIVE). -/
def patternActive (s : State) : Bool := s.bitOf Reg.PAT_STATUS 5

/-- The root PLL has lost lock: source 4 is live (R514). -/
def rootUnlocked (s : State) : Bool := s.sourceLive 4

/-- Every transmit packet is withheld: a non-holder that is DIVERGED or whose Pattern differs (R423, R431). -/
def hedgeMute (s : State) : Bool :=
  s.rf Reg.HEDGE_STATUS 1 0 != 2 && s.rf Reg.HEDGE_STATUS 1 0 != 0 && (s.bitOf Reg.HEDGE_STATUS 10 || s.bitOf Reg.HEDGE_STATUS 14)

/-- A transmit packet whose last sample is of audio block `b` is withheld (R420). -/
def packetWithheld (s : State) (b : Nat) : Bool := s.hedgeMute || (s.hedge.holding && decide (s.hedge.taintFrom.getD 0 ≤ b))

/-- Time actions that drive outputs or send packets run on a standalone device and on the holder (R423). -/
def actionsGated (s : State) : Bool :=
  s.rf Reg.HEDGE_STATUS 1 0 == 1 || (s.rf Reg.HEDGE_STATUS 1 0 == 3 && !s.hedge.drives)

/-! ### DRAM channels and frames -/

/-- Frames in frame space, 64 KiB each (R440). -/
def frameSpace : Nat := 524288

/-- STATE of a DRAM channel: 0 INIT, 1 ONLINE, 2 DEGRADED, 3 OFFLINE. -/
def dramState (s : State) (n : Nat) : Nat := s.rf (Reg.DRAM_STATUS n) 1 0
/-- A channel that holds data: ONLINE or DEGRADED. -/
def dramOnline (s : State) (n : Nat) : Bool := s.dramState n == 1 || s.dramState n == 2
def onlineChannels (s : State) : List Nat := (List.range s.dev.part.dramChannels).filter s.dramOnline

/-- Frames of a channel: 7/8 of its size (R440, R451). -/
def channelFrames (s : State) : Nat := s.dev.dramGiB * 14336
def capacityFrames (s : State) : Nat := s.onlineChannels.length * s.channelFrames

def framesOn (s : State) (n : Nat) : Nat := s.rf (Reg.DRAM_FRAMES n) 19 0
def backedFrames (s : State) : Nat := s.rf Reg.MATRIX_FRAMES_BACKED 19 0
/-- Frames that a client may still take. -/
def freeDramFrames (s : State) : Nat := s.capacityFrames - s.backedFrames

/-- The online channel with the most free capacity, the lowest winning a tie. -/
def roomiest (s : State) : Option Nat :=
  s.onlineChannels.foldl (fun b n => match b with
    | none => some n
    | some m => if s.framesOn n < s.framesOn m then some n else some m) none

/-- The channel of a frame that becomes backed (R440). -/
def placeFrame (s : State) (f : Nat) : Option Nat :=
  if s.mtx.wentOffline then s.roomiest
  else match s.onlineChannels with
    | [] => none
    | l => l[f % l.length]?

def frameAt (s : State) (f : Nat) : Option Frame := Assoc.get? f s.mtx.frames

/-- Frame f becomes backed for an owner. -/
def backFrame (s : State) (f : Nat) (o : FrameOwner) : State :=
  match s.placeFrame f with
  | none => s
  | some n =>
    let s := { s with mtx := { s.mtx with frames := Assoc.put f ⟨n, o⟩ s.mtx.frames } }
    (s.wf (Reg.DRAM_FRAMES n) 19 0 (s.framesOn n + 1)).wf Reg.MATRIX_FRAMES_BACKED 19 0 (s.backedFrames + 1)

/-- Frame f is no longer backed. -/
def unbackFrame (s : State) (f : Nat) : State :=
  match s.frameAt f with
  | none => s
  | some e =>
    let s := { s with mtx := { s.mtx with frames := Assoc.del f s.mtx.frames } }
    (s.wf (Reg.DRAM_FRAMES e.chan) 19 0 (s.framesOn e.chan - 1)).wf Reg.MATRIX_FRAMES_BACKED 19 0 (s.backedFrames - 1)

/-- ALLOC_LOW: the lowest frame that the device holds. -/
def reportAllocLow (s : State) : State :=
  match s.mtx.frames.find? fun e => e.2.owner != .host with
  | some e => s.wr Reg.MATRIX_ALLOC_LOW (BitVec.ofNat 32 e.1)
  | none => s.wr Reg.MATRIX_ALLOC_LOW 0x80000

/-- Take `n` frames from frame `f` downwards (R440). -/
def takeFrames (o : FrameOwner) : Nat → Nat → State → State
  | 0, _, s => s
  | _, 0, s => s
  | f + 1, n + 1, s =>
    if (s.frameAt f).isSome then takeFrames o f (n + 1) s else takeFrames o f n (s.backFrame f o)

/-- Allocate `n` frames for an owner, from the top of frame space downwards. -/
def allocFrames (s : State) (o : FrameOwner) (n : Nat) : State := (takeFrames o frameSpace n s).reportAllocLow

/-- Release every frame of an owner. -/
def releaseFrames (s : State) (o : FrameOwner) : State :=
  ((s.mtx.frames.filter fun e => e.2.owner == o).foldl (fun t e => t.unbackFrame e.1) s).reportAllocLow

/-- Frames held for an owner. -/
def framesOf (s : State) (o : FrameOwner) : Nat := (s.mtx.frames.filter fun e => e.2.owner == o).length

/-- Frames of the receive streams enabled outside any STREAM_CONFIG, and of the loader area (R73, R356). -/
def rxFrames (s : State) : Nat := (s.mtx.frames.filter fun e => match e.2.owner with | .rxStream _ => true | _ => false).length
def loaderFrames (s : State) : Nat := s.framesOf .loader

/-- The committed versions, old and new. -/
def versions (s : State) : List Version := s.pat.versions
/-- The version of region k that is not leaving. -/
def version? (s : State) (k : Nat) : Option Version := s.pat.versions.find? fun v => v.region.id == k && v.leave.isNone

/-- The versions that a full load has not retired. -/
def live (s : State) : List Version := s.pat.versions.filter fun v => !v.gone

/-- The DRAM demand of the committed regions in frames: 16 for each MiB of DEM_DRAM. -/
def regionFrames (s : State) : Nat := s.live.foldl (fun a v => a + 16 * v.region.dramMiB) 0

/-! ### Zones, sets and groups of the committed regions -/

/-- The committed group an object lies in: of the newest version (R308). -/
def objGroup (s : State) (n : Nat) : Option (Version × ObjGroup) :=
  s.pat.versions.foldl (fun a v => match v.groupOf n with
    | some g => (match v.leave, a with | some _, some _ => a | _, _ => some (v, g))
    | none => a) none

/-- The versions whose records a version takes for audio block `b`, nearest first: itself, those committed with it, then those
that run the block, the old version of a region being replaced before the new one (R309). -/
def visible (s : State) (v : Version) (b : Nat) : List Version :=
  v :: (s.pat.versions.filter fun w => w.since == v.since && (w.leave.isNone || w.runs b)) ++ (s.pat.versions.filter fun w => w.runs b) ++ s.pat.versions

def findZone (s : State) (v : Version) (b z : Nat) : Option Zone :=
  (s.visible v b).findSome? fun w => w.region.zones.find? fun e => e.id == z
def findSet (s : State) (v : Version) (b k : Nat) : Option SpeakerSet :=
  (s.visible v b).findSome? fun w => w.region.sets.find? fun e => e.id == k

/-- The zone and the speaker set of an object in a version for audio block `b`. -/
def objZone (s : State) (v : Version) (b n : Nat) : Option (Zone × SpeakerSet) :=
  match v.groupOf n with
  | none => none
  | some g => match s.findZone v b g.zone with
    | none => none
    | some z => (s.findSet v b z.set).map fun k => (z, k)

/-- The committed TILE_MAP entry that names an object (R47). -/
def tileOf (s : State) (n : Nat) : Option TileEntry :=
  s.pat.versions.findSome? fun v => v.region.tileMap.find? fun e => decide (e.first ≤ n) && decide (n < e.first + e.count)

/-! ### Frenus Link ports, as the units that send over them see them -/

def casPort (s : State) (n : Nat) : CasPort := (s.cas.ports[n]?).getD {}
def setCasPort (s : State) (n : Nat) (p : CasPort) : State := { s with cas := { s.cas with ports := s.cas.ports.set n p } }
def casTree (s : State) (n : Nat) : Bool := s.bitOf (Reg.CAS_STATUS n) 2
/-- Queue a section on every tree port but one (R402). -/
def casFlood (s : State) (except : Option Nat) (x : CasSection) : State :=
  s.over ((List.range s.dev.part.casPorts).filter fun n => s.casTree n && except != some n) fun t n =>
    t.setCasPort n { t.casPort n with out := (t.casPort n).out ++ [x] }

/-- Bit n of EXPORT (R406). -/
def objExported (s : State) (n : Nat) : Bool := s.bitOf (Reg.CAS_EXPORT (n / 32)) (n % 32)
/-- Enabled IMPORT entries: the receive channel and the word (R407). -/
def imports (s : State) : List (Nat × Word) :=
  ((s.regs.filter fun e => decide (Reg.CAS_IMPORT 0 ≤ e.1) && decide (e.1 < Reg.CAS_IMPORT 1024) && bitAt e.2 31).map fun e =>
    ((e.1 - Reg.CAS_IMPORT 0) / 4, e.2))
/-- Object n takes its metadata from META sections only (R409). -/
def metaImported (s : State) (n : Nat) : Bool := s.imports.any fun e => bitAt e.2 30 && fld e.2 21 12 == n

end State

end Sys2Proof.Machine
end

