-- ==== Sys2Proof/Machine/Objects.lean ====
section
/-! DEFINITION. Sound objects: metadata packets (R98 to R104), the queue (R105 to R108), the merge at a cut-off (R109),
extrapolation, correction and TELEPORT (R110 to R113), class changes (R118, R119), shadows (R120), pushes (R121) and
the object stage (R114 to R117, R136). Apply times are held in 1/3 ns, in which a block is 10^6. -/

namespace Sys2Proof.Machine

/-! ### Extrapolation: R110 to R112 -/

/-- Apply a function to each axis. -/
def Pos.map (f : Int → Int) (p : Pos) : Pos := ⟨f p.x, f p.y, f p.z⟩
def Pos.zip (f : Int → Int → Int) (p q : Pos) : Pos := ⟨f p.x q.x, f p.y q.y, f p.z q.z⟩

/-- One axis of R110 at block `b`, narrowed once to Q16.16. -/
def extrapolateAxis (f : Pos → Int) (pts : List (Nat × Pos)) (b : Int) : Int :=
  match pts with
  | [] => 0
  | [(_, p)] => f p
  | [(b2, p2), (b3, p3)] =>
    let d := b3 - b2
    satQ31 (divEven (f p3 * d + (b - b3) * (f p3 - f p2)) d)
  | (b1, p1) :: (b2, p2) :: (b3, p3) :: _ =>
    let d12 : Int := (b2 - b1 : Nat)
    let d23 : Int := (b3 - b2 : Nat)
    let d13 : Int := (b3 - b1 : Nat)
    let v1 := f p2 - f p1
    let v2 := f p3 - f p2
    satQ31 (divEven (f p3 * (d12 * d23 * d13) + (b - b3) * v2 * d12 * d13 + (b - b3) * (b - b2) * (v2 * d12 - v1 * d23))
      (d12 * d23 * d13).toNat)

def extrapolate (pts : List (Nat × Pos)) (b : Int) : Pos :=
  ⟨extrapolateAxis Pos.x pts b, extrapolateAxis Pos.y pts b, extrapolateAxis Pos.z pts b⟩

/-- The offset of R112 step 2 taken from a position: q − E × (N − 1 − k) / N. -/
def Blend.apply (w : Blend) (b : Nat) (q : Pos) : Pos :=
  if b < w.start + w.n then q.zip (fun a e => satQ31 (divEven (a * w.n - e * (w.n - 1 - (b - w.start) : Nat)) w.n)) w.e else q

def applyBlend (w : Option Blend) (b : Nat) (q : Pos) : Pos := match w with | some w => w.apply b q | none => q

/-- The blend still has a non-zero offset at block `b`. -/
def Blend.running (w : Blend) (b : Nat) : Bool := decide (b + 1 < w.start + w.n) && decide (w.e ≠ {})

/-- A window's verdict on a number (R102 steps 2 to 5): the new window and whether it is accepted; no window when 64
consecutive rejections clear it. -/
def SeqWindow.take (w : SeqWindow) (q : Nat) : Option SeqWindow × Bool :=
  let d := (q + 2 ^ 32 - w.last) % 2 ^ 32
  let back := (w.last + 2 ^ 32 - q) % 2 ^ 32
  if 1 ≤ d ∧ d < 2 ^ 31 then (some { last := q, seen := (w.seen * 2 ^ (min d 64) + 1) % 2 ^ 64 }, true)
  else if back < 64 ∧ w.seen / 2 ^ back % 2 = 0 then (some { w with seen := w.seen + 2 ^ back, rejects := 0 }, true)
  else if 64 ≤ w.rejects + 1 then (none, false)
  else (some { w with rejects := w.rejects + 1 }, false)

/-- Field bit of an entry. -/
def MetaEntry.has (e : MetaEntry) (b : Nat) : Bool := e.flags / 2 ^ b % 2 == 1

namespace State

/-! ### Objects -/

def obj (s : State) (n : Nat) : ObjState := (Assoc.get? n s.omd.obj).getD {}
def setObj (s : State) (n : Nat) (o : ObjState) : State := { s with omd := { s.omd with obj := Assoc.put n o s.omd.obj } }

/-- STATUS fields of what is applied (R124). -/
def objEnabled (s : State) (n : Nat) : Bool := s.bitOf (Reg.OBJ_STATUS n) 0
def objForeground (s : State) (n : Nat) : Bool := s.bitOf (Reg.OBJ_STATUS n) 1
def inGroup (s : State) (n : Nat) : Bool := s.bitOf (Reg.OBJ_STATUS n) 4
def foregroundCount (s : State) : Nat := s.rf Reg.OMD_STATUS 14 8

/-- The Cascade ID of the device: 0 without a CASCADE_ROLE record (R100). -/
def cascadeRole (s : State) : Option CascadeRole := s.pat.versions.findSome? fun v => v.region.cascade
def cascadeId (s : State) : Nat := match s.cascadeRole with | some r => r.id | none => 0

/-- The law of an object's zone: 0 DELAY, 1 AMP, 2 HYBRID. -/
def zoneLaw (s : State) (n : Nat) : Nat :=
  match s.objGroup n with
  | some (v, g) => (match s.findZone v s.block g.zone with | some z => z.law | none => 0)
  | none => 0

/-- The law in force for a LAW value (R99). -/
def lawOf (s : State) (n law : Nat) : Nat := if law = 0 then s.zoneLaw n else law - 1

/-- A LAW value that R101 ignores for an object. -/
def lawIgnored (s : State) (n law : Nat) : Bool :=
  match s.objGroup n with
  | none => true
  | some (v, g) =>
    let z := s.findZone v s.block g.zone
    let tri := match z with | some z => (match s.findSet v s.block z.set with | some k => !k.tri.isEmpty | none => false) | none => false
    let cross := match z with | some z => decide (0 < z.crossover) | none => false
    decide (4 ≤ law) || (law == 2 && !tri) || (law == 3 && !cross)

/-! ### The queue: R105 to R108 -/

/-- Root counts to 1/3 ns: 15,625 / 16,384 of them. -/
def thirds (c : Nat) : Nat := c * 15625 / 16384

/-- A SECONDS field resolved to the second nearest the present, in seconds (R105). -/
def resolveSeconds (s : State) (sec : Nat) : Nat :=
  let now := s.now / countsPerSecond
  (now + signExt 32 (((sec : Int) - now) % 2 ^ 32).toNat).toNat

/-- The open block of an arrival at root count `c`: the first whose cut-off lies after it (R105, R180). -/
def openBlock (s : State) (n c : Nat) : Nat :=
  let c := if s.objForeground n then c + 16 * countsPerTick else c - 16 * countsPerTick
  if s.objForeground n then c / (32 * countsPerTick) + 1
  else if c = 0 then 0 else c / (32 * countsPerTick) + 1

/-- Insert by apply time, behind ties (R105). -/
def insertMeta (e : MetaEntry) : List MetaEntry → List MetaEntry
  | [] => [e]
  | x :: r => if e.t < x.t then e :: x :: r else x :: insertMeta e r

/-- A sticky bit of an object with the event that goes with it. -/
def objSticky (s : State) (n b : Nat) : State := s.setBit (Reg.OBJ_STICKY n) b

/-- An entry for object `n` that arrives at root count `c`, with `openT` as the open block of its ASAP time and its
lateness, and `openQ` as the first block it can still reach (R101, R105 to R108, R409). -/
def queueEntryAt (s : State) (n c openT openQ : Nat) (e : MetaEntry) (replace : Bool) : State :=
  let bad := bitAt (BitVec.ofNat 32 e.flags) 4 && s.lawIgnored n e.law
  let s := if bad then (s.objSticky n 7).event 196 else s
  let flags := if bad then e.flags - 16 else e.flags
  let t := if bitAt (BitVec.ofNat 32 flags) 5 then openT * 1000000 else e.t
  let first := (t + 999999) / 1000000
  if c * 15625 + s.rf Reg.OMD_CFG 7 0 * 3000000000 * 16384 < t * 16384 then
    ((s.count (Reg.OBJ_DROP_COUNT n)).objSticky n 6).event 196
  else if (match (s.obj n).lastT with | some l => decide (t < l) | none => false) then
    ((s.count (Reg.OBJ_DROP_COUNT n)).objSticky n 1).event 196
  else
    let s := if first < openT ∨ openT < openQ then ((s.count (Reg.OBJ_LATE_COUNT n)).objSticky n 0).event 192 else s
    let o := s.obj n
    let queue := if replace then o.queue.filter fun x => decide (x.t < t) else o.queue
    let new : MetaEntry := { e with t := t, flags := flags, block := max (max openT openQ) first }
    let queue := insertMeta new queue
    let s := if 16 < queue.length then
        ((s.count (Reg.OBJ_OVERFLOW_COUNT n)).objSticky n 2).event 194
      else s
    let kept := queue.take 16
    let s := if kept.contains new then s.count Reg.OMD_RX_ENTRIES else s
    (s.setObj n { s.obj n with queue := kept }).wf (Reg.OBJ_STATUS n) 14 10 kept.length

/-- A signed value as 32 bits. -/
def int32 (x : Int) : Nat := (x % 2 ^ 32).toNat

/-- The META section of an entry with open block `c` (R400, R409): entry bytes 0x00 to 0x21 of R99. -/
def metaSection (s : State) (n c : Nat) (e : MetaEntry) (replace : Bool) : CasSection :=
  let bytes := beBytes 2 n ++ beBytes 2 e.flags ++ beBytes 4 (e.t / 3000000000) ++ beBytes 4 (e.t % 3000000000 / 3) ++
    beBytes 4 (int32 e.pos.x) ++ beBytes 4 (int32 e.pos.y) ++ beBytes 4 (int32 e.pos.z) ++ beBytes 4 (int32 e.gain) ++
    beBytes 2 e.spread ++ beBytes 2 e.diffuse ++ beBytes 2 e.law ++ List.replicate 6 0
  ⟨5, [5 + s.cascadeId * 2 ^ 4 + n * 2 ^ 16 + b2n replace * 2 ^ 26, c] ++ (List.range 5).map fun i => leNat bytes (8 * i) 8⟩

/-- An entry that arrives at the device for object `n`: one of an exported object counts as 32 samples later and goes out
in a META section (R409). -/
def queueEntry (s : State) (n c : Nat) (e : MetaEntry) (replace : Bool) : State :=
  let c := if s.objExported n then c + 32 * countsPerTick else c
  let open' := s.openBlock n c
  let s := if s.objExported n then s.casFlood none (s.metaSection n open' e replace) else s
  s.queueEntryAt n c open' open' e replace

/-- An entry as a packet carries it (R99): its object, and what to do with NANOSECONDS out of range (R100). -/
structure RawEntry where
  obj : Nat
  seconds : Nat
  nanos : Nat
  fields : MetaEntry

/-- The checks of R100 on an entry, then the queue. -/
def takeEntry (s : State) (c : Nat) (e : RawEntry) (replace : Bool) : State :=
  if s.dev.part.objects ≤ e.obj ∨ !s.inGroup e.obj ∨ s.metaImported e.obj then s.count Reg.OMD_DROP_OBJECT
  else if 999999999 < e.nanos then (s.count Reg.OMD_DROP_FORMAT).count (Reg.OBJ_DROP_COUNT e.obj)
  else s.queueEntry e.obj c { e.fields with t := s.resolveSeconds e.seconds * 3000000000 + 3 * e.nanos } replace

/-! ### Frenus Object Metadata: R98 to R102 -/

/-- A signed 32-bit big-endian field. -/
def beInt (b : List Byte) (o : Nat) : Int := signExt 32 (beNat b o 4)

/-- Entry `i` of a packet (R99). -/
def fomEntry (b : List Byte) (i : Nat) : RawEntry :=
  let o := 16 + 48 * i
  { obj := beNat b o 2, seconds := beNat b (o + 4) 4, nanos := beNat b (o + 8) 4
    fields := {
      t := 0, block := 0, seq := some (beNat b 8 4), flags := beNat b (o + 2) 2 % 128
      pos := ⟨beInt b (o + 12), beInt b (o + 16), beInt b (o + 20)⟩, gain := beInt b (o + 24)
      spread := beNat b (o + 28) 2, diffuse := beNat b (o + 30) 2, law := beNat b (o + 32) 2 } }

def setSenders (s : State) (l : List Sender) : State := { s with omd := { s.omd with senders := l } }.wf Reg.OMD_STATUS 21 16 l.length

/-- The sender whose last accepted packet is oldest. -/
def oldestSender (l : List Sender) : Option Sender :=
  l.foldl (fun b x => match b with | none => some x | some y => if x.lastAt < y.lastAt then some x else some y) none

/-- R102: the sender table takes a packet, or rejects it. -/
def senderTake (s : State) (src port q c : Nat) : State × Bool :=
  let same (x : Sender) : Bool := x.src == src && x.port == port
  match s.omd.senders.find? same with
  | none =>
    let l := if 32 ≤ s.omd.senders.length then
        (match oldestSender s.omd.senders with | some y => s.omd.senders.filter fun x => !(x.src == y.src && x.port == y.port) | none => [])
      else s.omd.senders
    (s.setSenders (l ++ [{ src := src, port := port, win := { last := q, seen := 1 }, lastAt := c }]), true)
  | some x =>
    match x.win.take q with
    | (some w, ok) =>
      (s.setSenders (s.omd.senders.map fun y => if same y then { y with win := w, lastAt := if ok then c else y.lastAt } else y), ok)
    | (none, ok) => (s.setSenders (s.omd.senders.filter fun y => !same y), ok)

/-- The entries of an accepted packet, in packet order. -/
def fomEntries (s : State) (c : Nat) (b : List Byte) : State :=
  s.over (List.range (beNat b 12 2)) fun t i => t.takeEntry c (fomEntry b i) (beNat b 2 2 % 2 == 1)

/-- FOM_PACKET (R98 to R102): a packet from `src`, `port` that arrived at root count `c`. -/
def fomPacket (s : State) (src port c : Nat) (b : List Byte) : State :=
  if !s.bitOf Reg.OMD_CTRL 0 then s
  else if beNat b 0 1 ≠ 1 then s.count Reg.OMD_DROP_VERSION
  else if beNat b 4 2 ≠ 0xFFFF ∧ beNat b 4 2 ≠ s.cascadeId then s.count Reg.OMD_DROP_TARGET
  else if b.length ≠ 16 + 48 * beNat b 12 2 ∨ beNat b 12 2 < 1 ∨ 186 < beNat b 12 2 then s.count Reg.OMD_DROP_FORMAT
  else match s.senderTake src port (beNat b 8 4) c with
    | (t, true) => (t.count Reg.OMD_RX_PACKETS).fomEntries c b
    | (t, false) => t.count Reg.OMD_DROP_SEQUENCE

/-! ### Commands of the OMD block and pushes -/

/-- M_PUSH on object `n` (R121). -/
def mPush (s : State) (n : Nat) : State :=
  let r (o : Nat) : Nat := (s.rd o).toNat
  let sd := s.rd (Reg.OBJ_M_SD n)
  let fl := s.rd (Reg.OBJ_M_FLAGS n)
  let e : MetaEntry := {
    t := 0, block := 0, seq := none, flags := fld fl 6 0, law := fld fl 31 16
    pos := ⟨(s.rd (Reg.OBJ_M_X n)).toInt, (s.rd (Reg.OBJ_M_Y n)).toInt, (s.rd (Reg.OBJ_M_Z n)).toInt⟩
    gain := (s.rd (Reg.OBJ_M_GAIN n)).toInt, spread := fld sd 15 0, diffuse := fld sd 31 16 }
  s.takeEntry s.now ⟨n, r (Reg.OBJ_M_TIME_S n), r (Reg.OBJ_M_TIME_NS n), e⟩ false

def omdAccepted (s : State) : State := s.clrBit Reg.OMD_STATUS 1

/-- Does the pending shadow of an object's CTRL change FOREGROUND? -/
def changesClass (s : State) (n : Nat) : Bool := s.bitOf (Reg.OBJ_CTRL n) 1 != s.objForeground n

/-- A change of FOREGROUND that reaches the unit less than 16 samples before a boundary waits for the next (R181). -/
def lateForClass (s : State) : Bool := decide (32 - 16 < s.phase)

/-- OMD.CMD.APPLY (R120, R181). -/
def omdApply (s : State) : State :=
  match s.targetBlock Reg.OMD_APPLY_BLOCK_LO with
  | none => s.setBit Reg.OMD_STATUS 1
  | some t =>
    let late (o : Nat) : Bool := s.lateForClass && decide (t = s.block + 1) && o % 256 == 4 && s.changesClass ((o - 0x100000) / 256)
    let waiting := s.omd.bank.pending.map fun e => if late e.1 then (e.1, some (s.block + 2)) else e
    let bank := { s.omd.bank with applyAt := some t, pending := waiting }
    { (s.omdAccepted.setBit Reg.OMD_STATUS 0) with omd := { s.omd with bank := bank } }

/-- A write of a shadowed register of OBJ[n] (R95, R120, R181); the value has been stored. -/
def objShadow (s : State) (n o : Nat) : State :=
  let late := o % 256 == 4 && s.lateForClass && s.changesClass n
  let auto := (s.autoBlock Reg.OMD_CTRL 1).map fun b => if late then b + 1 else b
  { s with omd := { s.omd with bank := s.omd.bank.write o auto } }

def objCounters (n : Nat) : List Nat := [Reg.OBJ_LATE_COUNT n, Reg.OBJ_EXTRAP_COUNT n, Reg.OBJ_OVERFLOW_COUNT n, Reg.OBJ_DROP_COUNT n]

/-- OMD.CMD.CLEAR_COUNTS (R122). -/
def omdClearCounts (s : State) : State :=
  (s.omdAccepted.resetRegs ((List.range 9).map fun k => 0x200020 + 4 * k)).over (List.range s.dev.part.objects) fun t n =>
    t.resetRegs (objCounters n)

/-- OMD.CMD.FLUSH_ALL (R122). -/
def flushAll (s : State) : State :=
  s.omdAccepted.over (s.omd.obj.map (·.1)) fun t n => (t.setObj n { t.obj n with queue := [] }).wf (Reg.OBJ_STATUS n) 14 10 0

/-- OMD.CMD.RESET_SENDERS (R102). -/
def resetSenders (s : State) : State := s.omdAccepted.setSenders []

/-- A write of OMD.CMD. -/
def omdCommand (s : State) (v : Word) : State :=
  let s := if bitAt v 1 then s.omdClearCounts else s
  let s := if bitAt v 2 then s.flushAll else s
  let s := if bitAt v 3 then s.resetSenders else s
  if bitAt v 0 then s.omdApply else s

/-! ### The merge at a cut-off: R109 to R113 -/

/-- The position an object is given at block `b` without an entry (R110 to R112), and whether it is held. -/
def predictPos (s : State) (n b : Nat) : Pos × Bool :=
  let o := s.obj n
  match o.points.getLast? with
  | none => ({}, false)
  | some (b3, _) =>
    let limit := s.af (Reg.OBJ_EXTRAP_CFG n) 9 0
    let held := decide (limit < b - b3)
    (applyBlend o.blend b (extrapolate o.points (if held then b3 + limit else b : Nat)), held)

/-- The speculative input of block `b`: the state as of the last cut-off, as though no entry applied (R147 step 1). -/
def predictInput (s : State) (n b : Nat) : ObjInput :=
  let o := s.obj n
  { pos := (s.predictPos n b).1, gain := o.gain, spread := o.spread, law := s.lawOf n o.law }

/-- What a merge found: an entry applied, a position applied, and a TELEPORT among the entries. -/
structure MergeInfo where
  any : Bool := false
  pos : Bool := false
  teleport : Bool := false

/-- The metadata merge of object `n` for block `b` (R109 to R113). -/
def mergeObject (s : State) (n b : Nat) : State × MergeInfo :=
  let o := s.obj n
  let due := o.queue.filter fun e => decide (e.block ≤ b)
  let info : MergeInfo := { any := !due.isEmpty, pos := due.any (·.has 0), teleport := (due.any (·.has 6)) && due.any (·.has 0) }
  let lastOf {α : Type} (bit : Nat) (f : MetaEntry → α) (d : α) : α := due.foldl (fun a e => if e.has bit then f e else a) d
  let gain := lastOf 1 (·.gain) o.gain
  let spread := lastOf 2 (·.spread) o.spread
  let diffuse := lastOf 3 (·.diffuse) o.diffuse
  let law := lastOf 4 (·.law) o.law
  let newPos := lastOf 0 (·.pos) {}
  let pred := s.predictPos n b
  let points := if !info.pos then o.points else if info.teleport then [(b, newPos)]
    else ((o.points.filter fun p => decide (p.1 < b)) ++ [(b, newPos)]).reverse.take 3 |>.reverse
  let len := s.af (Reg.OBJ_EXTRAP_CFG n) 22 16
  let corrects := info.pos && !info.teleport && !o.points.isEmpty && !(decide (0 < b) && o.posBlock == some (b - 1))
  let blend := if info.teleport then none
    else if corrects then (if len = 0 then none else some ⟨b, len, newPos.zip (· - ·) pred.1⟩) else o.blend
  let pos := if info.pos then applyBlend blend b newPos else pred.1
  let held := !info.pos && pred.2
  let extrap := !info.pos && !o.points.isEmpty
  let law' := s.lawOf n law
  let o' : ObjState := { o with
    queue := o.queue.filter (fun e => !decide (e.block ≤ b)), lastT := (due.foldl (fun a e => some (max e.t (a.getD 0))) o.lastT)
    gain := gain, spread := spread, diffuse := diffuse, law := law, points := points, blend := blend
    posBlock := if info.pos then some b else o.posBlock
    metas := (⟨b, { pos := pos, gain := gain, spread := spread, law := law' }, diffuse⟩ :: o.metas).take 3 }
  let s := s.setObj n o'
  let st := Reg.OBJ_STATUS n
  let s := if held && !s.bitOf st 6 then (s.event 193).objSticky n 3 else s
  let s := if extrap then s.count (Reg.OBJ_EXTRAP_COUNT n) else s
  let s := ((s.putBit st 5 extrap).putBit st 6 held).putBit st 7 (match blend with | some w => w.running b | none => false)
  let s := (s.wf st 14 10 o'.queue.length).wf st 23 22 law'
  let seq := due.foldl (fun a e => match e.seq with | some q => some q | none => a) none
  let s := match seq with | some q => s.wr (Reg.OBJ_LAST_SEQ n) (BitVec.ofNat 32 q) | none => s
  (s, info)

/-- The CUR_ registers report a block that is rendered (R123). -/
def reportObject (s : State) (n : Nat) (m : BlockMeta) : State :=
  let s := (s.wr (Reg.OBJ_CUR_X n) (wordOfInt m.input.pos.x)).wr (Reg.OBJ_CUR_Y n) (wordOfInt m.input.pos.y)
  let s := (s.wr (Reg.OBJ_CUR_Z n) (wordOfInt m.input.pos.z)).wr (Reg.OBJ_CUR_GAIN n) (wordOfInt m.input.gain)
  (s.wr (Reg.OBJ_CUR_SD n) (BitVec.ofNat 32 (m.input.spread + m.diffuse * 65536))).wr64 (Reg.OBJ_CUR_BLOCK_LO n) m.block

/-! ### Class changes and shadows: R118 to R120 -/

/-- Needles that are not fenced, and the Foreground limit (R178). -/
def liveNeedles (s : State) : List Nat := (List.range s.dev.part.needles).filter fun h => s.rf (Reg.NDL_STATUS h) 2 0 != 2
def foregroundLimit (s : State) : Nat := min 64 (4 * s.liveNeedles.length)

/-- The history of an object moves to its logical tile, or to the Needles (R165). -/
def placeHistory (s : State) (n : Nat) (fg : Bool) : State :=
  let tile := if fg then none else (s.tileOf n).map (·.tile)
  s.over [2 * n, 2 * n + 1] fun t k => match Assoc.get? k t.skein.hist with
    | some c => t.setHist k { c with tile := tile }
    | none => t

/-- Apply the shadow of OBJ[n].CTRL at the boundary that starts block `b` (R97, R118, R119). -/
def applyObjCtrl (s : State) (n b : Nat) : State :=
  let st := Reg.OBJ_STATUS n
  let v := s.rd (Reg.OBJ_CTRL n)
  let fg := bitAt v 1
  let was := s.objForeground n
  let refused := (fg && !was && decide (s.foregroundLimit ≤ s.foregroundCount)) || (!fg && was && !s.bitOf st 3)
  let s := if refused then ((s.wf (Reg.OBJ_CTRL n) 1 1 (b2n was)).objSticky n 5).event 198 else s
  let v := s.rd (Reg.OBJ_CTRL n)
  let fg := bitAt v 1
  let comp := bitAt v 2
  let hadComp := s.abit (Reg.OBJ_CTRL n) 2
  let enableChanged := bitAt v 0 != s.objEnabled n
  let switch := fg != was || (fg && comp != hadComp)
  let o := s.obj n
  let o := { o with enableAt := if enableChanged then some b else o.enableAt }
  let o := { o with switching := if switch then some (b, was, hadComp) else o.switching }
  let s := (s.setObj n o).enforce (Reg.OBJ_CTRL n) v
  let s := ((s.putBit st 0 (bitAt v 0)).putBit st 1 fg).putBit st 2 (fg && comp)
  let s := if switch then s.setBit st 8 else s
  let s := if fg != was then s.placeHistory n fg else s
  if fg && !was then s.wf Reg.OMD_STATUS 14 8 (s.foregroundCount + 1)
  else if !fg && was then s.wf Reg.OMD_STATUS 14 8 (s.foregroundCount - 1) else s

/-- The DF words in force of an object, DF_CTRL last. -/
def dfWords (s : State) (n : Nat) : List Word := (List.range 20).map (fun k => s.inForce (0x100020 + 256 * n + 4 * k)) ++ [s.inForce (Reg.OBJ_DF_CTRL n)]

/-- Apply the shadow of one OBJ register (R115, R120). -/
def applyObjReg (s : State) (b o : Nat) : State :=
  let n := (o - 0x100000) / 256
  let r := o % 256
  if r = 4 then s.applyObjCtrl n b
  else
    let df := decide (0x1C ≤ r) && decide (r < 0x70) && s.inForce o != s.rd o
    let s := if df && (s.obj n).dfOld.isNone then s.setObj n { s.obj n with dfOld := some (b, s.dfWords n) } else s
    s.enforce o (s.rd o)

/-- The object shadows due at the boundary that starts block `b` (R120), and the end of the switches of the block before
(R119 step 3). -/
def omdBoundary (s : State) (b : Nat) : State :=
  let s := s.over s.omd.obj fun t e => match e.2.switching with
    | some (k, _, _) => if k < b then ((t.setObj e.1 { t.obj e.1 with switching := none }).clrBit (Reg.OBJ_STATUS e.1) 8).event 197 else t
    | none => t
  let r := s.omd.bank.due b
  let applied := s.omd.bank.applyAt.isSome && !r.2.applyAt.isSome
  let s := { s with omd := { s.omd with bank := r.2 } }
  let s := if applied then s.clrBit Reg.OMD_STATUS 0 else s
  s.over r.1 fun t o => t.applyObjReg b o

end State

/-! ### The object stage: R114 to R117, R136 -/

/-- The five coefficients of biquad k among DF words. -/
def dfCoefs (w : List Word) (k : Nat) : List Int := (List.range 5).map fun i => (w.getD (5 * k + i) 0).toInt

/-- y of R115 for a history and input x; each product is narrowed to Q9.55. -/
def biquadOut (c : List Int) (h : BiquadState) (x : Int) : Int :=
  let p (i : Nat) (v : Int) : Int := divEven (c.getD i 0 * v) (2 ^ 6)
  satQ31 (divEven (wrap64 (p 0 x + p 1 h.x1 + p 2 h.x2 - p 3 h.y1 - p 4 h.y2)) (2 ^ 24))

def BiquadState.push (h : BiquadState) (x y : Int) : BiquadState := ⟨x, h.x1, y, h.y1⟩

/-- One biquad of a coefficient set: its output, bypassed or not, and its state. -/
def biquadStep (c : List Int) (bypass : Bool) (h : BiquadState) (x : Int) : Int × BiquadState :=
  let y := if bypass then x else biquadOut c h x
  (y, h.push x y)

/-- A biquad during a coefficient change: both sets from their own output histories, crossfaded (R115). -/
def biquadXfade (c0 : List Int) (b0 : Bool) (c1 : List Int) (b1 : Bool) (h0 h1 : BiquadState) (x : Int) (j : Nat) :
    Int × BiquadState × BiquadState :=
  let r0 := biquadStep c0 b0 h0 x
  let r1 := biquadStep c1 b1 h1 x
  (blend32 r0.1 r1.1 j, r0.2, r1.2)

/-- The air coefficient of R116 in UQ1.31, or none where the filter passes x: `air` in kHz·m, the position in Q16.16. -/
def airCoef (air : Nat) (p : Pos) : Option Int :=
  let d2 := (p.x * p.x + p.y * p.y + p.z * p.z).toNat
  if air = 0 ∨ d2 = 0 ∨ 40000 * 40000 * d2 ≤ (air * 1000 * 65536) ^ 2 then none
  else
    let fc := fxDiv (fxInt (air * 1000 * 65536 : Nat)) (fxSqrt (fxInt d2))
    some (satU 32 (roundFx (fxOne - fxExp (-((2 * fxMul fxPi fc).fdiv 96000))) 31))

/-- Stage k of the decorrelator of object n (R117): its delay. -/
def allPassDelay (n k : Nat) : Nat := 11 + 7 * k + (5 * n + 3 * k) % 8

/-- One stage on input v with histories of inputs and outputs. -/
def allPassStep (n k : Nat) (h : List Int × List Int) (v : Int) : Int × (List Int × List Int) :=
  let m := allPassDelay n k
  let g : Int := if k % 2 = 0 then 1 else -1
  let u := satQ31 (divEven (-(g * v) + 2 * h.1.getD (m - 1) 0 + g * h.2.getD (m - 1) 0) 2)
  (u, ((v :: h.1).take 80, (u :: h.2).take 80))

/-- The eight stages in series. -/
def allPassChain (n : Nat) : Nat → List (List Int × List Int) → Int → Int × List (List Int × List Int)
  | _, [], v => (v, [])
  | k, h :: r, v =>
    let a := allPassStep n k h v
    let b := allPassChain n (k + 1) r a.1
    (b.1, a.2 :: b.2)

/-- The weights of R117 for a block, in UQ1.31. -/
def decorrWeights (diffuse spread spreadDecorr : Nat) : Nat × Nat :=
  let w := min 65535 (diffuse + spread * spreadDecorr / 256)
  ((satU 32 (roundFx (cosPi w (2 * 65535)) 31)).toNat, (satU 32 (roundFx (sinPi w (2 * 65535)) 31)).toNat)

/-- The four biquads on one sample; j is the sample of the block. -/
def dfStep (p : StageParams) (j : Nat) : Nat → List BiquadState → List BiquadState → Int → Int × List BiquadState × List BiquadState
  | k, h :: r, h' :: r', x =>
    let bp (w : List Word) : Bool := bitAt (w.getD 20 0) k
    let a := match p.dfOld with
      | some old => biquadXfade (dfCoefs old k) (bp old) (dfCoefs p.df k) (bp p.df) h h' x j
      | none => let r := biquadStep (dfCoefs p.df k) (bp p.df) h x; (r.1, r.2, r.2)
    let b := dfStep p j (k + 1) r r' a.1
    (b.1, a.2.1 :: b.2.1, a.2.2 :: b.2.2)
  | _, _, _, x => (x, [], [])

/-- The object stage on one sample (R114): the new state, and the sample of the only or high band and of the low band. -/
def stageStep (p : StageParams) (st : ObjStage) (j : Nat) (x : Int) : ObjStage × Int × Int :=
  let a := dfStep p j 0 st.df (st.dfNew.getD st.df) x
  let air := match p.air with
    | some c => satQ31 (divEven (st.air * 2 ^ 31 + c * (a.1 - st.air)) (2 ^ 31))
    | none => a.1
  let q := allPassChain p.n 0 st.ap air
  let cs : Int := st.mixCos * 32 + ((p.cosNew : Int) - st.mixCos) * (j + 1)
  let sn : Int := st.mixSin * 32 + ((p.sinNew : Int) - st.mixSin) * (j + 1)
  let y := satQ31 (divEven (cs * air + sn * q.1) (2 ^ 36))
  let mixed := (y :: st.mixed).take 800
  let low := if p.crossover = 0 then 0 else Config.hybridLow p.crossover mixed
  let high := if p.crossover = 0 then y else satQ31 (mixed.getD 384 0 - low)
  let st' := { st with
    df := a.2.1, dfNew := if p.dfOld.isSome then some a.2.2 else none, air := air, ap := q.2
    mixed := if p.crossover = 0 then [] else mixed, next := st.next + 1 }
  (if j = 31 then { st' with df := a.2.2, dfNew := none, mixCos := p.cosNew, mixSin := p.sinNew } else st', high, low)

namespace State

/-- The stage parameters of object `n` for block `b`. -/
def stageParams (s : State) (n b : Nat) : StageParams :=
  let o := s.obj n
  let m := match o.metas.find? fun m => m.block == b with | some m => m | none => ⟨b, {}, 0⟩
  let w := decorrWeights m.diffuse m.input.spread (s.af (Reg.OBJ_DECORR n) 7 0)
  let cross := match s.objGroup n with
    | some (v, g) => (match s.findZone v b g.zone with | some z => if z.law = 2 then z.crossover else 0 | none => 0)
    | none => 0
  { n := n, df := s.dfWords n, dfOld := match o.dfOld with | some (k, w) => if k = b then some w else none | none => none
    air := airCoef (s.af (Reg.OBJ_AIR n) 23 0) m.input.pos, cosNew := w.1, sinNew := w.2, crossover := cross }

/-- The input of object `n` at conditioned sample `k`; the newest sum is that of the sample before the present tick. -/
def objInput (s : State) (n k : Nat) : Int := ((Assoc.get? n s.omd.input).getD []).getD (s.tick - 1 - k) 0

/-- Run the object stage with given parameters over `count` samples from sample index `first` of block `b`, and write the
history (R114, R167). -/
def runStageWith (s : State) (p : StageParams) (b first count : Nat) : State :=
  s.over (List.range count) fun t i =>
    let k := 32 * b + first + i
    let o := t.obj p.n
    let r := stageStep p o.stage (first + i) (t.objInput p.n k)
    let t := t.setObj p.n { o with stage := { r.1 with next := k + 1 }, dfOld := if first + i = 31 ∧ p.dfOld.isSome then none else o.dfOld }
    let t := t.pushHistory (2 * p.n) k r.2.1
    if p.crossover = 0 then t else t.pushHistory (2 * p.n + 1) k r.2.2

/-- Run the object stage of object `n` over samples of block `b`. -/
def runStage (s : State) (n b first count : Nat) : State := s.runStageWith (s.stageParams n b) b first count

end State

end Sys2Proof.Machine
end

