-- ==== Sys2Proof/Machine/Osc.lean ====
section
/-! DEFINITION. OSC input (R103, R104): the fixed address schema, float conversion by convergent rounding, bundles and
their time tags, and the merging of messages that share a time tag. -/

namespace Sys2Proof.Machine

/-- The bytes of an OSC string at an offset, and the offset after its padding. -/
def oscString (b : List Byte) (o : Nat) : List Nat × Nat :=
  let str := ((b.drop o).takeWhile fun x => x.toNat != 0).map (·.toNat)
  (str, o + (str.length / 4 + 1) * 4)

/-- A float argument × n / d, narrowed by convergent rounding and limited; none for a NaN. -/
def oscFloat (w n d : Nat) (lo hi : Int) : Option Int :=
  let e := natField w 30 23
  let f := natField w 22 0
  let sign : Int := if natField w 31 31 = 1 then -1 else 1
  if e = 255 then (if f ≠ 0 then none else some (if sign < 0 then lo else hi))
  else
    let m := if e = 0 then f else f + 2 ^ 23
    let k := max e 1
    some (clampInt lo hi (if 150 ≤ k then divEven (sign * (m * 2 ^ (k - 150) * n : Nat)) d
      else divEven (sign * (m * n : Nat)) (d * 2 ^ (150 - k))))

/-- A mapped message: the object, the EFLAGS bit of its field, and up to three values. -/
structure OscField where
  obj : Nat
  bit : Nat
  a : Int
  b : Int := 0
  c : Int := 0
  deriving DecidableEq, Repr

/-- A decimal number without leading zeros. -/
def oscNumber (l : List Nat) : Option Nat :=
  if l.isEmpty || (decide (1 < l.length) && l.head? == some 48) || !(l.all fun c => decide (48 ≤ c) && decide (c ≤ 57)) then none
  else some (l.foldl (fun a c => a * 10 + (c - 48)) 0)

/-- "/frenus/obj/" -/
def oscPrefix : List Nat := [47, 102, 114, 101, 110, 117, 115, 47, 111, 98, 106, 47]

/-- A message (R103): none when R104 drops it. -/
def oscMessage (b : List Byte) : Option OscField :=
  let addr := oscString b 0
  let tags := oscString b addr.2
  let arg (i : Nat) : Nat := beNat b (tags.2 + 4 * i) 4
  let full (n : Nat) : Bool := decide (tags.2 + 4 * n ≤ b.length)
  if !oscPrefix.isPrefixOf addr.1 then none
  else
    let rest := addr.1.drop 12
    let num := rest.takeWhile (· != 47)
    match oscNumber num with
    | none => none
    | some n =>
      let field := rest.drop num.length
      -- "/xyz" ",fff"
      if field = [47, 120, 121, 122] ∧ tags.1 = [44, 102, 102, 102] ∧ full 3 then
        match oscFloat (arg 0) 65536 1 (-(2 ^ 31)) (2 ^ 31 - 1), oscFloat (arg 1) 65536 1 (-(2 ^ 31)) (2 ^ 31 - 1),
          oscFloat (arg 2) 65536 1 (-(2 ^ 31)) (2 ^ 31 - 1) with
        | some x, some y, some z => some ⟨n, 0, x, y, z⟩
        | _, _, _ => none
      -- "/gain" ",f"
      else if field = [47, 103, 97, 105, 110] ∧ tags.1 = [44, 102] ∧ full 1 then
        (oscFloat (arg 0) (2 ^ 28) 1 (-(2 ^ 31)) (2 ^ 31 - 1)).map fun v => ⟨n, 1, v, 0, 0⟩
      -- "/spread" ",f"
      else if field = [47, 115, 112, 114, 101, 97, 100] ∧ tags.1 = [44, 102] ∧ full 1 then
        (oscFloat (arg 0) 65536 360 0 65535).map fun v => ⟨n, 2, v, 0, 0⟩
      -- "/diffuse" ",f"
      else if field = [47, 100, 105, 102, 102, 117, 115, 101] ∧ tags.1 = [44, 102] ∧ full 1 then
        (oscFloat (arg 0) 65535 1 0 65535).map fun v => ⟨n, 3, v, 0, 0⟩
      -- "/law" ",i"
      else if field = [47, 108, 97, 119] ∧ tags.1 = [44, 105] ∧ full 1 then some ⟨n, 4, min (arg 0) 65535, 0, 0⟩
      else none

/-- An element of a packet: its time tag, none outside a bundle, and its message, none when dropped. -/
abbrev OscElement := Option Nat × Option OscField

/-- "#bundle" and its zero byte. -/
def oscBundleMark : List Nat := [35, 98, 117, 110, 100, 108, 101, 0]

/-- The elements of a bundle's body, each a size and as many bytes, read by `elem`. -/
def oscBody (elem : List Byte → List OscElement) : Nat → List Byte → List OscElement
  | 0, _ => []
  | g + 1, r =>
    if r.length < 4 then []
    else elem ((r.drop 4).take (beNat r 0 4)) ++ oscBody elem g (r.drop (4 + beNat r 0 4))

/-- The messages of a packet in order. `depth` bundles are open; a bundle nested deeper than 4 is dropped (R104). -/
def oscElements : Nat → Nat → Option Nat → List Byte → List OscElement
  | 0, _, _, _ => []
  | f + 1, depth, tag, b =>
    if (b.take 8).map (·.toNat) = oscBundleMark then
      if 4 ≤ depth then [(tag, none)]
      else oscBody (oscElements f (depth + 1) (some (beNat b 8 8))) 400 (b.drop 16)
    else [(tag, oscMessage b)]

namespace State

/-- The apply time of a time tag in 1/3 ns: NTP to PTP with the current UTC offset; none for ASAP (R104). -/
def oscTime (s : State) (tag : Option Nat) : Option Nat :=
  match tag with
  | none => none
  | some 1 => none
  | some t =>
    let sec : Int := (t / 2 ^ 32 : Nat) - 2208988800 + s.rsf Reg.TIME_UTC_OFFSET 15 0
    some (s.resolveSeconds (sec % 2 ^ 32).toNat * 3000000000 + 3 * (divEven ((t % 2 ^ 32 * 1000000000 : Nat)) (2 ^ 32)).toNat)

/-- A field set in an entry. -/
def oscSet (e : MetaEntry) (f : OscField) : MetaEntry :=
  let e := { e with flags := if e.has f.bit then e.flags else e.flags + 2 ^ f.bit }
  match f.bit with
  | 0 => { e with pos := ⟨f.a, f.b, f.c⟩ }
  | 1 => { e with gain := f.a }
  | 2 => { e with spread := f.a.toNat }
  | 3 => { e with diffuse := f.a.toNat }
  | _ => { e with law := f.a.toNat }

/-- Merge messages for one object that share a bundle time tag (R104), in message order. -/
def oscMerge : List OscElement → List (Option Nat × Nat × MetaEntry) → List (Option Nat × Nat × MetaEntry)
  | [], acc => acc
  | (_, none) :: r, acc => oscMerge r acc
  | (tag, some f) :: r, acc =>
    let blank : MetaEntry := ⟨0, 0, none, 0, {}, 0, 0, 0, 0⟩
    if tag.isSome && acc.any fun x => x.1 == tag && x.2.1 == f.obj then
      oscMerge r (acc.map fun x => if x.1 = tag ∧ x.2.1 = f.obj then (x.1, x.2.1, oscSet x.2.2 f) else x)
    else oscMerge r (acc ++ [(tag, f.obj, oscSet blank f)])

/-- OSC_PACKET (R103, R104): the firmware queues the packet's entries at root count `c`. -/
def oscPacket (s : State) (c : Nat) (b : List Byte) : State :=
  if !s.bitOf Reg.OMD_CTRL 2 || s.rf Reg.OMD_OSC_CFG 15 0 == 0 then s
  else
    let els := oscElements 8 0 none b
    let s := s.countBy Reg.OMD_OSC_MESSAGES (els.filter fun e => e.2.isSome).length
    let s := s.countBy Reg.OMD_OSC_DROPPED (els.filter fun e => e.2.isNone).length
    s.over (oscMerge els []) fun t (x : Option Nat × Nat × MetaEntry) =>
      let n := x.2.1
      if t.dev.part.objects ≤ n ∨ !t.inGroup n ∨ t.metaImported n then t.count Reg.OMD_DROP_OBJECT
      else match t.oscTime x.1 with
        | none => t.queueEntry n c { x.2.2 with flags := x.2.2.flags + 32 } false
        | some v => t.queueEntry n c { x.2.2 with t := v } false

end State

end Sys2Proof.Machine
end

