-- ==== Sys2Proof/Machine/Render.lean ====
section
/-! DEFINITION. The render array: targets under the laws (R129 to R139), spans for the pager (R140), geometry
run-ahead (R147 to R150), ramps and the interpolator (R141 to R145), partial mixes and their weights (R146, R303 to
R306, R317), and the counters of RNDR and TILE (R153 to R156). -/

namespace Sys2Proof.Machine

/-! ### Geometry -/

/-- |p| in raw Q16.16 units, narrowed to UQ18.16 (R130). -/
def Pos.norm (p : Pos) : Nat := (sqrtRound (p.x * p.x + p.y * p.y + p.z * p.z).toNat 1 0).toNat

/-- r × 12,288,000 / c, limited to MAX_DELAY before the narrowing (R131, R138 step 1); whether it was clamped. -/
def pairDelay (z : Zone) (r : Nat) : Nat × Bool :=
  if z.maxDelay * z.speed < r * 12288000 then (z.maxDelay, true) else ((divEven (r * 12288000 : Nat) z.speed).toNat, false)

/-- R138 step 2: at most 16 samples from the target of the block before; whether it was limited. -/
def slewDelay (prev : Option Nat) (d : Nat) : Nat × Bool :=
  match prev with
  | none => (d, false)
  | some p => if p + 2048 < d then (p + 2048, true) else if d + 2048 < p then (p - 2048, true) else (d, false)

/-- The DELAY gains of R132 for distances r (raw) and gain G. -/
def delayGains (rs : List Nat) (g : Int) (spread : Nat) : List Int :=
  let e := fxRat (32768 - spread : Nat) 32768
  let a := rs.map fun r => fxExp (-(fxMul e (fxLn (fxRat (max r 65536 : Nat) 65536))))
  let norm := fxSqrt (a.foldl (fun acc x => acc + fxMul x x) 0)
  a.map fun x => satS 32 (roundFx (g * fxDiv x norm) 0)

/-- x / √n narrowed to Q2.30. -/
def unitPart (x : Int) (n : Nat) : Int := satS 32 (roundFx (fxDiv (fxInt x) (fxSqrt (fxInt n))) 30)

/-- A vector scaled to unit length, component by component (R129). -/
def unitVec (p : Pos) : Pos :=
  let n := (p.x * p.x + p.y * p.y + p.z * p.z).toNat
  if n = 0 then {} else p.map fun c => unitPart c n

/-- The 3 × 3 inverse of a triangle (R133): the narrowed unit vectors, the exact determinant × 2^90 and the exact
adjugate × 2^60. -/
def triangleAdj (a b c : Pos) : Int × List Pos :=
  let l1 := unitVec a
  let l2 := unitVec b
  let l3 := unitVec c
  let cross (u v : Pos) : Pos := ⟨u.y * v.z - u.z * v.y, u.z * v.x - u.x * v.z, u.x * v.y - u.y * v.x⟩
  let r1 := cross l2 l3
  (l1.x * r1.x + l1.y * r1.y + l1.z * r1.z, [r1, cross l3 l1, cross l1 l2])

/-- An entry of the inverse narrowed to Q8.24. -/
def inverseEntry (det adj : Int) : Int := if det < 0 then divEven (-adj * 2 ^ 54) (-det).toNat else divEven (adj * 2 ^ 54) det.toNat

/-- A triangle that R133 rejects at load. -/
def triangleBad (a b c : Pos) : Bool :=
  let t := triangleAdj a b c
  let entry (v : Int) : Bool := decide (v * 2 ^ 30 < -128 * (t.1.natAbs : Int)) || decide (128 * (t.1.natAbs : Int) ≤ v * 2 ^ 30)
  let signed (v : Int) : Int := if t.1 < 0 then -v else v
  decide (a = {}) || decide (b = {}) || decide (c = {}) || decide (t.1.natAbs < 2 ^ 78) ||
  t.2.any fun r => entry (signed r.x) || entry (signed r.y) || entry (signed r.z)

/-- L⁻¹ v for a triangle, each component in Q10.22 (R134 step 4). -/
def triangleGains (a b c v : Pos) : Pos :=
  let t := triangleAdj a b c
  let row (r : Pos) : Int :=
    divEven (inverseEntry t.1 r.x * v.x + inverseEntry t.1 r.y * v.y + inverseEntry t.1 r.z * v.z) (2 ^ 32)
  match t.2 with
  | [r1, r2, r3] => ⟨row r1, row r2, row r3⟩
  | _ => {}

def Pos.least (p : Pos) : Int := min p.x (min p.y p.z)

/-- Step 4 of R134 for one direction: the chosen triangle with its gains, and whether none qualified. -/
def chooseTriangle (set : SpeakerSet) (v : Pos) : Option ((Nat × Nat × Nat) × Pos) × Bool :=
  let at' (i : Nat) : Pos := ((set.spk[i]?).map (·.2)).getD {}
  let all := set.tri.map fun t => (t, triangleGains (at' t.1) (at' t.2.1) (at' t.2.2) v)
  match all.find? fun e => decide (0 ≤ e.2.least) with
  | some e => (some e, false)
  | none =>
    let best := all.foldl (fun b e => match b with
      | none => some e
      | some x => if Pos.least x.2 < e.2.least then some e else some x) none
    (best.map fun (e : (Nat × Nat × Nat) × Pos) => (e.1, e.2.map (max 0)), true)

/-- The seven directions of R134 steps 2 and 3. -/
def ampDirections (p : Pos) (r0 spread : Nat) : List Pos :=
  let v := p.map fun c => satS 32 (roundFx (fxRat c r0) 30)
  let e1 : Pos := if v.x = 0 ∧ v.y = 0 then ⟨2 ^ 30, 0, 0⟩ else unitVec ⟨v.y, -v.x, 0⟩
  let e2 : Pos := (Pos.mk (v.y * e1.z - v.z * e1.y) (v.z * e1.x - v.x * e1.z) (v.x * e1.y - v.y * e1.x)).map
    fun c => satS 32 (divEven c (2 ^ 30))
  let cb := cosPi spread 65536
  let sb := sinPi spread 65536
  v :: (List.range 6).map fun (k : Nat) =>
    let c6 := cosPi (k : Int) 3
    let s6 := sinPi (k : Int) 3
    let part (a b c : Int) : Int := satS 32 (roundFx (cb * a + fxMul sb (c6 * b + s6 * c)) 0)
    ⟨part v.x e1.x e2.x, part v.y e1.y e2.y, part v.z e1.z e2.z⟩

/-- The AMP gains of R134, and whether a direction lay outside every triangle. -/
def ampGains (set : SpeakerSet) (p : Pos) (g : Int) (spread : Nat) : List Int × Bool :=
  let n := set.spk.length
  let r0 := p.norm
  let hs : List Int × Bool :=
    if r0 = 0 then (List.replicate n 1, false)
    else (ampDirections p r0 spread).foldl (fun acc v =>
      match chooseTriangle set v with
      | (none, o) => (acc.1, acc.2 || o)
      | (some (t, w), o) =>
        let u := unitVec w
        let add (l : List Int) (i : Nat) (x : Int) : List Int := l.set i (l.getD i 0 + x)
        (add (add (add acc.1 t.1 u.x) t.2.1 u.y) t.2.2 u.z, acc.2 || o)) (List.replicate n 0, false)
  let sum := (hs.1.foldl (fun a h => a + h * h) 0).toNat
  let norm := fxSqrt (fxInt sum)
  (if sum = 0 then hs.1.map fun _ => 0 else hs.1.map fun h => satS 32 (roundFx (fxDiv (fxInt (g * h)) norm) 0), hs.2)

/-- What the limits of R138 and R134 met while targets were formed. -/
structure GeometryCounts where
  clamp : Nat := 0
  slew : Nat := 0
  outside : Bool := false

/-- The targets of an object (R131 to R138): `prev` are those of the block before, none under R139. -/
def computeTargets (z : Zone) (set : SpeakerSet) (i : ObjInput) (prev : Option Targets) : Targets × GeometryCounts :=
  let rs := set.spk.map fun e => (Pos.zip (· - ·) e.2 i.pos).norm
  let usesDelay := i.law = 0 ∨ i.law = 2
  let usesAmp := i.law = 1 ∨ i.law = 2
  let old (low : Bool) (k : Nat) : Option Nat := match prev with
    | some t => ((if low then t.l else t.h)[k]?).map (·.1)
    | none => none
  let dly (low : Bool) : List (Nat × Bool × Bool) := rs.zipIdx.map fun e =>
    let c := pairDelay z e.1
    let w := slewDelay (old low e.2) c.1
    (w.1, c.2, w.2)
  let gD := if usesDelay then delayGains rs i.gain i.spread else []
  let amp := if usesAmp then ampGains set i.pos i.gain i.spread else ([], false)
  let d0 := pairDelay z i.pos.norm
  let shared (low : Bool) : List (Nat × Bool × Bool) := rs.zipIdx.map fun e =>
    let w := slewDelay (old low e.2) d0.1
    (w.1, d0.2 && decide (e.2 = 0), w.2 && decide (e.2 = 0))
  let hybrid := z.law = 2
  let hD := if i.law = 1 then shared false else dly false
  let hG := if i.law = 1 then amp.1 else gD
  let lD := if !hybrid then [] else if i.law = 0 then dly true else shared true
  let lG := if !hybrid then [] else if i.law = 0 then gD else amp.1
  let tally (f : Nat × Bool × Bool → Bool) (l : List (Nat × Bool × Bool)) : Nat := (l.filter f).length
  -- One target per pair and law counts once, whichever bands take it.
  let lCounts := if i.law = 2 then lD else []
  (⟨i.law, (hD.map (·.1)).zip hG, (lD.map (·.1)).zip lG⟩,
   ⟨tally (·.2.1) (hD ++ lCounts), tally (·.2.2) (hD ++ lCounts), amp.2⟩)

/-- The smallest and the largest ramped delay of the pairs with a gain at either end of the block (R140). -/
def spanOf (p c : List (Nat × Int)) : Option (Nat × Nat) :=
  (p.zip c).foldl (fun (a : Option (Nat × Nat)) (e : (Nat × Int) × Nat × Int) =>
    if e.1.2 = 0 ∧ e.2.2 = 0 then a
    else
      let lo := min e.1.1 e.2.1
      let hi := max e.1.1 e.2.1
      match a with
      | none => some (lo, hi)
      | some (x, y) => some (min x lo, max y hi)) none

/-! ### The interpolator: R141, R142 -/

/-- h_m[t] in Q2.30. -/
def interpCoef (m t : Nat) : Int :=
  if m = 0 then (if t = 3 then 2 ^ 30 else 0) else if m = 128 then (if t = 4 then 2 ^ 30 else 0) else Config.interpTap m t

/-- The interpolated sample at conditioned sample `k` and ramped delay `d` (1/4,096 sample), and whether it saturated. -/
def interpolate (c : HistChannel) (k d : Nat) : Int × Bool :=
  let f := d % 4096
  let m := f / 32
  let a : Int := f % 32
  let base : Int := (k : Int) - (d / 4096 : Nat)
  let term (t : Nat) : Int :=
    let h := interpCoef m t
    divEven ((h * 32 + a * (interpCoef (m + 1) t - h)) * c.sample (base - t)) (2 ^ 11)
  let v := divEven (wrap64 ((List.range 8).foldl (fun acc t => acc + term t) 0)) (2 ^ 24)
  (satQ31 v, decide (satQ31 v ≠ v))

/-- d(i) of R141. -/
def rampDelay (p d i : Nat) : Nat := ((32 * p : Int) + ((d : Int) - p) * (i + 1)).toNat
/-- g(i) of R141, in Q4.33. -/
def rampGain (p g : Int) (i : Nat) : Int := 32 * p + (g - p) * (i + 1)

/-! ### Mixes -/

/-- Add to a speaker column, wrapping (R145). -/
def Mix.add (m : Mix) (j : Nat) (xs : List Int) : Mix :=
  match Assoc.get? j m with
  | some ys => Assoc.put j (List.zipWith (fun a b => wrap64 (a + b)) ys xs) m
  | none => Assoc.put j xs m

def Mix.sum (a b : Mix) : Mix := b.foldl (fun m e => Mix.add m e.1 e.2) a

/-- Apply a function of the sample index to every column. -/
def Mix.scale (f : Nat → Int → Int) (m : Mix) : Mix := m.map fun e => (e.1, e.2.zipIdx.map fun x => f x.2 x.1)

/-- A linear factor of sample i as numerator over 32: out, in, or none. -/
def Shape.num (sh : Shape) (i : Nat) : Int := match sh with | .full => 32 | .out => 31 - i | .rampIn => i + 1 | .silent => 0

/-- MAC per pair-sample and per object-sample of R128, by law in force and zone law. -/
def macPair (law zone : Nat) : Nat :=
  match law, zone with | 0, 2 => 17 | 0, _ => 9 | 1, 2 => 2 | 1, _ => 1 | _, _ => 10
def macShared (law zone : Nat) : Nat := match law, zone with | 0, _ => 0 | 1, 2 => 16 | _, _ => 8

namespace State

/-! ### Plans: R139, R147 to R149, R174 -/

/-- The physical tile that hosts a logical tile (R126). -/
def logicalTile (s : State) (l : Nat) : LogicalTile := (Assoc.get? l s.rndr.logical).getD { host := some l }
def setLogical (s : State) (l : Nat) (x : LogicalTile) : State := { s with rndr := { s.rndr with logical := Assoc.put l x s.rndr.logical } }
/-- The physical tile that renders an object. -/
def hostOf (s : State) (n : Nat) : Option Nat := match s.tileOf n with | some e => (s.logicalTile e.tile).host | none => none

/-- The newest plan of an object for a version. -/
def lastPlan (s : State) (n uid : Nat) : Option BlockPlan := (s.obj n).plans.find? fun p => p.uid == uid
def planOf (s : State) (n uid b : Nat) : Option BlockPlan := (s.obj n).plans.find? fun p => p.uid == uid && p.block == b

/-- Count what the geometry of an object met, on its tile (R138, R134). -/
def countGeometry (s : State) (n : Nat) (g : GeometryCounts) : State :=
  let s := if g.outside then s.count Reg.RNDR_AMP_OUTSIDE else s
  match s.hostOf n with
  | some p => if s.objForeground n then s else
      let s := if g.clamp = 0 then s else s.countBy (Reg.TILE_CLAMP_COUNT p) g.clamp
      if g.slew = 0 then s else s.countBy (Reg.TILE_SLEW_COUNT p) g.slew
  | none => s

/-- The targets of a block before, by the positions of another set (R309): a pair is an object and an output, and a pair that the
old set did not give starts at its new target. -/
def carryTargets (was set : SpeakerSet) (old new : Targets) : Targets :=
  let carry (o n : List (Nat × Int)) : List (Nat × Int) := (set.spk.zip n).map fun e =>
    match was.spk.findIdx? fun k => k.1 == e.1.1 with
    | some i => o.getD i e.2
    | none => e.2
  ⟨old.law, carry old.h new.h, carry old.l new.l⟩

/-- The plan of object `n` in version `v` for block `b`: targets of an input, or those held by a TELEPORT or a change of
law (R113, R139). -/
def planObject (s : State) (v : Version) (n b : Nat) (i : ObjInput) (breaks : Bool) : State :=
  match s.objZone v b n with
  | none => s
  | some (z, set) =>
    let last := s.lastPlan n v.uid
    let add (t : State) (p : BlockPlan) : State := t.setObj n { t.obj n with plans := (p :: (t.obj n).plans).take 8 }
    match last with
    | none =>
      let r := computeTargets z set i none
      add (s.countGeometry n r.2) ⟨b, v.uid, r.1, r.1, .full⟩
    | some p =>
      let silent := p.shape == .out || p.shape == .silent
      let was := match s.objZone v p.block n with | some (_, k) => k | none => set
      let mute (l : List (Nat × Int)) : List (Nat × Int) := if l.isEmpty then [] else set.spk.map fun _ => (0, 0)
      if breaks then
        let held := if was = set then p.cur else carryTargets was set p.cur ⟨p.cur.law, mute p.cur.h, mute p.cur.l⟩
        add s ⟨b, v.uid, held, held, if silent then .silent else .out⟩
      else if silent then
        let r := computeTargets z set i none
        add (s.countGeometry n r.2) ⟨b, v.uid, r.1, r.1, .rampIn⟩
      else
        if p.cur.law ≠ i.law then
          let r := computeTargets z set i none
          add (s.countGeometry n r.2) ⟨b, v.uid, r.1, r.1, .full⟩
        else
          let prev := if was = set then p.cur else carryTargets was set p.cur (computeTargets z set i none).1
          let r := computeTargets z set i (some prev)
          add (s.countGeometry n r.2) ⟨b, v.uid, prev, r.1, .full⟩

/-- The versions whose groups hold an object and that render block `b`. -/
def objVersions (s : State) (n b : Nat) : List Version := s.pat.versions.filter fun v => (v.groupOf n).isSome && v.runs b

/-- The law an object has in force in a version (R101, R137). -/
def lawIn (s : State) (v : Version) (b n law : Nat) : Nat :=
  if law = 0 then (match s.objZone v b n with | some (z, _) => z.law | none => 0) else law - 1

/-- The plans of object `n` for block `b` from an input, in every version that renders it; `teleport` and a change of
the law in force break the ramps. -/
def planAll (s : State) (n b : Nat) (i : ObjInput) (teleport : Bool) : State :=
  let o := s.obj n
  let was := ((o.metas.drop 1).head?).map (·.input.law)
  let law := match o.metas.head? with | some m => m.input.law | none => i.law
  let changed := match was with | some w => w != law | none => false
  let s := if changed then s.count Reg.RNDR_LAW_SWITCH else s
  s.over (s.objVersions n b) fun t v => t.planObject v n b { i with law := t.lawIn v b n (t.obj n).law } (teleport || changed)

/-- Report the spans of an object's newest plans to the pager (R140, R182). -/
def reportSpan (s : State) (n b : Nat) : State :=
  let o := s.obj n
  let ps := o.plans.filter fun p => p.block == b
  let off : Nat := if s.bitOf (Reg.OBJ_STATUS n) 2 then 7168 else 0
  let join (f : BlockPlan → Option (Nat × Nat)) : Option (Nat × Nat) := ps.foldl (fun a p => match a, f p with
    | some (x, y), some (u, w) => some (min x u, max y w)
    | none, r => r
    | r, none => r) none
  let put (t : State) (k : Nat) (r : Option (Nat × Nat)) : State :=
    if (Assoc.get? k t.skein.hist).isSome then t.setHist k { t.histCh k with span := r.map fun e => (e.1 + off, e.2 + off) } else t
  let s := put s (2 * n) (join fun p => spanOf p.prev.h p.cur.h)
  put s (2 * n + 1) (join fun p => spanOf p.prev.l p.cur.l)

/-- Reads of a pair in block `b` touch a denied page of channel `k` (R174). -/
def touchesDenied (s : State) (k b : Nat) (p c : Nat × Int) (off : Nat) : Bool :=
  let ch := s.histCh k
  if p.2 = 0 ∧ c.2 = 0 then false
  else
    let lo : Int := 32 * b - ((max p.1 c.1 + off) / 128 : Nat) - 8
    let hi : Int := 32 * b + 31 - ((min p.1 c.1 + off) / 128 : Nat)
    (pagesFrom lo hi).any ch.denied.contains

/-- Starvation of an object's pairs at the end of step 4 (R174, R175): the plan with held delays and zero gains, and how
many pairs enter. -/
def starveObject (s : State) (n b : Nat) : State × Nat × Nat :=
  let o := s.obj n
  let off : Nat := if s.bitOf (Reg.OBJ_STATUS n) 2 then 7168 else 0
  match o.plans.find? fun p => p.block == b with
  | none => (s, 0, 0)
  | some p =>
    let size := p.cur.h.length
    let hit (i : Nat) : Bool :=
      let t (k : Nat) (a d : List (Nat × Int)) : Bool := match a[i]?, d[i]? with
        | some x, some y => s.touchesDenied k b x y off
        | _, _ => false
      t (2 * n) p.prev.h p.cur.h || t (2 * n + 1) p.prev.l p.cur.l
    let now := (List.range size).filter hit
    let fresh := now.filter fun i => !o.starved.contains i
    let fix (a c : List (Nat × Int)) : List (Nat × Int) × List (Nat × Int) :=
      let r := (a.zip c).zipIdx.map fun e =>
        if now.contains e.2 then ((e.1.1.1, if o.starved.contains e.2 then 0 else e.1.1.2), (e.1.1.1, (0 : Int)))
        else if o.starved.contains e.2 then ((e.1.2.1, (0 : Int)), e.1.2)
        else (e.1.1, e.1.2)
      (r.map (·.1), r.map (·.2))
    let h := fix p.prev.h p.cur.h
    let l := fix p.prev.l p.cur.l
    let p' := { p with prev := { p.prev with h := h.1, l := l.1 }, cur := { p.cur with h := h.2, l := l.2 } }
    let s := if now.isEmpty && o.starved.isEmpty then s
      else s.setObj n { o with starved := now, plans := o.plans.map fun q => if q = p then p' else q }
    let s := if fresh.isEmpty then s else (s.countBy Reg.SKEIN_STARVE_STARTS fresh.length).objSticky n 4
    (s, fresh.length, now.length)

/-- The tests of R149 on a speculative and a merged input; `switches` tells of a class, enable or delay switch at the
block. -/
def specCommits (s : State) (spec merged : ObjInput) (teleport switches : Bool) : Bool :=
  let d := Pos.zip (· - ·) spec.pos merged.pos
  let d2 := d.x * d.x + d.y * d.y + d.z * d.z
  let tol : Int := s.rf Reg.RNDR_TOL_POS 15 0
  let a := merged.gain.natAbs
  let b := spec.gain.natAbs
  decide (spec.law = merged.law) && decide (spec.spread = merged.spread) && decide (spec.gain.sign = merged.gain.sign) &&
  !teleport && !switches && decide (d2 * 1000000000000 ≤ tol * tol * 2 ^ 32) &&
  ((a == 0 && b == 0) || (a != 0 && b != 0 && decide (max a b * s.rndr.tolGain ≤ min a b * 2 ^ 31)))

/-- A write of TOL_GAIN (R149): K = 10^(−TOL_GAIN / 20,000) in UQ1.31. -/
def tolGainWrite (s : State) (v : Word) : State :=
  let s := s.wr Reg.RNDR_TOL_GAIN (v &&& 0xFFFF)
  { s with rndr := { s.rndr with tolGain := (pow10Round (-(fld v 15 0 : Int)) 20000 31).toNat } }

/-- Step 1 of R147: speculative inputs of block `b`, and their spans to the pager. -/
def speculate (s : State) (b : Nat) : State :=
  if !s.bitOf Reg.RNDR_CTRL 0 then (s.clrBit Reg.RNDR_STATUS 12)
  else
    let ns := (s.omd.obj.map (·.1)).filter fun n => s.inGroup n && !s.objForeground n
    let s := { s with skein := { s.skein with lowBefore := s.rf Reg.SKEIN_LOW_RET 15 0 } }
    let s := s.over ns fun t n =>
      let i := t.predictInput n b
      let t := t.setObj n { t.obj n with spec := some i }
      -- The spans of the speculative targets, from a plan that is not kept.
      let u := (t.over (t.objVersions n b) fun u v => u.planObject v n b { i with law := u.lawIn v b n (u.obj n).law } false).reportSpan n b
      { t with skein := u.skein }
    (s.putBit Reg.RNDR_STATUS 12 (!ns.isEmpty)).when (s.bitOf Reg.SKEIN_CTRL 0) (·.pagerPass b true false)

/-- Object `n` at the block-class cut-off of block `b` (R109, R149). The boolean reports a cancellation. -/
def cutoffObject (s : State) (n b : Nat) : State × Bool :=
  let o := s.obj n
  let r := s.mergeObject n b
  let s := r.1
  let merged := ((s.obj n).metas.head?.map (·.input)).getD {}
  let switches := o.enableAt == some b || (match o.switching with | some (k, _, _) => k == b | none => false)
  let commits := match o.spec with | some i => s.specCommits i merged r.2.teleport switches | none => false
  let tested := r.2.any && o.spec.isSome
  let s := if tested then
      if commits then s.count Reg.RNDR_SPEC_COMMIT
      else
        let t := s.count Reg.RNDR_SPEC_CANCEL
        match t.hostOf n with | some p => t.count (Reg.TILE_SPEC_CANCEL p) | none => t
    else s
  let input := match o.spec with | some i => if commits || !r.2.any then i else merged | none => merged
  let s := s.setObj n { s.obj n with spec := none }
  let s := (s.planAll n b input r.2.teleport).reportSpan n b
  (s, tested && !commits)

/-- The block-class cut-off of block `b` (R109, R147 steps 3 and 4, R174, R175, R207). -/
def blockCutoff (s : State) (b : Nat) : State :=
  let ns := (s.omd.obj.map (·.1)).filter fun n => s.inGroup n && !((s.obj n).metas.any fun m => m.block == b)
  let r := ns.foldl (fun (a : State × Bool) n => let x := a.1.cutoffObject n b; (x.1, a.2 || x.2)) (s, false)
  let s := if r.2 then r.1.event 37 else r.1
  let s := s.pagerPass b false false
  let s := s.countBy Reg.SCHED_SPEC_PREFETCH (s.rf Reg.SKEIN_LOW_RET 15 0 - s.skein.lowBefore)
  let all := (s.omd.obj.map (·.1)).filter s.inGroup
  let r := all.foldl (fun (a : State × Nat × Nat) n => let x := a.1.starveObject n b; (x.1, a.2.1 + x.2.1, a.2.2 + x.2.2)) (s, 0, 0)
  let s := if 0 < r.2.1 then r.1.event 195 else r.1
  (s.wr Reg.SKEIN_STARVED_NOW (BitVec.ofNat 32 r.2.2)).putBit Reg.SKEIN_STATUS 1 (decide (0 < r.2.2))

/-! ### Rendering a block: R141 to R146 -/

/-- The ramps on an object's contribution to block `b` in a path: R97, R113, R119, R190. -/
def objFactors (s : State) (n b : Nat) (p : BlockPlan) (foreground comp : Bool) : List Shape :=
  let o := s.obj n
  let enabled := s.objEnabled n
  [p.shape] ++
  (if o.enableAt = some b then [if enabled then .rampIn else .out] else if enabled then [] else [.silent]) ++
  (match o.switching with
   | some (k, fg, dly) =>
     if k = b then
       (if s.objForeground n == foreground && s.bitOf (Reg.OBJ_STATUS n) 2 == comp then [Shape.rampIn]
        else if fg == foreground && (fg && dly) == comp then [.out] else [.silent])
     else if s.objForeground n == foreground then [] else [.silent]
   | none => if s.objForeground n == foreground then [] else [.silent]) ++
  (match o.needleOut, o.needleIn with
   | some k, some j => if b < k then [] else if b = k then [.out] else if b < j then [.silent] else if b = j then [.rampIn] else []
   | some k, none => if b < k then [] else if b = k then [.out] else [.silent]
   | none, _ => [])

/-- The samples of one delay track of a band, and how many saturated. -/
def trackSamples (s : State) (key b first count off : Nat) (p d : Nat) : List (Int × Bool) :=
  let c := s.histCh key
  (List.range count).map fun i => interpolate c (32 * b + first + i) (rampDelay p d (first + i) + off)

/-- Distinct delay tracks of a band that have a gain. -/
def tracksOf (p c : List (Nat × Int)) : List (Nat × Nat) :=
  ((p.zip c).filter fun e => !(decide (e.1.2 = 0) && decide (e.2.2 = 0))).map (fun e => (e.1.1, e.2.1)) |>.eraseDups

/-- The contribution of an object to the columns of its set over samples `first` to `first + count − 1` of block `b`
(R145), by position in the set; the saturations; the pairs rendered. `slice` limits the speakers (R184). -/
def renderObject (s : State) (n b first count off : Nat) (p : BlockPlan) (factors : List Shape) (lo hi : Nat) :
    List (Nat × List Int) × Nat × Nat :=
  let band (key : Nat) (a c : List (Nat × Int)) : List (Nat × List Int) × Nat :=
    let a := (a.drop lo).take (hi - lo)
    let c := (c.drop lo).take (hi - lo)
    let ts := (tracksOf a c).map fun t => (t, s.trackSamples key b first count off t.1 t.2)
    let sats := ts.foldl (fun acc t => acc + (t.2.filter (·.2)).length) 0
    let out := ((a.zip c).zipIdx.filter fun e => !(decide (e.1.1.2 = 0) && decide (e.1.2.2 = 0))).map fun e =>
      let xs := ((ts.find? fun t => t.1 == (e.1.1.1, e.1.2.1)).map (·.2)).getD []
      (lo + e.2, xs.zipIdx.map fun x => divEven (rampGain e.1.1.2 e.1.2.2 (first + x.2) * x.1.1) (2 ^ 9))
    (out, sats)
  let h := band (2 * n) p.prev.h p.cur.h
  let l := band (2 * n + 1) p.prev.l p.cur.l
  let both : Mix := l.1.foldl (fun m e => Mix.add m e.1 e.2) h.1
  let factors := factors.filter (· != .full)
  let shaped := if factors.isEmpty then both
    else Mix.scale (fun i x => divEven (factors.foldl (fun a sh => a * sh.num (first + i)) x) (32 ^ factors.length)) both
  (shaped, h.2 + l.2, both.length)

/-- Pages that the reads of samples `first` on of block `b` reach and whose DRAM read has not completed (R173). -/
def pageWaits (s : State) (n b first count off : Nat) (p : BlockPlan) : Nat :=
  let one (key : Nat) (a c : List (Nat × Int)) : Nat :=
    let ch := s.histCh key
    let ps := ((tracksOf a c).map fun t =>
      pagesFrom ((32 * b + first : Nat) - ((max t.1 t.2 + off) / 128 : Nat) - 8) ((32 * b + first + count - 1 : Nat) - ((min t.1 t.2 + off) / 128 : Nat))).flatten.eraseDups
    (ps.filter fun x => ch.pages.any fun y => y.idx == x && !y.loaded).length
  one (2 * n) p.prev.h p.cur.h + one (2 * n + 1) p.prev.l p.cur.l

/-- Set positions to speaker outputs. -/
def toOutputs (set : SpeakerSet) (l : List (Nat × List Int)) : Mix :=
  l.foldl (fun m e => match set.spk[e.1]? with | some x => Mix.add m x.1 e.2 | none => m) []

/-- The partial mix of a logical tile for audio block `b` (R127, R145), with the tile's counters. -/
def renderTile (s : State) (v : Version) (e : TileEntry) (b : Nat) : State × Mix :=
  let objs := ((List.range e.count).map (e.first + ·)).filter fun n => !(s.cas.jobs.any fun j => j.block == b && j.params.n == n)
  let r := objs.foldl (fun (a : Mix × Nat × Nat × Nat) n =>
    match s.planOf n v.uid b, s.objZone v b n with
    | some p, some (z, set) =>
      let f := s.objFactors n b p false false
      if f.any (· == .silent) then a
      else
        let x := s.renderObject n b 0 32 0 p f 0 set.spk.length
        (Mix.sum a.1 (toOutputs set x.1), a.2.1 + x.2.1, a.2.2.1 + x.2.2,
         a.2.2.2 + 32 * (x.2.2 * macPair p.cur.law z.law + macShared p.cur.law z.law))
    | _, _ => a) ([], 0, 0, 0)
  let waits := objs.foldl (fun a n => match s.planOf n v.uid b with | some p => a + s.pageWaits n b 0 32 0 p | none => a) 0
  let s := if waits = 0 then s else s.countBy Reg.SKEIN_PAGEIN_WAITS waits
  match (s.logicalTile e.tile).host with
  | none => (s, r.1)
  | some p =>
    let s := if r.2.1 = 0 then s else s.countBy (Reg.TILE_SAT_COUNT p) r.2.1
    let s := s.wr (Reg.TILE_PAIRS p) (BitVec.ofNat 32 r.2.2.1)
    let load := min 1000 (r.2.2.2 * 1000 / 8388608)
    let s := s.wf (Reg.TILE_LOAD p) 9 0 load
    let s := s.wf (Reg.TILE_LOAD p) 25 16 (max load (s.rf (Reg.TILE_LOAD p) 25 16))
    -- Waits on banks depend on timing that the manual does not give: a free number.
    ((s.countBy (Reg.TILE_BANK_STALLS p) s.freeWord.toNat).bumpFree, r.1)

/-- What a logical tile gives the reduction network for audio block `b` during a takeover (R317, R318). -/
def takeoverMix (s : State) (t b : Nat) (own : Mix) : Mix :=
  match (s.logicalTile t).fault with
  | none => if (s.logicalTile t).host.isNone then [] else own
  | some f =>
    if b < f then own
    else if b = f then
      match Assoc.get? t s.rndr.partials with
      | some (_, m) => Mix.scale (fun i x => divEven (x * (31 - i)) 32) m
      | none => []
    else if b < f + 3 || (s.logicalTile t).host.isNone then [] else own

/-- The block-class feeds of audio block `b` before concealment (R146, R303). -/
def renderBlock (s : State) (b : Nat) : State :=
  let work := (s.pat.versions.filter fun v => v.runs b).map fun v => v.region.tileMap.map fun e => (v, e)
  let r := work.flatten.foldl (fun (a : State × Mix × Nat × List (Nat × Nat × Mix)) (ve : Version × TileEntry) =>
    let x := a.1.renderTile ve.1 ve.2 b
    let m := s.takeoverMix ve.2.tile b x.2
    let w := Mix.scale (fun i y => ve.1.weigh b i y) m
    let n := x.2.length
    (x.1, Mix.sum a.2.1 w, a.2.2.1 + n, a.2.2.2 ++ [(ve.2.tile, ve.1.uid, m)])) (s, [], 0, [])
  let s := r.1
  let partials := r.2.2.2.foldl (fun p e => Assoc.put e.1 e.2 p) ([] : List (Nat × Nat × Mix))
  let pairs := r.2.2.2.foldl (fun a e => match (s.logicalTile e.1).host with | some p => a + s.rf (Reg.TILE_PAIRS p) 13 0 | none => a) 0
  let s := s.wr Reg.RNDR_PAIRS_LAST (BitVec.ofNat 32 pairs)
  { s with rndr := { s.rndr with partials := partials, feeds := ((b, r.2.1) :: s.rndr.feeds).take 4 } }

/-- RNDR.CMD.CLEAR_COUNTS and TILE[p].CMD.CLEAR_COUNTS (R153, R155). PAIRS, LOAD.LAST and the states are no counters. -/
def tileClearCounts (s : State) (p : Nat) : State :=
  (s.resetRegs [Reg.TILE_PARITY_COUNT p, Reg.TILE_KAT_PASS p, Reg.TILE_KAT_FAIL p, Reg.TILE_BANK_STALLS p, Reg.TILE_SAT_COUNT p,
    Reg.TILE_SLEW_COUNT p, Reg.TILE_CLAMP_COUNT p, Reg.TILE_SPEC_CANCEL p]).wf (Reg.TILE_LOAD p) 25 16 0
def rndrClearCounts (s : State) : State :=
  (s.resetRegs [Reg.RNDR_SPEC_COMMIT, Reg.RNDR_SPEC_CANCEL, Reg.RNDR_LAW_SWITCH, Reg.RNDR_AMP_OUTSIDE]).over
    (List.range s.dev.part.tiles) tileClearCounts

end State

end Sys2Proof.Machine
end

