-- ==== Sys2Proof/Machine/Needles.lean ====
section
/-! DEFINITION. Foreground rendering: home Needles (R179), the Foreground cut-off (R180 to R182), micro-blocks, work
units and stealing (R183 to R186), the Foreground mix (R187, R188), and Needle faults (R190). -/

namespace Sys2Proof.Machine

/-- A deque: its units, bottom first. -/
abbrev Deques := List (Nat × List WorkUnit)

/-- What the Needles did in a micro-block, by Needle. -/
structure StealTally where
  deques : Deques
  units : List (Nat × WorkUnit) := []
  steals : List Nat := []
  stolen : List Nat := []
  fails : List Nat := []

def StealTally.size (t : StealTally) (h : Nat) : Nat := ((Assoc.get? h t.deques).getD []).length

/-- The owner takes its newest unit. -/
def StealTally.pop (t : StealTally) (h : Nat) : StealTally :=
  match (Assoc.get? h t.deques).getD [] with
  | [] => t
  | u :: r => { t with deques := Assoc.put h r t.deques, units := (h, u) :: t.units }

/-- A thief takes the oldest unit of a victim. -/
def StealTally.steal (t : StealTally) (h v : Nat) : StealTally :=
  match ((Assoc.get? v t.deques).getD []).reverse with
  | [] => t
  | u :: r => { t with deques := Assoc.put v r.reverse t.deques, units := (h, u) :: t.units, steals := h :: t.steals, stolen := v :: t.stolen }

/-- One thief's pass over its victims in a cycle (R185, R186): `sizes` are the deques at the start of the cycle, `popped`
the owners that took an entry in it, `robbed` the deques already stolen from in it. -/
def thiefPass (sizes : List (Nat × Nat)) (popped : List Nat) (h : Nat) : List Nat → StealTally × List Nat → StealTally × List Nat
  | [], a => a
  | v :: r, a =>
    let n := (Assoc.get? v sizes).getD 0
    if n = 0 then thiefPass sizes popped h r a
    else if a.2.contains v || (popped.contains v && n == 1) then
      thiefPass sizes popped h r ({ a.1 with fails := h :: a.1.fails }, a.2)
    else (a.1.steal h v, v :: a.2)

/-- The ring of victims of a Needle among the live ones (R185). -/
def victims (live : List Nat) (h : Nat) : List Nat := (live.filter fun v => decide (h < v)) ++ live.filter fun v => decide (v < h)

/-- The Needles of `claim` each take a unit in the same cycle: owners first, then thieves by number (R186). -/
def stealCycle (live mayteal claim : List Nat) (t : StealTally) : StealTally :=
  let sizes := t.deques.map fun e => (e.1, e.2.length)
  let owners := claim.filter fun h => decide (0 < (Assoc.get? h sizes).getD 0)
  let thieves := (live.filter claim.contains).filter fun h => !owners.contains h && mayteal.contains h
  let t := owners.foldl StealTally.pop t
  (thieves.foldl (fun a h => thiefPass sizes owners h (victims live h) a) (t, [])).1

/-- Owners finish what is left, each its own newest first. -/
def drainOwn (live : List Nat) : Nat → StealTally → StealTally
  | 0, t => t
  | f + 1, t => drainOwn live f (live.foldl StealTally.pop t)

namespace State

def needle (s : State) (h : Nat) : NeedleState := (Assoc.get? h s.ndl.needles).getD {}
def setNeedle (s : State) (h : Nat) (x : NeedleState) : State := { s with ndl := { s.ndl with needles := Assoc.put h x s.ndl.needles } }

/-- Foreground objects in ascending number. -/
def foregroundObjects (s : State) : List Nat := (s.omd.obj.map (·.1)).filter fun n => s.inGroup n && s.objForeground n

/-- R179 at a block boundary: home Needles and HOME_COUNT, and the objects beyond the limit (R190). -/
def assignHomes (s : State) : State :=
  let live := s.liveNeedles
  let fg := s.foregroundObjects
  let home := fg.zipIdx.map fun e => (e.1, live.getD (e.2 % max live.length 1) 0)
  let s := { s with ndl := { s.ndl with home := if live.isEmpty then [] else home, unranked := fg.drop s.foregroundLimit } }
  s.over (List.range s.dev.part.needles) fun t h => t.wf (Reg.NDL_STATUS h) 14 8 (t.ndl.home.filter fun e => e.2 == h).length

/-- An object whose class at the cut-off of block `b` is Foreground: it is, or a change to Foreground applies at `b`
(R180, R181). -/
def foregroundAt (s : State) (n b : Nat) : Bool :=
  s.objForeground n || (s.bitOf (Reg.OBJ_CTRL n) 1 && (s.omd.bank.due b).1.contains (Reg.OBJ_CTRL n))

/-- Every page that a channel needs for block `b` is on chip (R190). -/
def windowResident (s : State) (k b : Nat) : Bool :=
  let c := s.histCh k
  (window b s.lead c.span).need.all fun p => c.pages.any fun x => x.idx == p && x.loaded

/-- The Foreground cut-off of block `b` (R180 to R182). -/
def foregroundCutoff (s : State) (b : Nat) : State :=
  let ns := (s.omd.obj.map (·.1)).filter fun n => s.inGroup n && s.foregroundAt n b && !((s.obj n).metas.any fun m => m.block == b)
  let s := s.over ns fun t n =>
    let r := t.mergeObject n b
    let input := ((r.1.obj n).metas.head?.map (·.input)).getD {}
    (r.1.planAll n b input r.2.teleport).reportSpan n b
  let s := s.pagerPass b false true
  let r := ns.foldl (fun (a : State × Nat) n => let x := a.1.starveObject n b; (x.1, a.2 + x.2.1)) (s, 0)
  let s := if 0 < r.2 then r.1.event 195 else r.1
  s.over ns fun t n =>
    let o := t.obj n
    match o.needleOut, o.needleIn with
    | some k, none => if k < b ∧ t.windowResident (2 * n) b then t.setObj n { o with needleIn := some b } else t
    | some _, some j => if j < b then t.setObj n { o with needleOut := none, needleIn := none } else t
    | _, _ => t

/-! ### Micro-blocks -/

/-- The work units of an object in a micro-block: one for each 64 speakers of its set (R184). -/
def unitsOf (s : State) (n b : Nat) : List WorkUnit :=
  let size := (s.objVersions n b).foldl (fun a v => match s.objZone v b n with | some (_, k) => max a k.spk.length | none => a) 0
  (List.range ((size + 63) / 64)).map fun i => ⟨n, i⟩

/-- Objects that have a Foreground path in block `b`: the class, or the old class of a switch at `b` (R119). -/
def foregroundPath (s : State) (n b : Nat) : Bool :=
  s.objForeground n || (match (s.obj n).switching with | some (k, fg, _) => k == b && fg | none => false)

/-- The Foreground contribution of an object to samples `first` to `first + 3` of block `b` in one version, with both
configurations of a switch (R119, R188). -/
def foregroundMixOf (s : State) (n b first : Nat) (v : Version) : Mix × Nat :=
  match s.planOf n v.uid b, s.objZone v b n with
  | some p, some (_, set) =>
    let one (comp : Bool) : Mix × Nat :=
      let f := s.objFactors n b p true comp
      if f.any (· == .silent) then ([], 0)
      else
        let r := s.renderObject n b first 4 (if comp then 229376 else 0) p f 0 set.spk.length
        (toOutputs set r.1, r.2.1)
    let comp := s.bitOf (Reg.OBJ_STATUS n) 2
    let now := one comp
    match (s.obj n).switching with
    | some (k, true, dly) =>
      if k = b ∧ (dly != comp || !s.objForeground n) then
        let old := one dly
        (Mix.sum now.1 old.1, now.2 + old.2)
      else now
    | _ => now
  | _, _ => ([], 0)

/-- MICRO_BLOCK (R183 to R188): the micro-block whose samples end before the present tick. `claims` gives, cycle by
cycle, the Needles that take their next unit (R185 leaves the speed of each to it); `late` the Needles that finished
after step 6. -/
def microBlock (s : State) (claims : List (List Nat)) (late : List Nat) : State :=
  let t0 := s.tick - 4
  let b := t0 / 32
  let first := t0 % 32
  let fg := (s.omd.obj.map (·.1)).filter fun n => s.inGroup n && s.foregroundPath n b
  let s := s.over fg fun t n => t.runStage n b first 4
  let live := s.liveNeedles
  let active := (fg.filter fun n => !s.ndl.unranked.contains n)
  let home (n : Nat) : Nat := (Assoc.get? n s.ndl.home).getD (live.headD 0)
  -- Units are pushed in ascending object and slice, so the newest lies at the bottom end.
  let deques : Deques := live.map fun h => (h, ((active.filter fun n => home n == h).map fun n => s.unitsOf n b).flatten.reverse)
  let maySteal := live.filter fun h => s.bitOf (Reg.NDL_CTRL h) 1
  let t := claims.foldl (fun t c => stealCycle live maySteal c t) { deques := deques }
  let t := drainOwn live 600 t
  let s := s.over live fun u h =>
    let n := ((Assoc.get? h deques).getD []).length
    let mine := (t.units.filter fun e => e.1 == h).length
    let u := u.wf (Reg.NDL_STATUS h) 22 16 (min n 64)
    let u := u.maxReg (Reg.NDL_DEQUE_MAX h) (min n 64)
    let u := u.countBy (Reg.NDL_UNITS h) mine
    let u := u.countBy (Reg.NDL_STEALS h) (t.steals.filter (· == h)).length
    let u := u.countBy (Reg.NDL_STOLEN h) (t.stolen.filter (· == h)).length
    let u := u.countBy (Reg.NDL_STEAL_FAILS h) (t.fails.filter (· == h)).length
    let u := if late.contains h && decide (0 < mine) then u.count (Reg.NDL_LATE_MB h) else u
    let waits := (t.units.filter fun e => e.1 == h && e.2.slice == 0).foldl (fun a e =>
      (u.objVersions e.2.obj b).foldl (fun a v => match u.planOf e.2.obj v.uid b with
        | some p => a + u.pageWaits e.2.obj b first 4 (if u.bitOf (Reg.OBJ_STATUS e.2.obj) 2 then 7168 else 0) p
        | none => a) a) 0
    let u := if waits = 0 then u else (u.countBy (Reg.NDL_PAGEIN_WAITS h) waits).countBy Reg.SKEIN_PAGEIN_WAITS waits
    let macs := (t.units.filter fun e => e.1 == h).foldl (fun a e =>
      (u.objVersions e.2.obj b).foldl (fun a v => match u.objZone v b e.2.obj, u.planOf e.2.obj v.uid b with
        | some (z, k), some p => a + 4 * (min 64 (k.spk.length - 64 * e.2.slice) * macPair p.cur.law z.law + macShared p.cur.law z.law)
        | _, _ => a) a) 0
    let u := { u with ndl := { u.ndl with macs := Assoc.put h ((Assoc.get? h u.ndl.macs).getD 0 + macs) u.ndl.macs } }
    -- Which pages lie outside a Needle's own SRAM is the allocator's: a free number.
    if mine = 0 then u else (u.countBy (Reg.NDL_REMOTE_READS h) u.freeWord.toNat).bumpFree
  let mix := active.foldl (fun (m : Mix) n => (s.objVersions n b).foldl (fun m v =>
    Mix.sum m (Mix.scale (fun i x => v.weigh b (first + i) x) (s.foregroundMixOf n b first v).1)) m) []
  { s with ndl := { s.ndl with mix := ((t0, mix) :: s.ndl.mix).take 4 } }

/-- The Foreground column j of conditioned sample k (R187). -/
def foregroundColumn (s : State) (j k : Nat) : Int :=
  match Assoc.get? (k / 4 * 4) s.ndl.mix with
  | some m => ((Assoc.get? j m).getD []).getD (k % 4) 0
  | none => 0

/-! ### Faults and tests: R190, R191 -/

/-- NDL[h].CMD.FENCE: at the next block boundary (R190). -/
def needleFence (s : State) (h : Nat) : State := s.setNeedle h { s.needle h with fenceDue := true }

/-- A parity error, or a failed test (R190). -/
def needleFault (s : State) (h : Nat) (parity : Bool) : State :=
  if h < s.dev.part.needles then (s.count (if parity then Reg.NDL_PARITY_COUNT h else Reg.NDL_KAT_FAIL h)).needleFence h else s

/-- NDL[h].CMD.KAT_NOW: a test runs in the next idle slot. -/
def needleKatNow (s : State) (h : Nat) : State := s.setNeedle h { s.needle h with katDue := true }

/-- A known-answer test of Needle h ends: the one of the 10 s timer while KAT_EN is 1, or one asked by KAT_NOW. -/
def needleTest (s : State) (h : Nat) (passed : Bool) : State :=
  if h < s.dev.part.needles ∧ (s.bitOf (Reg.NDL_CTRL h) 0 ∨ (s.needle h).katDue) then
    let s := s.setNeedle h { s.needle h with katDue := false }
    if passed then s.count (Reg.NDL_KAT_PASS h)
    else if s.rf (Reg.NDL_STATUS h) 2 0 = 2 then s.count (Reg.NDL_KAT_FAIL h)
    else s.needleFault h false
  else s

/-- The fence of Needle h at the boundary that starts block `b` (R190). -/
def fenceNeedle (s : State) (h b : Nat) : State :=
  let s := s.setNeedle h { s.needle h with fenceDue := false }
  if s.rf (Reg.NDL_STATUS h) 2 0 = 2 then s
  else
    let s := (s.wf (Reg.NDL_STATUS h) 2 0 2).event 23
    let s := ((s.wf Reg.SKEIN_TOTAL 15 0 (s.rf Reg.SKEIN_TOTAL 15 0 - 64)).wf Reg.SKEIN_NEEDLE_TIER 15 0
      (s.rf Reg.SKEIN_NEEDLE_TIER 15 0 - 64)).setFree (s.skeinFree - 64)
    let s := s.wr (Reg.NDL_PAGES h) 0
    s.over ((s.ndl.home.filter fun e => e.2 == h).map (·.1)) fun t n =>
      let t := t.setObj n { t.obj n with needleOut := some b, needleIn := none }
      t.over [2 * n, 2 * n + 1] fun u k =>
        if (Assoc.get? k u.skein.hist).isSome then
          u.setHist k { u.histCh k with pages := (u.histCh k).pages.map fun p => { p with loaded := false } }
        else u

/-- The Needles at the boundary that starts block `b`: fences, homes, and the load of the block before. -/
def needleBoundary (s : State) (b : Nat) : State :=
  let s := s.over ((s.ndl.needles.filter fun e => e.2.fenceDue).map (·.1)) fun t h => t.fenceNeedle h b
  let s := s.over (List.range s.dev.part.needles) fun t h =>
    let load := min 1000 ((Assoc.get? h t.ndl.macs).getD 0 * 1000 / 16777216)
    (t.wf (Reg.NDL_LOAD h) 9 0 load).wf (Reg.NDL_LOAD h) 25 16 (max load (t.rf (Reg.NDL_LOAD h) 25 16))
  let s := { s with ndl := { s.ndl with macs := [] } }
  let s := s.assignHomes
  -- A home Needle's SRAM holds its objects' pages up to its 64 (R157).
  s.over s.liveNeedles fun t h =>
    let held := (t.ndl.home.filter fun e => e.2 == h).foldl (fun a e => a + (t.histCh (2 * e.1)).pages.length + (t.histCh (2 * e.1 + 1)).pages.length) 0
    t.wr (Reg.NDL_PAGES h) (BitVec.ofNat 32 (min held 64))

/-- NDL[h].CMD.CLEAR_COUNTS (R191). -/
def ndlClearCounts (s : State) (h : Nat) : State :=
  (s.resetRegs ((List.range 11).map fun k => 0x1F4018 + 0x400 * h + 4 * k)).wf (Reg.NDL_LOAD h) 25 16 0

/-- A write of NDL[h].CMD. -/
def ndlCommand (s : State) (h : Nat) (v : Word) : State :=
  let s := if bitAt v 0 then s.ndlClearCounts h else s
  let s := if bitAt v 1 then s.needleFence h else s
  if bitAt v 2 then s.needleKatNow h else s

end State

end Sys2Proof.Machine
end

