-- ==== Sys2Proof/Machine/Sched.lean ====
section
/-! DEFINITION. The dataflow scheduler: instances and their run blocks (R193 to R195), ready lists and dispatch (R196,
R197), flows (R199 to R201), cancellation (R202 to R205), spill (R208 to R210) and hard deadlines (R211 to R214). The
instances are the scheduler's own books: what an engine computes is formed by its unit at the step that R21 gives it. -/

namespace Sys2Proof.Machine

/-- OBJ_PREP and GEOM instances are never cancelled by a deadline or by propagation (R204). -/
def GNode.exempt (n : GNode) : Bool := decide (n.nkind ≤ 1)

/-- The audio blocks whose instances of a node have run block `r` (R193, R247). -/
def GNode.audioBlock (n : GNode) (r : Nat) : Option Nat :=
  let back (k : Nat) : Option Nat := if k ≤ r then some (r - k) else none
  match n.nkind, n.engine with
  | 0, 1 => some r
  | 0, _ => back 1
  | 1, 1 => some (r + 1)
  | 1, _ => some r
  | 2, 1 => some r
  | 2, _ => back 1
  | 3, _ => back 1
  | 4, _ => let p := 2 ^ natField n.operand 19 16; some ((r / p + 1) * p - 2)
  | _, _ => back 2

/-- The earliest start in samples of the run block (R193). -/
def Instance.earliest (i : Instance) : Nat :=
  match i.node.nkind, i.node.engine, i.micro with
  | 1, 1, _ => 16
  | 1, _, _ => if i.spec then 0 else 16
  | 2, 1, some k => 4 * k + 4
  | 0, 1, _ => 0
  | _, _, _ => 0

/-- The absolute deadline, in units of 64 CORE_CLK cycles: 8,192 of them are a block (R196). -/
def Instance.deadline (i : Instance) : Nat :=
  i.runBlock * 8192 + (match i.node.nkind, i.node.engine, i.micro with
    | 2, 1, some k => (4 * k + 8) * 256
    | 0, 1, _ => 8191
    | _, _, _ => i.node.deadline)

/-- Not yet released and not cancelled. -/
def InstState.unreleased : InstState → Bool
  | .released => false
  | .cancelled => false
  | .token false => false
  | .doomed => false
  | _ => true

/-- The order of R196 among entries of a list: deadline, audio block, region, node. -/
def Instance.before (a b : Instance) : Bool :=
  if a.deadline ≠ b.deadline then decide (a.deadline < b.deadline)
  else if a.block ≠ b.block then decide (a.block < b.block)
  else if a.region ≠ b.region then decide (a.region < b.region)
  else decide (a.node.node ≤ b.node.node)

/-- The first of a list under an order. -/
def firstOf (lt : Instance → Instance → Bool) (l : List Instance) : Option Instance :=
  l.foldl (fun b i => match b with | none => some i | some x => if lt x i then some x else some i) none

/-- The order of creation (R199): audio block, region, node, micro-block. -/
def Instance.createdBefore (a b : Instance) : Bool :=
  if a.block ≠ b.block then decide (a.block < b.block)
  else if a.region ≠ b.region then decide (a.region < b.region)
  else if a.node.node ≠ b.node.node then decide (a.node.node < b.node.node)
  else decide (a.micro.getD 0 ≤ b.micro.getD 0)

def insertInstance (x : Instance) : List Instance → List Instance
  | [] => [x]
  | y :: r => if x.createdBefore y then x :: y :: r else y :: insertInstance x r

namespace State

def inst? (s : State) (u : Nat) : Option Instance := s.sched.inst.find? fun i => i.uid == u
def setInst (s : State) (x : Instance) : State :=
  { s with sched := { s.sched with inst := s.sched.inst.map fun i => if i.uid = x.uid then x else i } }

/-- The ready list of an instance: its class and, for the render-tile class, its logical tile (R196). REDUCE runs on the
reduction network and has a list of its own. -/
def listOf (s : State) (i : Instance) : Nat × Nat :=
  if i.node.engine ≠ 0 then (i.node.engine, 0)
  else if i.node.nkind = 3 then (0, 0x100)
  else (0, match s.tileOf i.node.operand with | some e => e.tile | none => 0)

def onList (s : State) (k : Nat × Nat) (st : InstState) : List Instance := s.sched.inst.filter fun i => i.state == st && s.listOf i == k
def schedPages (s : State) (c : Nat) : Nat := (Assoc.get? c s.sched.pages).getD 0
def listCapacity (s : State) (c : Nat) : Nat := 4096 + 256 * s.schedPages c
def classCount (s : State) (c : Nat) (st : InstState) : Nat := (s.sched.inst.filter fun i => i.node.engine == c && i.state == st).length

/-- The lists that hold something. -/
def readyLists (s : State) : List (Nat × Nat) :=
  ((s.sched.inst.filter fun i => i.state == .ready || i.state == .spilled).map s.listOf).eraseDups

/-- Bring CLASS, STATUS and the queue events up to the lists (R210, R217, R218). -/
def reportLists (s : State) : State :=
  let s := s.over (List.range 6) fun t c =>
    let put (t : State) (o n : Nat) : State :=
      (t.wf o 15 0 (min n 65535)).wf o 31 16 (max (t.rf o 31 16) (min n 65535))
    put (put t (Reg.SCHED_CLASS c) (t.classCount c .ready)) (Reg.SCHED_CLASS c + 12) (t.classCount c .spilled)
  let spilling := s.sched.inst.any fun i => i.state == .spilled
  let s := if spilling && !s.sched.spilling then s.event 33 else if !spilling && s.sched.spilling then s.event 34 else s
  let s : State := { s.putBit Reg.SCHED_STATUS 1 spilling with sched := { s.sched with spilling := spilling } }
  let lists : List (Nat × Nat) := s.readyLists
  let high (k : Nat × Nat) : Bool := decide (s.listCapacity k.1 * s.rf Reg.SCHED_SPILL_CFG 7 0 ≤ (s.onList k .ready).length * 100)
  let low (k : Nat × Nat) : Bool := decide ((s.onList k .ready).length * 100 < s.listCapacity k.1 * (s.rf Reg.SCHED_SPILL_CFG 15 8 : Nat))
  let fresh := lists.filter fun k => high k && !s.sched.high.contains k
  let marks : List (Nat × Nat) := (s.sched.high.filter fun k => !low k) ++ fresh
  let s := { s with sched := { s.sched with high := marks } }
  (s.eventTimes 35 fresh.length).putBit Reg.SCHED_STATUS 2 (lists.any high)

/-! ### Flows and tokens: R199, R201 -/

def flowNext (s : State) (f : Nat) : Nat := s.rf (Reg.SCHED_FLOW f) 15 0
def flowOutstanding (s : State) (f : Nat) : Nat := s.rf (Reg.SCHED_FLOW f) 24 16

/-- Let the release pointer of flow `f` pass every token it meets (R201); `fuel` bounds the pass. The instances
released as DONE come out in order. -/
def passTokens (f : Nat) : Nat → State × List Instance → State × List Instance
  | 0, a => a
  | n + 1, a =>
    let s := a.1
    let q := s.flowNext f
    match s.sched.inst.find? fun i => i.node.flow == f && !i.spec && i.seq == some q &&
        (match i.state with | .token _ => true | _ => false) with
    | none => a
    | some i =>
      let done := i.state == .token true
      let s := s.setInst { i with state := if done then .released else .cancelled }
      let s := s.wf (Reg.SCHED_FLOW f) 15 0 ((q + 1) % 65536)
      let s := if i.dispatched then s.wf (Reg.SCHED_FLOW f) 24 16 (s.flowOutstanding f - 1) else s
      passTokens f n (s, if done then a.2 ++ [i] else a.2)

/-- An instance ends with its token (R201). The instances whose results are released come out. -/
def giveToken (s : State) (i : Instance) (done : Bool) : State × List Instance :=
  if i.node.flow < 1024 ∧ i.seq.isSome then
    passTokens i.node.flow (s.sched.inst.length + 1) (s.setInst { i with state := .token done }, [])
  else (s.setInst { i with state := if done then .released else .cancelled }, if done then [i] else [])

/-! ### Cancellation: R203, R204 -/

/-- The successors on edges with PREV_BLOCK clear, for the same audio block (R204). -/
def successors (s : State) (i : Instance) : List Instance :=
  s.sched.inst.filter fun x => x.block == i.block && !x.spec && x.state.unreleased &&
    match s.pat.versions.find? fun v => v.uid == x.ver with
    | some v => v.region.edges.any fun e => !e.prev && e.dst == x.node.node && e.src == i.node.node && e.region == i.region
    | none => false

/-- Correlation jobs whose accumulation a cancelled GAUGE instance carried become invalid (R280). -/
def spoilJobs (s : State) (i : Instance) : State :=
  if i.node.nkind = 7 then
    { s with gauge := { s.gauge with jobs := s.gauge.jobs.map fun e => if e.2.out = i.node.operand then (e.1, { e.2 with spoiled := true }) else e } }
  else s

/-- Cancel one instance (R203); a running one keeps its engine until it completes. -/
def cancelOne (s : State) (u : Nat) : State :=
  match s.inst? u with
  | none => s
  | some i =>
    if !i.state.unreleased then s
    else
      let s := (s.count Reg.SCHED_CANCELLED).spoilJobs i
      if i.state = .running then s.setInst { i with state := .doomed } else (s.giveToken i false).1

/-- Cancel instances and what follows from them; `fuel` bounds the propagation (R204). -/
def cancelAll : Nat → List Nat → State → State
  | 0, _, s => s
  | _, [], s => s
  | n + 1, u :: r, s =>
    match s.inst? u with
    | none => cancelAll n r s
    | some i =>
      let next := if i.state.unreleased then ((s.successors i).filter fun x => !x.node.exempt).map (·.uid) else []
      cancelAll n (r ++ next) (s.cancelOne u)

def cancelSet (s : State) (us : List Nat) : State :=
  if us.isEmpty then s else (cancelAll (us.length + s.sched.inst.length + s.sched.inst.length) us s).reportLists

/-- INSTANCE_CANCEL (R203): `made` when the instance would become ready in the same cycle. -/
def cancelInstance (s : State) (u : Nat) (made : Bool) : State :=
  match s.inst? u with
  | none => s
  | some i =>
    let early := made && i.state == .waiting
    let s := if early then s.count Reg.SCHED_READY_CANCEL else s
    let s := if early && !s.sched.readyCancelRaised then
        { s.event 36 with sched := { s.sched with readyCancelRaised := true } }
      else s
    s.cancelSet [u]

/-- Versions that have retired or will have by an audio block: their instances are cancelled (R202). -/
def cancelRetired (s : State) : State :=
  s.cancelSet ((s.sched.inst.filter fun i => i.state.unreleased && i.state != .running &&
    !(s.pat.versions.any fun v => v.uid == i.ver && (v.runs i.block || i.block < v.since + 3))).map (·.uid))

/-! ### Creation: R195, R199, R208 -/

/-- The instances of a node of a version whose run block is `r`, without numbers. -/
def nodeInstances (v : Version) (n : GNode) (r : Nat) : List Instance :=
  match n.audioBlock r with
  | none => []
  | some b =>
    if !v.runs b then []
    else
      let one : Instance := { uid := 0, region := v.region.id, ver := v.uid, node := n, block := b, runBlock := r }
      match n.nkind, n.engine with
      | 2, 1 => (List.range 8).map fun k => { one with micro := some k }
      | 1, 0 => [{ one with spec := true }, one]
      | _, _ => [one]

/-- Give an instance its number in its flow. -/
def numberInstance (s : State) (i : Instance) : State :=
  let i := { i with uid := s.sched.nextUid }
  let s := { s with sched := { s.sched with nextUid := s.sched.nextUid + 1 } }
  if i.node.flow < 1024 ∧ !i.spec then
    let q := (Assoc.get? i.node.flow s.sched.give).getD (s.flowNext i.node.flow)
    { s with sched := { s.sched with inst := s.sched.inst ++ [{ i with seq := some q }], give := Assoc.put i.node.flow ((q + 1) % 65536) s.sched.give } }
  else { s with sched := { s.sched with inst := s.sched.inst ++ [i] } }

/-- Flows that a committed node uses (R218). -/
def reportFlows (s : State) : State :=
  let used := ((s.pat.versions.map fun v => v.region.nodes.map (·.flow)).flatten.filter (· < 1024)).eraseDups
  let known := (used ++ s.sched.give.map (·.1)).eraseDups
  s.over known fun t f => t.putBit (Reg.SCHED_FLOW f) 25 (used.contains f)

/-- SCHED pages return at the boundary after they empty (R208); those above a lowered BORROW_LIMIT go first. -/
def returnSchedPages (s : State) : State :=
  let need (c : Nat) : Nat := (s.readyLists.filter fun (k : Nat × Nat) => k.1 == c).foldl (fun (a : Nat) (k : Nat × Nat) => max a (((s.onList k .ready).length - 4096 + 255) / 256)) 0
  let keep : List (Nat × Nat) := s.sched.pages.map fun (e : Nat × Nat) => (e.1, min e.2 (need e.1))
  let gone : Nat := (s.sched.pages.foldl (fun (a : Nat) (e : Nat × Nat) => a + e.2) 0) - (keep.foldl (fun (a : Nat) (e : Nat × Nat) => a + e.2) 0)
  if gone = 0 then s
  else
    let s := { s with sched := { s.sched with pages := keep.filter fun e => e.2 != 0 } }
    let s := (s.setFree (s.skeinFree + gone)).setHeld 3 (s.held 3 - gone)
    (s.wf Reg.SKEIN_BORROWED 31 16 (s.rf Reg.SKEIN_BORROWED 31 16 - gone)).wf Reg.SKEIN_OUTSIDE 15 0 (s.rf Reg.SKEIN_OUTSIDE 15 0 - gone)

/-- The scheduler at the start of block `r`: ended instances leave the books, and those whose run block begins are
created (R195). The measured load of a class depends on timing that the manual does not give: a free number. -/
def createInstances (s : State) (r : Nat) : State :=
  let live (i : Instance) : Bool := (match i.state with | .released => false | .cancelled => false | _ => true) || decide (r < i.runBlock + 4)
  let s := { s with sched := { s.sched with inst := s.sched.inst.filter live, lateRaised := false, readyCancelRaised := false } }
  let fresh := ((s.pat.versions.map fun v => (v.region.nodes.map fun n => nodeInstances v n r).flatten).flatten).foldr insertInstance []
  let s := fresh.foldl numberInstance s
  let s := s.wf Reg.SCHED_INSTANCES 16 0 (min fresh.length 65536)
  let s := s.over ((s.sched.inst.map (·.node.engine)).eraseDups.filter (· < 6)) fun t c =>
    let load := t.freeWord.toNat % 1001
    let t := t.wf (Reg.SCHED_CLASS c + 8) 9 0 load
    (t.wf (Reg.SCHED_CLASS c + 8) 25 16 (max load (t.rf (Reg.SCHED_CLASS c + 8) 25 16))).bumpFree
  (s.reportFlows.returnSchedPages.cancelRetired).reportLists

/-! ### Ready, dispatch, completion -/

/-- Every predecessor has released its result (R195). -/
def predecessorsDone (s : State) (i : Instance) : Bool :=
  match s.pat.versions.find? fun v => v.uid == i.ver with
  | none => false
  | some v =>
    i.spec || (v.region.edges.filter fun e => e.dst == i.node.node).all fun e =>
      (s.sched.inst.filter fun x => x.region == e.region && x.node.node == e.src && !x.spec &&
        x.block + (if e.prev then 1 else 0) == i.block).all fun x =>
          match x.state with
          | .released => true
          | .cancelled => e.prev
          | .token false => e.prev
          | .doomed => e.prev
          | _ => false

/-- Borrow a SCHED page for a class whose list is full (R208). -/
def borrowSchedPage (s : State) (c : Nat) : State :=
  let all := s.sched.pages.foldl (fun a e => a + e.2) 0
  if all < s.rf Reg.SCHED_SPILL_CFG 31 16 ∧ 0 < s.pagerFree then
    let s := { s with sched := { s.sched with pages := Assoc.put c (s.schedPages c + 1) s.sched.pages } }
    let s := (s.setFree (s.skeinFree - 1)).setHeld 3 (s.held 3 + 1)
    (s.wf Reg.SKEIN_BORROWED 31 16 (s.rf Reg.SKEIN_BORROWED 31 16 + 1)).wf Reg.SKEIN_OUTSIDE 15 0 (s.rf Reg.SKEIN_OUTSIDE 15 0 + 1)
  else s

/-- An instance enters its ready list; a full list borrows a page, spills its latest deadline, or defers (R209). -/
def enterList (s : State) (i : Instance) : State :=
  let k := s.listOf i
  let full (t : State) : Bool := decide (t.listCapacity k.1 ≤ (t.onList k .ready).length)
  let s := if full s then s.borrowSchedPage k.1 else s
  if !full s then s.setInst { i with state := .ready }
  else if s.bitOf Reg.SCHED_CTRL 0 && decide (s.classCount k.1 .spilled < 65536) then
    let s := s.count Reg.SCHED_SPILLED
    match firstOf (fun a b => !a.before b) (i :: s.onList k .ready) with
    | some x => if x.uid = i.uid then s.setInst { i with state := .spilled }
      else (s.setInst { x with state := .spilled }).setInst { i with state := .ready }
    | none => s
  else
    let s := if i.deferredOnce then s else s.count Reg.SCHED_SPILL_FULL
    s.setInst { i with state := .deferred, deferredOnce := true }

/-- Object n has a non-zero node from a link channel (R407). -/
def linkFed (s : State) (n : Nat) : Bool :=
  s.applied.any fun e => decide (0x1000000 ≤ e.1) && decide (e.1 < 0x1800000) && (e.1 - 0x1000000) / 8192 == n &&
    s.linkChannel ((e.1 - 0x1000000) / 4 % 2048)

/-- The earliest start of an instance: 11 samples for the OBJ_PREP of an object with a link channel (R407). -/
def earliestOf (s : State) (i : Instance) : Nat :=
  if i.node.nkind = 0 ∧ i.node.engine ≠ 1 ∧ s.linkFed i.node.operand then 11 else i.earliest

/-- INSTANCE_READY (R195). -/
def instanceReady (s : State) (u : Nat) : State :=
  match s.inst? u with
  | none => s
  | some i =>
    if i.state = .waiting ∧ 32 * i.runBlock + s.earliestOf i ≤ s.tick ∧ s.predecessorsDone i then (s.enterList i).reportLists else s

/-- READY_RETRY (R209). -/
def readyRetry (s : State) (u : Nat) : State :=
  match s.inst? u with
  | none => s
  | some i => if i.state = .deferred then (s.enterList i).reportLists else s

/-- SPILL_REFILL (R209 step 3) of a list. -/
def refillList (k : Nat × Nat) : Nat → State → State
  | 0, s => s
  | n + 1, s =>
    if s.listCapacity k.1 * s.rf Reg.SCHED_SPILL_CFG 7 0 ≤ (s.onList k .ready).length * 100 then s
    else match firstOf Instance.before (s.onList k .spilled) with
      | none => s
      | some x => refillList k n ((s.setInst { x with state := .ready }).count Reg.SCHED_REFILLED)

def spillRefill (s : State) (c t : Nat) : State :=
  if (s.onList (c, t) .ready).length * 100 ≤ s.listCapacity c * s.rf Reg.SCHED_SPILL_CFG 15 8 then
    (refillList (c, t) (s.onList (c, t) .spilled).length s).reportLists
  else s

/-- The dispatch of an instance is held (R200). -/
def heldByFlow (s : State) (i : Instance) : Bool :=
  if i.node.flow < 1024 ∧ i.seq.isSome then
    let n := s.flowOutstanding i.node.flow
    let older := s.sched.inst.any fun x => x.node.flow == i.node.flow && decide (x.uid < i.uid) && !x.spec &&
      (match x.state with | .released => false | .cancelled => false | _ => true)
    decide (256 ≤ n) || (n == 255 && older)
  else false

/-- INSTANCE_DISPATCH (R196, R200): an engine of class `c`, of logical tile `t` for the render tiles, becomes free. -/
def dispatch (s : State) (c t : Nat) : State :=
  let ready := s.onList (c, t) .ready
  let best := firstOf Instance.before (ready.filter fun i => !s.heldByFlow i)
  let ahead := match best with | some x => fun (i : Instance) => i.before x | none => fun _ => true
  let s := s.over (ready.filter fun i => s.heldByFlow i && ahead i && !i.heldOnce) fun t i => (t.setInst { i with heldOnce := true }).count Reg.SCHED_ROB_FULL
  match best with
  | none => s
  | some i =>
    let s := (s.setInst { i with state := .running, dispatched := true }).count (Reg.SCHED_CLASS c + 4)
    let s := if i.node.flow < 1024 ∧ i.seq.isSome then s.wf (Reg.SCHED_FLOW i.node.flow) 24 16 (s.flowOutstanding i.node.flow + 1) else s
    s.reportLists

/-- Completion of instance `u` (R198, R201, R211). The instances whose results are released come out. -/
def completeInstance (s : State) (u : Nat) : State × List Instance :=
  match s.inst? u with
  | none => (s, [])
  | some i =>
    if i.state = .doomed then
      let r := s.giveToken i false
      (r.1.reportLists, r.2)
    else if i.state = .running then
      let late := decide (i.deadline * 128 ≤ s.now)
      let s := if late then s.count Reg.SCHED_DEADLINE_MISS else s
      let r := if late && i.node.nkind == 7 then (((s.count Reg.SCHED_CANCELLED).spoilJobs i).count Reg.SCHED_GAUGE_SKIPPED).giveToken i false
        else if late && i.node.nkind == 6 then (s.count Reg.SCHED_SEND_LATE).giveToken i true
        else s.giveToken i true
      (r.1.reportLists, r.2)
    else (s, [])

/-! ### Hard deadlines and concealment: R211 to R214 -/

def outConceal (s : State) (j : Nat) : OutConceal := (Assoc.get? j s.sched.out).getD {}
def setOutConceal (s : State) (j : Nat) (c : OutConceal) : State := { s with sched := { s.sched with out := Assoc.put j c s.sched.out } }

/-- A domain that delivers concealed or zero samples. -/
def concealing (p : ConcealPhase) : Bool := match p with | .fade _ => true | .silent => true | _ => false

/-- The instances of the unit of a domain, with their audio block (R193, R211). -/
def domainUnit (s : State) (d : Domain) : Nat × List Instance :=
  match d with
  | .blockMix =>
    let b := s.block - 1
    (b, s.sched.inst.filter fun i => i.node.engine == 0 && (i.node.nkind == 2 || i.node.nkind == 3) && i.block == b)
  | .fgMix k => (s.block, s.sched.inst.filter fun i => i.node.engine == 1 && i.node.nkind == 2 && i.block == s.block && i.micro == some k)
  | .output j =>
    let b := s.block - 2
    (b, s.sched.inst.filter fun i => ((i.node.nkind == 5 && i.node.operand == j) ||
      (i.node.nkind == 4 && natField i.node.operand 15 0 == j)) && i.block == b)

/-- The record of a concealment start (R214). -/
def concealStart (s : State) (d : Domain) (b : Nat) : State :=
  let info := match d with
    | .blockMix => 1
    | .fgMix k => 2 + (k % 8) * 4
    | .output j => 3 + (j % 1024) * 65536
  let s := ((s.count Reg.SCHED_LATE_BLOCKS).wr Reg.SCHED_LATE_INFO (BitVec.ofNat 32 info)).wr64 Reg.SCHED_LATE_BLOCK_LO b
  if s.sched.lateRaised then s else { s.event 32 with sched := { s.sched with lateRaised := true } }

/-- HARD_DEADLINE_MISS (R211): a unit with an unreleased instance is late. Its instances are cancelled, and a domain that
is not silent or ramping out starts to conceal. -/
def hardMiss (s : State) (d : Domain) : State :=
  let u := s.domainUnit d
  let open' := u.2.filter fun i => i.state.unreleased && !i.node.exempt
  let judged := match d with | .blockMix => open'.any fun i => i.node.nkind == 3 | _ => !open'.isEmpty
  if !judged then s
  else
    let idle := open'.any fun i => i.node.nkind == 5 && i.state != .running && !i.dispatched
    let s := s.cancelSet (open'.map (·.uid))
    match d with
    | .blockMix =>
      let s := if concealing s.rndr.blockConceal then s else s.concealStart d u.1
      { s with rndr := { s.rndr with blockLate := some u.1 } }
    | .fgMix k =>
      let s := if concealing s.ndl.conceal then s else s.concealStart d u.1
      { s with ndl := { s.ndl with late := (32 * s.block + 4 * k) :: s.ndl.late } }
    | .output j =>
      let c := s.outConceal j
      let s := if concealing c.phase then s else s.concealStart d u.1
      s.setOutConceal j { c with late := some u.1, skip := if idle then some s.block else none }

/-- The phase of a domain in its next block: a late unit starts a fade or leaves the silence, an on-time one recovers
(R212, R213). -/
def nextPhase (p : ConcealPhase) (late : Bool) : ConcealPhase :=
  if late then (match p with | .fade _ => .silent | .silent => .silent | _ => .fade 0)
  else (match p with | .fade _ => .rampIn 0 | .silent => .rampIn 0 | _ => .normal)

/-- STATUS of the domains (R217). -/
def reportConceal (s : State) : State :=
  let blk := concealing s.rndr.blockConceal
  let fg := concealing s.ndl.conceal
  let outs := (s.sched.out.filter fun e => concealing e.2.phase).length
  let s := ((s.putBit Reg.SCHED_STATUS 8 blk).putBit Reg.SCHED_STATUS 9 fg).wf Reg.SCHED_STATUS 19 10 outs
  s.putBit Reg.SCHED_STATUS 0 (blk || fg || decide (0 < outs))

/-- BLOCK_MIX and the outputs at the boundary that starts block `r`: the feeds of audio block r − 2 and the outputs of
it begin (R213, R214). FG_MIX moves sample by sample. -/
def concealBoundary (s : State) (r : Nat) : State :=
  let p := nextPhase s.rndr.blockConceal (s.rndr.blockLate.isSome && s.rndr.blockLate == some (r - 2))
  let s := { s with rndr := { s.rndr with blockConceal := p, blockLate := none } }
  let n := b2n (concealing p) + b2n (concealing s.ndl.conceal) + (s.sched.out.filter fun e => concealing e.2.phase).length
  (if n = 0 then s else s.countBy Reg.SCHED_CONCEAL_BLOCKS n).reportConceal

/-- The concealment formulas of R212 and R213 on a signal: `back` is what the domain delivered 32 samples before. -/
def concealValue (p : ConcealPhase) (x back : Int) : Int :=
  match p with
  | .normal => x
  | .fade i => divEven (back * (31 - i)) 32
  | .silent => 0
  | .rampIn i => divEven (x * (i + 1)) 32

/-- The phase one sample on, within a unit. -/
def stepPhase (p : ConcealPhase) : ConcealPhase :=
  match p with
  | .fade i => if 31 ≤ i then .silent else .fade (i + 1)
  | .rampIn i => if 31 ≤ i then .normal else .rampIn (i + 1)
  | q => q

/-- SCHED.CMD.CLEAR_COUNTS (R216). -/
def schedClearCounts (s : State) : State :=
  let s := s.resetRegs ([Reg.SCHED_READY_CANCEL, Reg.SCHED_SPEC_PREFETCH, Reg.SCHED_CANCELLED, Reg.SCHED_LATE_BLOCKS,
    Reg.SCHED_CONCEAL_BLOCKS, Reg.SCHED_DEADLINE_MISS, Reg.SCHED_SPILLED, Reg.SCHED_REFILLED, Reg.SCHED_SPILL_FULL,
    Reg.SCHED_ROB_FULL, Reg.SCHED_SEND_LATE, Reg.SCHED_GAUGE_SKIPPED] ++ (List.range 6).map fun c => Reg.SCHED_CLASS c + 4)
  s.over (List.range 6) fun t c =>
    ((t.wf (Reg.SCHED_CLASS c) 31 16 (t.rf (Reg.SCHED_CLASS c) 15 0)).wf (Reg.SCHED_CLASS c + 8) 25 16 (t.rf (Reg.SCHED_CLASS c + 8) 9 0)).wf
      (Reg.SCHED_CLASS c + 12) 31 16 (t.rf (Reg.SCHED_CLASS c + 12) 15 0)

/-- A write of SPILL_CFG (R217): each field keeps its value where the write is outside its range or its order. -/
def spillCfgWrite (s : State) (v : Word) : State :=
  let o := Reg.SCHED_SPILL_CFG
  let hi := fld v 7 0
  let lo := fld v 15 8
  let nh := if 50 ≤ hi ∧ hi ≤ 100 then hi else s.rf o 7 0
  let nl := if 10 ≤ lo ∧ lo ≤ 90 then lo else s.rf o 15 8
  let s := if nl < nh then (s.wf o 7 0 nh).wf o 15 8 nl
    else if s.rf o 15 8 < nh then s.wf o 7 0 nh
    else if nl < s.rf o 7 0 then s.wf o 15 8 nl else s
  if fld v 31 16 ≤ 4096 then s.wf o 31 16 (fld v 31 16) else s

end State

end Sys2Proof.Machine
end

