-- ==== Sys2Proof/Machine/Xp.lean ====
section
/-! DEFINITION. The crosspoints: generators (R222) and pilot sequences (R276), nodes and their ramps (R223 to R228),
buses and direct channels (R220, R221, R229), limits (R230), shadows (R226) and the two sums (R224, R225), with the
rendered feeds as the domains BLOCK_MIX and FG_MIX deliver them (R187, R212). -/

namespace Sys2Proof.Machine

/-! ### The pilot sequences: R276 -/

/-- The state of the generator, bit i holding a(k + i), after k steps. -/
def pilotLfsr : Nat → Nat → Nat
  | 0, st => st
  | k + 1, st => pilotLfsr k (st / 2 + (if (st / 128 + st) % 2 = 1 then 131072 else 0))

def pilotA (k : Nat) : Nat := pilotLfsr (k % 262143) 131072 % 2
def pilotB (k : Nat) : Nat := pilotA (5 * k)
/-- The chip of output j at OXP tick t: +1 or −1. -/
def pilotChip (j t : Nat) : Int := if (pilotA t + pilotB (t + 256 * j + 1)) % 2 = 0 then 1 else -1

/-! ### Nodes -/

def ixpBase : Nat := 0x1000000
def ixpEnd : Nat := 0x1880000
def oxpBase : Nat := 0x2000000
def oxpEnd : Nat := 0x2190000

def isIxpNode (o : Nat) : Bool := decide (ixpBase ≤ o) && decide (o < ixpEnd)
def isOxpNode (o : Nat) : Bool := decide (oxpBase ≤ o) && decide (o < oxpEnd)
/-- Destination and source of a node (R223). -/
def nodeDst (o : Nat) : Nat := if isIxpNode o then (o - ixpBase) / 4 / 2048 else (o - oxpBase) / 4 / 640
def nodeSrc (o : Nat) : Nat := if isIxpNode o then (o - ixpBase) / 4 % 2048 else (o - oxpBase) / 4 % 640
/-- The 64 samples between a block and the OXP ticks that carry it (R225). -/
def nodeShift (o : Nat) : Nat := if isIxpNode o then 0 else 64

/-- g(i) of R227 for the sample or tick `t`, in Q4.41; the ramps are newest first and `base` is the gain without them. -/
def rampedGain (base : Int) : List NodeRamp → Nat → Int
  | [], _ => base
  | r :: rs, t =>
    if t < r.start then rampedGain r.old rs t
    else if r.start + r.len ≤ t + 1 then r.new * 2 ^ 13
    else divEven (r.old * (r.start + r.len - 1 - t : Nat) + r.new * 2 ^ 13 * (t - r.start + 1 : Nat)) r.len

namespace State

def nodeRamps (s : State) (o : Nat) : List NodeRamp := (Assoc.get? o s.xp.ramps).getD []
/-- The gain of a node at a sample or tick, Q4.41. -/
def nodeGain (s : State) (o t : Nat) : Int := rampedGain ((s.inForce o).toInt * 2 ^ 13) (s.nodeRamps o) t

/-- The newest ramp of a node runs, in the counts of R230. -/
def nodeRamping (s : State) (o : Nat) : Bool := match s.nodeRamps o with | r :: _ => !r.done | [] => false
/-- A node into an object outside every committed group is inert (R230). -/
def nodeInert (s : State) (o : Nat) : Bool := isIxpNode o && decide (nodeDst o < 1024) && !s.inGroup (nodeDst o)
def nodeActive (s : State) (o : Nat) : Bool := !s.nodeInert o && (s.inForce o != 0 || s.nodeRamping o)

/-- Nodes with a gain or a ramp, in ascending offset, of the IXP or of the OXP. -/
def nodesOf (s : State) (ixp : Bool) : List Nat :=
  let mine (o : Nat) : Bool := if ixp then isIxpNode o else isOxpNode o
  let a := s.applied.filter fun e => mine e.1
  let all := (s.xp.ramps.filter fun e => mine e.1).foldl (fun l e => Assoc.put e.1 (0 : Word) l) a
  all.map (·.1)

def activeNodes (s : State) (ixp : Bool) : List Nat := (s.nodesOf ixp).filter s.nodeActive
def activeTo (s : State) (ixp : Bool) (d : Nat) : List Nat := (s.activeNodes ixp).filter fun o => nodeDst o == d

/-- IXP_COUNT and OXP_COUNT (R236). -/
def reportNodes (s : State) : State :=
  let a := s.activeNodes true
  let b := s.activeNodes false
  let s := (s.wf Reg.XP_IXP_COUNT 14 0 a.length).wf Reg.XP_IXP_COUNT 30 16 (a.filter s.nodeRamping).length
  (s.wf Reg.XP_OXP_COUNT 11 0 b.length).wf Reg.XP_OXP_COUNT 27 16 (b.filter s.nodeRamping).length

/-- A node change applies at the boundary that starts block `b` (R227, R228, R230). -/
def applyNode (s : State) (b o : Nat) (v : Word) : State :=
  let ixp := isIxpNode o
  let d := nodeDst o
  if s.inForce o = v then s
  else
    let fresh := !s.nodeActive o && !s.nodeInert o && v != 0
    let refused := fresh && (if ixp then decide (64 ≤ (s.activeTo true d).length) || decide (16384 ≤ (s.activeNodes true).length)
      else decide (16 ≤ (s.activeTo false d).length) || decide (2048 ≤ (s.activeNodes false).length))
    if refused then
      let s := (((s.wr o (s.inForce o)).count Reg.XP_REFUSED).setBit Reg.XP_STICKY 0).wr Reg.XP_LAST_REFUSED (BitVec.ofNat 32 o)
      if s.xp.refusedRaised then s else { s.event 24 with xp := { s.xp with refusedRaised := true } }
    else
      let start := 32 * b + nodeShift o
      let len := 32 * s.af (if ixp then Reg.XP_IXP_RAMP d else Reg.XP_OXP_RAMP d) 8 0
      let old := if start = 0 then 0 else s.nodeGain o (start - 1)
      let ramp : NodeRamp := { start := start, len := len, old := old, new := v.toInt }
      let s := { s with xp := { s.xp with ramps := Assoc.put o (ramp :: s.nodeRamps o) s.xp.ramps } }
      s.enforce o v

/-- A BUS or DIRECT change applies, or waits for the end of a crossfade (R229): the second component. -/
def applySource (s : State) (b o : Nat) (v : Word) : State × Bool :=
  if s.inForce o = v then (s, false)
  else match Assoc.get? o s.xp.sources with
    | some (k, _) =>
      if b ≤ k then (s, true) else (({ s with xp := { s.xp with sources := Assoc.put o (b, s.inForce o) s.xp.sources } }).enforce o v, false)
    | none => (({ s with xp := { s.xp with sources := Assoc.put o (b, s.inForce o) s.xp.sources } }).enforce o v, false)

/-- The order of R226: ramp lengths, then BUS, DIRECT and GEN, then nodes, each in ascending offset. -/
def xpRank (o : Nat) : Nat := if 0x221000 ≤ o ∧ o < 0x224000 then 0 else if o < 0x1000000 then 1 else 2

def insertRanked (x : Nat × Word) : List (Nat × Word) → List (Nat × Word)
  | [] => [x]
  | y :: r => if xpRank x.1 * 2 ^ 32 + x.1 ≤ xpRank y.1 * 2 ^ 32 + y.1 then x :: y :: r else y :: insertRanked x r

/-- Apply one crosspoint shadow; what must wait goes back to the bank. -/
def applyXp (s : State) (b : Nat) (e : Nat × Word) : State :=
  if xpRank e.1 = 2 then s.applyNode b e.1 e.2
  else if 0x220100 ≤ e.1 ∧ e.1 < 0x220300 then
    let r := s.applySource b e.1 e.2
    if r.2 then { s with xp := { s.xp with bank := s.xp.bank.write e.1 (some (b + 1)) } } else r.1
  else s.enforce e.1 e.2

/-- The crosspoint shadows due at the boundary that starts block `b` (R226); ramps and crossfades that have ended leave. -/
def xpBoundary (s : State) (b : Nat) : State :=
  let bank := s.xp.bank
  let snap := match bank.applyAt with | some t => decide (t ≤ b) | none => false
  let autos := (bank.pending.filter (autoDue b)).map fun (e : Nat × Option Nat) => (e.1, s.rd e.1)
  let work := ((if snap then bank.snap.filter fun e => !(autos.any fun a => a.1 == e.1) else []) ++ autos).foldr insertRanked []
  let bank : ShadowBank :=
    { pending := bank.pending.filter fun e => !autoDue b e
      applyAt := if snap then none else bank.applyAt
      snap := if snap then [] else bank.snap }
  let ended (e : Nat × List NodeRamp) : List NodeRamp := e.2.map fun r => { r with done := r.done || decide (r.start + r.len ≤ 32 * b + nodeShift e.1) }
  let keep (e : Nat × List NodeRamp) : Bool := match e.2 with | r :: _ => decide (32 * b < r.start + r.len + 64) | [] => false
  let ramps := (s.xp.ramps.map fun e => (e.1, ended e)).filter keep
  let s := { s with xp := { s.xp with bank := bank, refusedRaised := false, ramps := ramps
                                      sources := s.xp.sources.filter fun e => decide (b ≤ e.2.1 + 3) } }
  let s := if snap then s.clrBit Reg.XP_STATUS 0 else s
  (s.over work fun t e => t.applyXp b e).reportNodes

/-- NODE_RAMP_END (R227): the ramp of a node has reached its final gain. -/
def nodeRampEnd (s : State) (o : Nat) : State :=
  match s.nodeRamps o with
  | r :: rs =>
    if r.start + r.len ≤ s.tick + nodeShift o then
      ({ s with xp := { s.xp with ramps := Assoc.put o ({ r with done := true } :: rs) s.xp.ramps } }).reportNodes
    else s
  | [] => s

/-- A write to a shadowed crosspoint register (R226); the register file already holds the value. -/
def xpShadow (s : State) (o : Nat) : State :=
  { s with xp := { s.xp with bank := s.xp.bank.write o (s.autoBlock Reg.XP_CTRL 0) } }

/-- XP.CMD.APPLY (R226): the pending values are taken now; later writes wait for the next application. -/
def xpApply (s : State) : State :=
  match s.targetBlock Reg.XP_APPLY_BLOCK_LO with
  | none => s.setBit Reg.XP_STATUS 1
  | some t =>
    let taken : List (Nat × Word) := s.xp.bank.pending.map fun (e : Nat × Option Nat) => (e.1, s.rd e.1)
    let older := s.xp.bank.snap.filter fun e => !(taken.any fun a => a.1 == e.1)
    (({ s with xp := { s.xp with bank := { pending := [], applyAt := some t, snap := older ++ taken } } }).clrBit Reg.XP_STATUS 1).setBit Reg.XP_STATUS 0

/-- XP.CMD.CLEAR_COUNTS (R235). -/
def xpClearCounts (s : State) : State := (s.clrBit Reg.XP_STATUS 1).resetRegs [Reg.XP_REFUSED, Reg.XP_IXP_SAT, Reg.XP_OXP_SAT]

def xpCommand (s : State) (v : Word) : State :=
  let s := if bitAt v 1 then s.xpClearCounts else s
  if bitAt v 0 then s.xpApply else s

/-- Whether an offset lies in the node arrays. -/
def isNode (o : Nat) : Bool := decide (0x1000000 ≤ o) && decide (o < 0x10000000)

/-- A full load at block b clears every node, abandons every ramp and discards pending node shadows; its defaults are in force
for the audio of block b onwards, without a ramp (R232). -/
def xpLoadNodes (s : State) (b : Nat) (defaults : List (Nat × Word)) : State :=
  let final : List (Nat × Word) := defaults.foldl (fun l e => Assoc.put e.1 e.2 l) []
  let nodes := (s.nodesOf true ++ s.nodesOf false ++ final.map (·.1)).eraseDups
  let set (t : State) (o : Nat) : State :=
    let v := (Assoc.get? o final).getD 0
    let start := 32 * b + nodeShift o
    let ramp : NodeRamp := { start := start, len := 0, old := if start = 0 then 0 else t.nodeGain o (start - 1), new := v.toInt, done := true }
    let t : State := { t with xp := { t.xp with ramps := Assoc.put o (ramp :: t.nodeRamps o) t.xp.ramps } }
    (t.wr o v).enforce o v
  let s := s.over nodes set
  let s := s.over ((s.regs.filter fun e => isNode e.1 && !nodes.contains e.1).map (·.1)) fun t o => t.wr o 0
  { s with xp := { s.xp with bank := { s.xp.bank with
    pending := s.xp.bank.pending.filter fun e => !isNode e.1, snap := s.xp.bank.snap.filter fun e => !isNode e.1 } } }

/-- A default of a cast-on: a node change at the commit block; a pending shadow of the node is discarded (R233). -/
def castNodeDefault (s : State) (b o : Nat) (v : Word) : State :=
  let bank := s.xp.bank.drop o
  let s := { s with xp := { s.xp with bank := { bank with snap := bank.snap.filter fun e => e.1 != o } } }
  (s.wr o v).applyNode b o v

/-- The BAR0 offset of a default's node (R48). -/
def xpEntryOffset (e : XpEntry) : Nat :=
  if e.ixp then ixpBase + (e.dst * 2048 + e.src) * 4 else oxpBase + (e.dst * 640 + e.src) * 4

/-! ### Sources and sums -/

/-- IXP source `u` at the present tick (R219, R222). -/
def ixpSource (s : State) (u : Nat) : Int :=
  if u < 1808 then (s.cond.out.lookup u).getD 0
  else if u < 1812 then
    let f := s.af (Reg.XP_GEN (u - 1808)) 22 0
    roundFx (sinPi (2 * (f * s.tick % 9600000) : Nat) 9600000) 30
  else if u < 1816 then Config.pinkNoise (u - 1812) s.tick
  else if u < 1820 then
    let j := fld (s.inForce (Reg.XP_GEN (u - 1816) + 4)) 9 0
    if s.dev.part.hasGauge && s.dev.part.hasOutput j then pilotChip j s.tick * (2 ^ 31 - 1) else 0
  else 0

/-- Record a saturation (R224). -/
def countSat (s : State) (ixp : Bool) (d : Nat) : State :=
  ((s.count (if ixp then Reg.XP_IXP_SAT else Reg.XP_OXP_SAT)).setBit Reg.XP_STICKY (if ixp then 1 else 2)).wr Reg.XP_LAST_SAT
    (BitVec.ofNat 32 (d + if ixp then 0 else 65536))

/-- The sums of R224 over nodes, by destination, in Q9.55; `src` gives a source with its fractional bits beyond 14. -/
def nodeSums (s : State) (nodes : List Nat) (t : Nat) (src : Nat → Int × Nat) : List (Nat × Int) :=
  nodes.foldl (fun l o =>
    let x := src (nodeSrc o)
    let p := divEven (s.nodeGain o t * x.1) (2 ^ x.2)
    let d := nodeDst o
    Assoc.put d (wrap64 ((Assoc.get? d l).getD 0 + p)) l) []

/-- Narrow the sums, with their saturations. -/
def narrowSums (s : State) (ixp : Bool) (l : List (Nat × Int)) : State × List (Nat × Int) :=
  let r := l.map fun e => (e.1, divEven e.2 (2 ^ 24))
  let s := (r.filter fun e => satQ31 e.2 != e.2).foldl (fun t e => t.countSat ixp e.1) s
  (s, r.map fun e => (e.1, satQ31 e.2))

/-- IXP sources that Gauge reads: those of the jobs that run and the sense channels of monitored outputs (R279, R281). -/
def gaugeSources (s : State) : List Nat :=
  (s.gauge.jobs.map (·.2.src)) ++ (s.gauge.out.map fun e =>
    if s.abit (Reg.SPK_GCTRL e.1) 0 then [s.af (Reg.SPK_SENSE_SRC e.1) 10 0, s.af (Reg.SPK_SENSE_SRC e.1) 26 16] else []).flatten

/-- The IXP at the present tick (R220, R221, R224): object inputs, bus sums and the sources of the direct channels. A link
channel into a Foreground object or a Foreground-aligned bus carries zero, and the sum of any other destination of a link
channel waits for its samples (R407). -/
def ixpTick (s : State) : State :=
  let t := s.tick
  let blocked (o : Nat) : Bool :=
    s.linkChannel (nodeSrc o) && (if nodeDst o < 1024 then s.objForeground (nodeDst o) else s.abit (Reg.XP_BUS (nodeDst o - 1024)) 0)
  let nodes := (s.activeNodes true ++ (s.nodesOf true).filter fun o => !s.nodeActive o && !s.nodeInert o).filter fun o => !blocked o
  let late := ((nodes.filter fun o => s.linkChannel (nodeSrc o)).map nodeDst).eraseDups
  let sums := s.nodeSums nodes t fun u => (s.ixpSource u, 17)
  let r := s.narrowSums true (sums.filter fun e => !late.contains e.1)
  let s := r.1
  let s : State := if late.isEmpty then s else
    { s with cas := { s.cas with sums := ((t, late.map fun d => (d, (Assoc.get? d sums).getD 0)) :: s.cas.sums).take 80 } }
  let input (n : Nat) : List Int := ((Assoc.get? n r.2).getD 0 :: (Assoc.get? n s.omd.input).getD []).take 65
  let objs := (s.omd.obj.map (·.1)).filter s.inGroup
  let s := { s with omd := { s.omd with input := objs.map fun n => (n, input n) } }
  let buses := (r.2.filter fun e => decide (1024 ≤ e.1)).map fun e => (e.1 - 1024, e.2)
  let used := ((List.range 64).map fun d => s.af (Reg.XP_DIRECT d) 10 0) ++ (s.xp.sources.map fun e => fld e.2.2 10 0) ++ s.gaugeSources
  let srcs := ((used.filter (· < 1824)).eraseDups).map fun u => (u, s.ixpSource u)
  { s with xp := { s.xp with past := ((t, srcs) :: s.xp.past).take 66, buses := ((t, buses) :: s.xp.buses).take 66 } }

/-- A value of a ring at a tick. -/
def ringAt (l : List (Nat × List (Nat × Int))) (t n : Nat) : Int := match l.lookup t with | some e => (e.lookup n).getD 0 | none => 0

/-- Bus or direct channel of an OXP source under a configuration word, at tick `t` (R220, R221). -/
def alignedSource (s : State) (k : Nat) (w : Word) (t : Nat) : Int :=
  if k < 576 then ringAt s.xp.buses (t - if bitAt w 0 then 8 else 64) (k - 512)
  else ringAt s.xp.past (t - if bitAt w 12 then 8 else 64) (fld w 10 0)

/-- OXP source `k` from 512 up at tick `t`, with the crossfade of R229. -/
def oxpBusSource (s : State) (k t : Nat) : Int :=
  let o := if k < 576 then Reg.XP_BUS (k - 512) else Reg.XP_DIRECT (k - 576)
  let new := s.alignedSource k (s.inForce o) t
  match Assoc.get? o s.xp.sources with
  | some (b, w) =>
    let start := 32 * b + 64
    if t < start then s.alignedSource k w t
    else if t < start + 32 then blend32 (s.alignedSource k w t) new (t - start)
    else new
  | none => new

/-- Columns of a mix at sample `i`. -/
def Mix.at' (m : Mix) (i : Nat) : List (Nat × Int) := m.map fun e => (e.1, e.2.getD i 0)

/-- One sample of a domain: what it delivers, given what it computed, its phase and what it delivered before. -/
def deliver (p : ConcealPhase) (now : List (Nat × Int)) (before : Mix) : List (Nat × Int) × Mix :=
  let keys := (now.foldl (fun (l : List (Nat × Unit)) e => Assoc.put e.1 () l) (before.map fun e => (e.1, ()))).map (·.1)
  let out := keys.map fun j => (j, concealValue p ((Assoc.get? j now).getD 0) (((Assoc.get? j before).getD []).getD 31 0))
  let ring := out.map fun e => (e.1, (e.2 :: (Assoc.get? e.1 before).getD []).take 32)
  (out, ring.filter fun e => e.2.any (· != 0))

/-- The rendered feeds at the present OXP tick: the block-class feeds of conditioned sample t − 64 and the Foreground mix of
t − 8, each as its domain delivers it (R187, R212, R213). -/
def feedTick (s : State) : State × List (Nat × Int) :=
  let t := s.tick
  let bm := if t < 64 then [] else match Assoc.get? ((t - 64) / 32) s.rndr.feeds with | some m => State.Mix.at' m (t % 32) | none => []
  let b := deliver s.rndr.blockConceal bm s.rndr.delivered
  let s : State := { s with rndr := { s.rndr with delivered := b.2, blockConceal := stepPhase s.rndr.blockConceal } }
  let c := t - 8
  let late := decide (8 ≤ t) && c % 4 == 0 && s.ndl.late.contains c
  let p := if late then (match s.ndl.conceal with | .normal => .fade 0 | .rampIn _ => .fade 0 | q => q)
    else if c % 32 = 0 then (match s.ndl.conceal with | .silent => .rampIn 0 | q => q) else s.ndl.conceal
  let fm := if t < 8 then [] else match Assoc.get? (c / 4 * 4) s.ndl.mix with | some m => State.Mix.at' m (c % 4) | none => []
  let f := deliver p fm s.ndl.delivered
  let s : State := { s with ndl := { s.ndl with delivered := f.2, conceal := stepPhase p, late := s.ndl.late.filter fun x => decide (t < x + 12) } }
  let s := if concealing p != concealing s.ndl.conceal || late then s.reportConceal else s
  (s, f.1.foldl (fun l e => Assoc.put e.1 (wrap64 ((Assoc.get? e.1 l).getD 0 + e.2)) l) b.1)

/-- The OXP at the present tick (R224, R225). -/
def oxpTick (s : State) : State :=
  let t := s.tick
  let r := s.feedTick
  let s := r.1
  let nodes := s.nodesOf false
  let x := s.narrowSums false (s.nodeSums nodes t fun u => if u < 512 then ((Assoc.get? u r.2).getD 0, 41) else (s.oxpBusSource u t, 17))
  { x.1 with xp := { x.1.xp with oxp := ((t, x.2) :: x.1.xp.oxp).take 8 } }

/-! ### What is read: R236 -/

/-- PEEK_ADDR names a present node. -/
def peekValid (s : State) : Bool :=
  let o := (s.rd Reg.XP_PEEK_ADDR).toNat
  if isIxpNode o then s.dev.part.hasIxpNode (nodeSrc o) (nodeDst o) else isOxpNode o && s.dev.part.hasOxpNode (nodeSrc o) (nodeDst o)

/-- PEEK_TARGET, PEEK_NOW, PEEK_STATE and DEST_COUNT. -/
def peekTarget (s : State) : Word := if s.peekValid then s.inForce (s.rd Reg.XP_PEEK_ADDR).toNat else 0
def peekNow (s : State) : Word :=
  let o := (s.rd Reg.XP_PEEK_ADDR).toNat
  if s.peekValid ∧ 0 < s.block then satWord (divEven (s.nodeGain o (32 * s.block - 1)) (2 ^ 13)) else 0
def peekState (s : State) : Word :=
  let o := (s.rd Reg.XP_PEEK_ADDR).toNat
  if !s.peekValid then 0
  else
    let remain := match s.nodeRamps o with
      | r :: _ => if r.done then 0 else (r.start + r.len - nodeShift o - 32 * s.block + 31) / 32
      | [] => 0
    BitVec.ofNat 32 (min remain 511 + b2n (s.nodeActive o) * 65536 + 131072)
def destCount (s : State) : Word :=
  let d := s.rf Reg.XP_DEST_SEL 10 0
  let l := s.activeTo (!s.bitOf Reg.XP_DEST_SEL 16) d
  BitVec.ofNat 32 (min l.length 127 + min (l.filter s.nodeRamping).length 127 * 256)

end State

end Sys2Proof.Machine
end

