-- ==== Sys2Proof/Machine/Mem.lean ====
section
/-! DEFINITION. The byte memories: DRAM by fabric address through the frame map (R440), and boot flash; and the DRAM
channels: ECC (R451), refresh and retraining (R452 to R454), offline and migration (R455 to R457). -/

namespace Sys2Proof.Machine

/-- The first fabric address of DRAM, and its end (R439). -/
def dramBase : Nat := 0x800000000
def dramEnd : Nat := 0x1000000000
def isDram (a : Nat) : Bool := decide (dramBase ≤ a) && decide (a < dramEnd)
def frameOf (a : Nat) : Nat := (a - dramBase) / 65536

namespace State

/-- A DRAM byte: that of a backed frame, and 0 otherwise (R440). -/
def dramByte (s : State) (a : Nat) : Byte :=
  if isDram a && (s.frameAt (frameOf a)).isSome then Memory.get 0 s.dram a else 0
def dramBytes (s : State) (a n : Nat) : List Byte := (List.range n).map fun i => s.dramByte (a + i)

/-- Write bytes into DRAM frames; a byte of a frame that is not backed is lost. -/
def dramWrite (s : State) (a : Nat) (l : List (Option Byte)) : State :=
  { s with dram := Memory.write 0 s.dram a (l.zipIdx.map fun e => if (s.frameAt (frameOf (a + e.2))).isSome then e.1 else none) }

/-- The bytes of a word list, little-endian. -/
def wordsOf (l : List Byte) : List Word := (List.range (l.length / 4)).map fun i => BitVec.ofNat 32 (leNat l (4 * i) 4)

/-! ### ECC: R451, R455 -/

def mtxOnce (s : State) (n : Nat) : State :=
  if s.mtx.raised.contains n then s else { s.event n with mtx := { s.mtx with raised := n :: s.mtx.raised } }

def dramChan (s : State) (n : Nat) : DramChannel := (Assoc.get? n s.mtx.chans).getD {}
def setDramChan (s : State) (n : Nat) (c : DramChannel) : State := { s with mtx := { s.mtx with chans := Assoc.put n c s.mtx.chans } }

/-- The channel that holds an address. -/
def chanOfAddr (s : State) (a : Nat) : Option Nat := (s.frameAt (frameOf a)).map (·.chan)

/-- A corrected read of the 32-byte block at `a`: written back, counted, event 48. -/
def eccCorrected (s : State) (a : Nat) : State :=
  match s.chanOfAddr a with
  | none => s
  | some n => ((s.count (Reg.DRAM_CE_COUNT n)).wr64 (Reg.DRAM_CE_ADDR_LO n) (a / 32 * 32)).mtxOnce 48

/-- UE_WINDOW and the limit of R455 at block `b`. -/
def windowUe (s : State) (n b : Nat) : State :=
  let c := s.dramChan n
  let ue := c.ue.filter fun e => decide (b < e.1 + 3000)
  let sum := ue.foldl (fun a e => a + e.2) 0
  let past := decide (s.rf (Reg.DRAM_UE_LIMIT n) 7 0 < sum) && s.dramOnline n
  (s.setDramChan n { c with ue := ue, offlineDue := c.offlineDue || past }).wf (Reg.DRAM_STATUS n) 15 8 (min sum 255)

/-- An uncorrectable read of the block at `a`: counted, event 49. -/
def eccUncorrectable (s : State) (a : Nat) : State :=
  match s.chanOfAddr a with
  | none => s
  | some n =>
    let s := ((s.count (Reg.DRAM_UE_COUNT n)).wr64 (Reg.DRAM_UE_ADDR_LO n) (a / 32 * 32)).mtxOnce 49
    let c := s.dramChan n
    (s.setDramChan n { c with ue := (s.block, 1) :: c.ue }).windowUe n s.block

/-- Masters that receive an uncorrectable block as zeros without an error (R451). -/
def takesZeros (m : Nat) : Bool := m == 4 || m == 6 || m == 7 || m == 10 || m == 12

/-! ### Accesses of masters to DRAM: R442, R447, R451 -/

/-- An access that decodes to the default target (R447): the master, the address, its direction and the cause. -/
def decodeError (s : State) (m a : Nat) (write : Bool) (cause : Nat) : State :=
  (((s.wr64 Reg.MATRIX_DECODE_ADDR_LO (a % 2 ^ 40)).wr Reg.MATRIX_DECODE_INFO (BitVec.ofNat 32 (m % 16 + 16 * b2n write + 32 * cause))).count
    Reg.MATRIX_DECODE_ERRORS).mtxOnce 56

/-- The frames of the `n` bytes from `a`. -/
def framesTouched (a n : Nat) : List Nat := if n = 0 then [] else (List.range (frameOf (a + n - 1) - frameOf a + 1)).map (frameOf a + ·)

/-- A frame that R442 protects from master `m`: the loader area, and the frames of regions and spill rings against other masters'
writes. The identified masters 4 to 12 are the owners of what a region holds. -/
def frameProtected (s : State) (m : Nat) (write : Bool) (f : Nat) : Bool :=
  match s.frameAt f with
  | none => false
  | some e => match e.owner with
    | .loader => m != 3 && m != 13
    | .region _ => write && (decide (m < 4) || m == 12)
    | .spill => write && m != 8 && m != 13
    | _ => false

/-- Why an access of a master to DRAM goes to the default target: the first address and the cause. -/
def accessFault (s : State) (m : Nat) (write : Bool) (a n : Nat) : Option (Nat × Nat) :=
  if a < dramBase ∨ dramEnd ≤ a then some (a, 0)
  else if dramEnd < a + n then some (dramEnd, 0)
  else ((framesTouched a n).find? (s.frameProtected m write)).map fun f => (max a (dramBase + 65536 * f), 1)

/-- Blocks in a range that a migration left to read as uncorrectable once (R457). -/
def markedIn (s : State) (a n : Nat) : List Nat := s.mtx.marked.filter fun x => decide (x < a + n) && decide (a < x + 32)
def readMarked (s : State) (a n : Nat) : State :=
  let l := s.markedIn a n
  ({ s with mtx := { s.mtx with marked := s.mtx.marked.filter fun x => !l.contains x } }).over l fun t x => t.eccUncorrectable x

/-- A master reads `n` bytes; none where the matrix or the ECC answers with an error. -/
def masterRead (s : State) (m a n : Nat) : State × Option (List Byte) :=
  match s.accessFault m false a n with
  | some (x, c) => (s.decodeError m x false c, none)
  | none =>
    let bad := !(s.markedIn a n).isEmpty
    (s.readMarked a n, if bad && !takesZeros m then none else some (s.dramBytes a n))

/-- A master writes bytes; frames that are not backed become so while capacity lasts (R440). False where the matrix answers
with an error. -/
def masterWrite (s : State) (m a : Nat) (l : List Byte) : State × Bool :=
  match s.accessFault m true a l.length with
  | some (x, c) => (s.decodeError m x true c, false)
  | none =>
    let s := s.over ((framesTouched a l.length).filter fun f => (s.frameAt f).isNone) fun t f =>
      if 0 < t.freeDramFrames then t.backFrame f .host else t
    (s.dramWrite a (l.map some), true)

/-! ### Refresh, retraining, scrub: R451 to R454, R460 -/

/-- Level 51: a channel is DEGRADED. -/
def reportDegraded (s : State) : State := s.level 51 ((List.range s.dev.part.dramChannels).any fun n => s.dramState n == 2)

/-- Start a retrain of an online channel (R453). -/
def startRetrain (s : State) (n : Nat) : State :=
  if s.dramOnline n then (s.setDramChan n { s.dramChan n with retrainDue := false }).setBit (Reg.DRAM_STATUS n) 2 else s

/-- DRAM_REFRESH (R452): postponed intervals are counted, at most 8, and a retrain asked for starts in the window. -/
def dramRefresh (s : State) (n postponed : Nat) : State :=
  if !s.dramOnline n then s
  else
    let s := if postponed = 0 then s else s.countBy (Reg.DRAM_REFRESH_POSTPONED n) (min postponed 8)
    if (s.dramChan n).retrainDue then s.startRetrain n else s

/-- RETRAIN_NOW (R460). -/
def retrainNow (s : State) (n : Nat) : State := if s.dramOnline n then s.setDramChan n { s.dramChan n with retrainDue := true } else s

/-- DRAM_RETRAIN_DONE (R453, R454): `found` a working setting, `changed` from the old one. -/
def retrainDone (s : State) (n : Nat) (found changed : Bool) : State :=
  if !(s.dramOnline n && s.bitOf (Reg.DRAM_STATUS n) 2) then s
  else
    let s := s.clrBit (Reg.DRAM_STATUS n) 2
    if found then
      let s := (s.count (Reg.DRAM_RETRAINS n)).wf (Reg.DRAM_STATUS n) 1 0 1
      (if changed then s.event 50 else s).reportDegraded
    else ((s.wf (Reg.DRAM_STATUS n) 1 0 2).count (Reg.DRAM_RETRAIN_FAILS n)).reportDegraded

/-- PATROL_SCRUB (R451): the scrub of channel n has met these blocks. -/
def patrolScrub (s : State) (n : Nat) (corrected uncorrectable : List Nat) : State :=
  if !s.dramOnline n then s
  else
    let mine (a : Nat) : Bool := isDram a && s.chanOfAddr a == some n
    let s := s.over (corrected.filter mine) eccCorrected
    s.over (uncorrectable.filter mine) eccUncorrectable

/-! ### Offline and migration: R455 to R457 -/

def offlineCommand (s : State) (n : Nat) : State := if s.dramOnline n then s.setDramChan n { s.dramChan n with offlineDue := true } else s

/-- MATRIX.STATUS.MIGRATING. -/
def reportMigrating (s : State) : State :=
  s.putBit Reg.MATRIX_STATUS 1 ((List.range s.dev.part.dramChannels).any fun n => s.bitOf (Reg.DRAM_STATUS n) 3)

/-- Channel n goes offline (R455, R457): event 52, and migration starts when it backs frames. -/
def channelOffline (s : State) (n : Nat) : State :=
  let s := s.setDramChan n { s.dramChan n with offlineDue := false, retrainDue := false }
  let s := (((s.wf (Reg.DRAM_STATUS n) 1 0 3).clrBit (Reg.DRAM_STATUS n) 2).event 52).reportDegraded
  let s : State := { s with mtx := { s.mtx with wentOffline := true } }
  if s.framesOn n = 0 then s.event 57 else (s.setBit (Reg.DRAM_STATUS n) 3).reportMigrating

/-- The demand of R456, in frames. -/
def demandFrames (s : State) : Nat := s.regionFrames + s.loaderFrames + s.rxFrames

/-- The frame map moves a frame to another channel. -/
def moveFrame (s : State) (f m : Nat) : State :=
  match s.frameAt f with
  | none => s
  | some e =>
    let s : State := { s with mtx := { s.mtx with frames := Assoc.put f { e with chan := m } s.mtx.frames } }
    (s.wf (Reg.DRAM_FRAMES e.chan) 19 0 (s.framesOn e.chan - 1)).wf (Reg.DRAM_FRAMES m) 19 0 (s.framesOn m + 1)

/-- End of a migration: event 57 when the channel backs no frame. -/
def migrationCheck (s : State) (n : Nat) : State :=
  if s.bitOf (Reg.DRAM_STATUS n) 3 && decide (s.framesOn n = 0) then ((s.clrBit (Reg.DRAM_STATUS n) 3).reportMigrating).event 57 else s

/-- FRAME_MIGRATED (R457): the copy of the lowest frame of channel n ends, with the blocks of it that could not be
corrected, or the frame is skipped for want of capacity. -/
def frameMigrated (s : State) (n : Nat) (bad : List Nat) : State :=
  if !s.bitOf (Reg.DRAM_STATUS n) 3 then s
  else match s.mtx.frames.find? fun e => e.2.chan == n with
    | none => s.migrationCheck n
    | some (f, e) =>
      if s.capacityFrames < s.backedFrames ∧ e.owner = .host then
        ((s.unbackFrame f).count (Reg.DRAM_MIGRATE_SKIPPED n)).migrationCheck n
      else match s.roomiest with
        | none => s
        | some m =>
          if s.channelFrames ≤ s.framesOn m then s
          else
            let at' (k : Nat) : Nat := dramBase + 65536 * f + 32 * k
            let bad := (bad.filter (· < 2048)).eraseDups
            let s := s.over bad fun t k =>
              let t := (t.eccUncorrectable (at' k)).count (Reg.DRAM_MIGRATE_UE n)
              (t.dramWrite (at' k) (List.replicate 32 (some 0)))
            let s : State := { s with mtx := { s.mtx with marked := bad.map at' ++ s.mtx.marked } }
            ((s.moveFrame f m).count (Reg.DRAM_MIGRATED_FRAMES n)).migrationCheck n

/-- The DRAM channels at the boundary that starts block `b`, but for what an offline channel does to regions. The
occupancy of a channel depends on timing that the manual does not give: a free number. -/
def dramBoundary (s : State) (b : Nat) : State :=
  s.over ((List.range s.dev.part.dramChannels).filter s.dramOnline) fun t n =>
    let u := t.freeWord.toNat % 1001
    let t := (t.windowUe n b).wf (Reg.DRAM_UTIL n) 9 0 u
    (t.wf (Reg.DRAM_UTIL n) 25 16 (max u (t.rf (Reg.DRAM_UTIL n) 25 16))).bumpFree

def dramClearCounts (s : State) (n : Nat) : State :=
  (s.resetRegs [Reg.DRAM_CE_COUNT n, Reg.DRAM_UE_COUNT n, Reg.DRAM_RETRAINS n, Reg.DRAM_RETRAIN_FAILS n,
    Reg.DRAM_MIGRATED_FRAMES n, Reg.DRAM_MIGRATE_UE n, Reg.DRAM_MIGRATE_SKIPPED n, Reg.DRAM_URGENT n,
    Reg.DRAM_REFRESH_POSTPONED n]).wf (Reg.DRAM_UTIL n) 25 16 (s.rf (Reg.DRAM_UTIL n) 9 0)

/-- A write of DRAM[n].CMD (R460). -/
def dramCommand (s : State) (n : Nat) (v : Word) : State :=
  let s := if bitAt v 0 then s.dramClearCounts n else s
  let s := if bitAt v 1 then s.offlineCommand n else s
  if bitAt v 2 then s.retrainNow n else s

def matrixClearCounts (s : State) : State :=
  s.resetRegs [Reg.MATRIX_DECODE_ERRORS, Reg.MATRIX_TIMEOUTS, Reg.MATRIX_LATE_RESPONSES, Reg.MATRIX_ABORTED_BURSTS]

end State

end Sys2Proof.Machine
end

