-- ==== Sys2Proof/Machine/OutStage.lean ====
section
/-! DEFINITION. The output stage: Row programs (R237 to R245), Topiary filters and their replacement (R246 to R252, R543),
biquads and the alignment line (R253, R254), dynamics (R255 to R259), trim and clip (R260, R261) and the steps at which
changes act (R262, R263). -/

namespace Sys2Proof.Machine

/-! ### Items that change at the acting tick: R263 -/

/-- The value of an item at OXP tick n before and after, and the sample of the transition in progress; the changes are
newest first, `cur` is the value in force. -/
def changeAt {α : Type} (cur : α) : List (Nat × α) → Nat → α × α × Option Nat
  | [], _ => (cur, cur, none)
  | (b, old) :: r, n =>
    if n < 32 * b + 64 then changeAt old r n
    else if n < 32 * b + 96 then (old, cur, some (n - (32 * b + 64)))
    else (cur, cur, none)

/-- The value that acts at tick n without a ramp. -/
def actingAt {α : Type} (cur : α) (l : List (Nat × α)) (n : Nat) : α := (changeAt cur l n).2.1

/-- The value of a transition by the formula of R86, narrowed as it says. -/
def ramped (old new : Int) (j : Option Nat) : Int := match j with | some j => blend32 old new j | none => new

/-- 32 times the value of a transition that is held exactly (R543) or moves linearly in dB (R263). -/
def ramp32 (old new : Int) (j : Option Nat) : Int := match j with | some j => 32 * old + (new - old) * (j + 1) | none => 32 * new

/-! ### Instructions: R240 -/

structure RowInstr where
  op : Nat
  a : Nat
  b : Nat
  deriving DecidableEq, Repr

def rowInstr (w : Nat) : RowInstr := ⟨natField w 31 26, natField w 25 16, natField w 15 0⟩

/-- Cycles of an instruction (R240). -/
def rowCost (op : Nat) : Nat :=
  match op with
  | 0 => 1 | 1 => 4 | 2 => 4 | 3 => 36 | 4 => 4 | 5 => 8 | 6 => 8 | 7 => 24 | 8 => 2 | 9 => 4 | 10 => 2 | 11 => 2 | 12 => 2 | 13 => 2 | _ => 1

/-- Slots an opcode uses from operand B. -/
def rowSlots (op : Nat) : Nat := match op with | 2 => 1 | 5 => 5 | 6 => 2 | 7 => 10 | 8 => 1 | _ => 0

def programCost (p : RowProgram) : Nat := p.instr.foldl (fun a w => a + rowCost (rowInstr w).op) 0

/-- Parameter slots of each output of a program (R242). -/
def RowProgram.slots (p : RowProgram) : Nat := if p.n = 0 then 0 else p.params.length / p.n

/-- Range of slot `k` of a program: the limits its opcode defines (R243), unsigned fields as numbers. -/
def slotRange (p : RowProgram) (k cap : Nat) : Option (Int × Int) :=
  (p.instr.map rowInstr).findSome? fun i =>
    if k < i.b ∨ i.b + rowSlots i.op ≤ k then none
    else match i.op, k - i.b with
      | 6, 0 => some (0, (cap : Int))
      | 6, _ => some (1, 65535)
      | 7, 0 => some (-6000, 0)
      | 7, 1 => some (100, 2000)
      | 7, 2 => some (0, 2400)
      | 7, 3 => some (50, 50000)
      | 7, 4 => some (5000, 5000000)
      | 7, 5 => some (0, 1800)
      | 7, 6 => some (-6000, 0)
      | 7, 7 => some (50, 50000)
      | 7, 8 => some (5000, 5000000)
      | 7, 9 => some (0, 192)
      | 8, _ => some (1, 0x7FFFFFFF)
      | _, _ => none

/-- The signed slots of DYN; the others are unsigned. -/
def slotSigned (p : RowProgram) (k : Nat) : Bool :=
  (p.instr.map rowInstr).any fun i => i.op == 7 && (k == i.b || k == i.b + 5 || k == i.b + 6) || i.op == 2 && k == i.b || i.op == 5 && decide (i.b ≤ k) && decide (k < i.b + 5)

def slotValue (p : RowProgram) (k : Nat) (w : Word) : Int := if slotSigned p k then w.toInt else w.toNat

/-- The CAPACITY slot that goes with slot `k`, when `k` is the DELAY slot of a DLY. -/
def capacitySlot (p : RowProgram) (k : Nat) : Option Nat :=
  (p.instr.map rowInstr).findSome? fun i => if i.op = 6 ∧ i.b = k then some (k + 1) else none
def isCapacity (p : RowProgram) (k : Nat) : Bool := (p.instr.map rowInstr).any fun i => i.op == 6 && i.b + 1 == k

/-! ### Dynamics: R256, R257 -/

/-- 1 − exp(−1 / (τ × rate)) in UQ1.31, τ in µs. -/
def ballistic (us rate : Nat) : Int :=
  if us = 0 then 2 ^ 31 else satU 32 (roundFx (fxOne - fxExp (-(fxRat 1000000 (us * rate)))) 31)

/-- 20 log10 of |x| × 2^−frac, × 2^160. -/
def dbOf (x : Int) (frac : Nat) : Fx := 20 * fxLog10 (fxRat x.natAbs (2 ^ frac))

/-- The level of x in Q10.22 (R256 step 1). -/
def levelOf (x : Int) : Int := if x = 0 then -192 * 2 ^ 22 else roundFx (dbOf x 31) 22

/-- The static reduction of R256 step 2 in Q10.22: threshold and knee in 0.01 dB, ratio in 0.01. -/
def staticReduction (level thresh : Int) (ratio knee : Nat) : Int :=
  let o := 100 * level - thresh * 2 ^ 22
  let w : Int := knee * 2 ^ 22
  if 2 * o < -w then 0
  else if 2 * o ≤ w ∧ 0 < w then divEven ((100 - (ratio : Int)) * (2 * o + w) ^ 2) (8 * ratio * w.toNat * 100)
  else if 2 * o > w then divEven ((100 - (ratio : Int)) * o) (ratio * 100)
  else 0

/-- One step of a smoothed reduction. -/
def smooth (g target attack release : Int) : Int :=
  let a := if target < g then attack else release
  divEven (g * 2 ^ 31 + a * (target - g)) (2 ^ 31)

/-- A gain of Q10.22 dB as Q4.28. -/
def dbGain (g : Int) : Int := satU 32 (pow10Round g (20 * 2 ^ 22) 28)

/-- The parameters of DYN at one tick (R255). -/
structure DynParams where
  compThresh : Int
  ratio : Nat
  knee : Nat
  compAttack : Nat
  compRelease : Nat
  /-- MAKEUP in Q10.22. -/
  makeup : Int
  limThresh : Int
  limAttack : Nat
  limRelease : Nat
  laOld : Nat
  laNew : Nat
  laSample : Option Nat

/-- DYN on one sample: V in Q9.55 and the state (R256, R257, R259). -/
def dynStep (p : DynParams) (d : DynState) (x : Int) : Int × DynState :=
  let gc := smooth d.gc (staticReduction (levelOf x) p.compThresh p.ratio p.knee) (ballistic p.compAttack 96000) (ballistic p.compRelease 96000)
  let c := divEven (x * dbGain (gc + p.makeup)) (2 ^ 4)
  let q := if c = 0 then 0 else min 0 (roundFx (fxRat p.limThresh 100 - dbOf c 55) 22)
  let line := (c :: d.line).take 193
  let need := (q :: d.need).take 193
  let la := max p.laOld p.laNew
  let m := (need.take (la + 1)).foldl min 0
  let gl := smooth d.gl m (ballistic p.limAttack 96000) (ballistic p.limRelease 96000)
  let at' (k : Nat) : Int := line.getD k 0
  let delayed := ramped (at' p.laOld) (at' p.laNew) p.laSample
  (divEven (delayed * dbGain gl) (2 ^ 28),
   { gc := gc, gl := gl, line := line, need := need, compressing := d.compressing || decide (gc < 0), limiting := d.limiting || decide (gl < 0) })

/-! ### One run of a program on one tick -/

/-- What a run has done so far. -/
structure RowAcc where
  v : Int := 0
  p : ProgState
  sats : Nat := 0
  clips : Nat := 0
  st : Int := 0
  sends : List (Nat × Int) := []
  mon : Option Int := none
  pilotX : Option Int := none

/-- What a run reads: the output, its place in the program, the tick, the OXP outputs, the slots with their changes, the
trim gain, the limiter offset, the pilot sample, the banks and the weights of R543. -/
structure RowEnv where
  j : Nat
  r : Nat
  tick : Nat
  aux : Bool
  oxp : Nat → Int
  slot : Nat → Int × Int × Option Nat
  trim : Int
  limOffset : Int
  pilot : Int
  /-- Taps of the old and the new bank, and their weights over `den`. -/
  old : List Int
  new : List Int
  uOld : Int
  uNew : Int
  den : Nat
  /-- The weight of the filtered path over 32. -/
  w : Int
  filtered : Bool

/-- Σ h[t] x[n − t] with every product narrowed to Q9.55 (R239). -/
def firHead (h x : List Int) : Int := wrap64 (((h.take 64).zip x).foldl (fun a e => a + divEven (e.1 * e.2) (2 ^ 7)) 0)

/-- The exact tail of R248, in Q.62. -/
def firTail (h x : List Int) : Int := ((h.drop 64).zip (x.drop 64)).foldl (fun a e => a + e.1 * e.2) 0

/-- x narrowed from V, with its saturation counted. -/
def RowAcc.take (a : RowAcc) : Int × RowAcc :=
  let n := divEven a.v (2 ^ 24)
  (satQ31 n, if satQ31 n = n then a else { a with sats := a.sats + 1 })

/-- One instruction (R240). -/
def rowStep (e : RowEnv) (a : RowAcc) (i : RowInstr) : RowAcc :=
  let src := if i.a = 0x3FF then e.j else i.a
  match i.op with
  | 1 => { a with v := e.oxp src * 2 ^ 24 }
  | 2 =>
    let g := e.slot i.b
    { a with v := wrap64 (a.v + divEven (ramped g.1 g.2.1 g.2.2 * e.oxp src) (2 ^ 4)) }
  | 3 =>
    let t := a.take
    let conv := (t.1 :: t.2.p.conv).take 32832
    let a := { t.2 with p := { t.2.p with conv := conv } }
    let x := t.1 * 2 ^ 24
    if !e.filtered then { a with v := x }
    else
      let v := divEven (e.w * (e.uOld * firHead e.old conv + e.uNew * firHead e.new conv) + (32 - e.w) * e.den * x) (32 * e.den)
      { a with v := wrap64 v }
  | 4 =>
    if !e.filtered then a
    else
      let c := a.p.conv
      { a with v := wrap64 (a.v + divEven (e.w * (e.uOld * firTail e.old c + e.uNew * firTail e.new c)) (32 * e.den * 2 ^ 7)) }
  | 5 =>
    let t := a.take
    let s (k : Nat) : Int × Int × Option Nat := e.slot (i.b + k)
    let c0 := (List.range 5).map fun k => (s k).1
    let c1 := (List.range 5).map fun k => (s k).2.1
    let h := (Assoc.get? i.a t.2.p.bq).getD {}
    match (List.range 5).findSome? fun k => (s k).2.2 with
    | some j =>
      let hn := if j = 0 then h else (Assoc.get? i.a t.2.p.bqNew).getD h
      let r := biquadXfade c0 false c1 false h hn t.1 j
      let done := decide (j = 31)
      { t.2 with
        v := r.1 * 2 ^ 24
        p := { t.2.p with bq := Assoc.put i.a (if done then r.2.2 else r.2.1) t.2.p.bq, bqNew := if done then Assoc.del i.a t.2.p.bqNew else Assoc.put i.a r.2.2 t.2.p.bqNew } }
    | none =>
      let r := biquadStep c1 false h t.1
      { t.2 with v := r.1 * 2 ^ 24, p := { t.2.p with bq := Assoc.put i.a r.2 t.2.p.bq } }
  | 6 =>
    let t := a.take
    let line := (t.1 :: t.2.p.align).take 65600
    let d := e.slot i.b
    let at' (k : Int) : Int := line.getD k.toNat 0
    let y := match d.2.2 with | some j => blend32 (at' d.1) (at' d.2.1) j | none => at' d.2.1
    { t.2 with v := y * 2 ^ 24, p := { t.2.p with align := line } }
  | 7 =>
    let t := a.take
    let now (k : Nat) : Int := (e.slot (i.b + k)).2.1
    let m := e.slot (i.b + 5)
    let la := e.slot (i.b + 9)
    let p : DynParams :=
      { compThresh := now 0, ratio := if e.aux then 100 else (now 1).toNat, knee := (now 2).toNat, compAttack := (now 3).toNat
        compRelease := (now 4).toNat, makeup := if e.aux then 0 else divEven (ramp32 m.1 m.2.1 m.2.2 * 2 ^ 22) 3200
        limThresh := clampInt (-6000) 0 (now 6 + e.limOffset), limAttack := (now 7).toNat, limRelease := (now 8).toNat
        laOld := la.1.toNat, laNew := la.2.1.toNat, laSample := la.2.2 }
    let r := dynStep p t.2.p.dyn t.1
    { t.2 with v := wrap64 r.1, p := { t.2.p with dyn := r.2 } }
  | 8 =>
    let t := a.take
    let c := (e.slot i.b).2.1
    let y := clampInt (-c) c t.1
    { t.2 with v := y * 2 ^ 24, clips := t.2.clips + (if y = t.1 then 0 else 1) }
  | 9 =>
    let t := a.take
    { t.2 with v := wrap64 (divEven (t.1 * e.trim) (2 ^ 4)) }
  | 10 => let t := a.take; { t.2 with st := t.1 }
  | 11 => let t := a.take; { t.2 with sends := t.2.sends ++ [(i.a + e.r, t.1)] }
  | 12 => let t := a.take; { t.2 with mon := some t.1 }
  | 13 => let t := a.take; { t.2 with pilotX := some t.1, v := wrap64 (t.2.v + e.pilot * 2 ^ 24) }
  | _ => a

def runProgram (e : RowEnv) (p : ProgState) (prog : RowProgram) : RowAcc := (prog.instr.map rowInstr).foldl (rowStep e) { p := p }

namespace State

def outp (s : State) (j : Nat) : OutState := (Assoc.get? j s.outs.out).getD {}
def setOut (s : State) (j : Nat) (o : OutState) : State := { s with outs := { s.outs with out := Assoc.put j o s.outs.out } }

/-- The program of a version that covers an output, and the filter set (R49, R50). -/
def programOf (v : Version) (j : Nat) : Option RowProgram := v.region.programs.find? fun p => decide (p.first ≤ j) && decide (j < p.first + p.n)
def filterOf (v : Version) (j : Nat) : Option FilterSet := v.region.filters.find? fun f => decide (f.first ≤ j) && decide (j < f.first + f.n)

/-- The version whose program covers output j, the newest one first. -/
def progVersion (s : State) (j : Nat) : Option Version :=
  s.pat.versions.reverse.find? fun v => (programOf v j).isSome
def curProgram (s : State) (j : Nat) : Option RowProgram := (s.progVersion j).bind fun v => programOf v j
/-- The committed filter set of output j: its newest version. -/
def curFilter (s : State) (j : Nat) : Option FilterSet := (s.pat.versions.reverse.find? fun v => (filterOf v j).isSome).bind fun v => filterOf v j

/-- Slot offset and applied value. -/
def slotOff (j k : Nat) : Nat := 0x300000 + 0x400 * j + 4 * k

/-- Remember a change of an item of output j that applies at block b (R263), with the value before it. -/
def noteChange (s : State) (j b o : Nat) (old : Word) : State :=
  let x := s.outp j
  let keep := ((Assoc.get? o x.changes).getD []).filter fun e => decide (b ≤ e.1 + 3)
  s.setOut j { x with changes := Assoc.put o ((b, old) :: keep) x.changes }

/-- The trim level in 0.01 dB (R269, R260). -/
def trimEcal (s : State) (j : Nat) : Int :=
  clampInt (-9600) 1800 ((s.rd (Reg.SPK_TRIM_FCAL j)).toInt + (s.inForce (Reg.SPK_TRIM_UCAL j)).toInt)

/-- The trim gain that the applied values ask for (R260), Q4.28. -/
def trimGain (s : State) (j : Nat) : Int :=
  let st := Reg.SPK_STATUS j
  if s.abit (Reg.SPK_CTRL j) 0 || s.bitOf st 7 || s.trimEcal j == -9600 then 0
  else
    let g := satU 32 (pow10Round (s.trimEcal j) 2000 28)
    if s.abit (Reg.SPK_CTRL j) 1 != s.bitOf st 8 then -g else g

/-- Bring the trim gain of output j up to its settings at block b; a change ramps (R260). -/
def retrim (s : State) (j b : Nat) : State :=
  let x := s.outp j
  let g := s.trimGain j
  let s := if g = x.trim then s else s.setOut j { x with trim := g, trimWas := ((b, x.trim) :: x.trimWas).take 4 }
  let st := Reg.SPK_STATUS j
  (s.putBit st 5 (s.abit (Reg.SPK_CTRL j) 0 || s.bitOf st 7)).putBit st 6 (decide (g < 0))

/-! ### Slots: R242, R243, R262 -/

/-- A write of a slot: ignored beyond P and for CAPACITY; the value is clamped into its range where it applies. -/
def slotWrite (s : State) (j k : Nat) (v : Word) : State :=
  match s.curProgram j with
  | none => s
  | some p =>
    if p.slots ≤ k ∨ isCapacity p k then s
    else
      let o := slotOff j k
      let s := s.wr o v
      { s with outs := { s.outs with bank := s.outs.bank.write o (s.autoBlock Reg.OUTS_CTRL 0) } }

/-- A slot value clamped into its range (R243), and whether it was. -/
def clampSlot (s : State) (p : RowProgram) (j k : Nat) (w : Word) : Word × Bool :=
  let cap := match capacitySlot p k with | some c => (s.inForce (slotOff j c)).toNat | none => 0
  match slotRange p k cap with
  | none => (w, false)
  | some (lo, hi) =>
    let x := slotValue p k w
    if x < lo ∨ hi < x then (wordOfInt (clampInt lo hi x), true) else (w, false)

/-- Refresh LATENCY: applied LOOKAHEAD plus DELAY (R259). -/
def reportLatency (s : State) (j : Nat) : State :=
  match s.curProgram j with
  | none => s.wr (Reg.SPK_LATENCY j) 0
  | some p =>
    let sum := (p.instr.map rowInstr).foldl (fun a i =>
      if i.op = 6 then a + (s.inForce (slotOff j i.b)).toNat else if i.op = 7 then a + (s.inForce (slotOff j (i.b + 9))).toNat else a) 0
    s.wf (Reg.SPK_LATENCY j) 16 0 sum

/-- SHADOW_PENDING of an output (R262). -/
def outPending (s : State) (j : Nat) : Bool :=
  (s.outs.bank.pending.any fun e => e.1 == Reg.SPK_CTRL j || e.1 == Reg.SPK_TRIM_UCAL j || (decide (slotOff j 0 ≤ e.1) && decide (e.1 < slotOff j 256)))

/-- A write to SPK[j].CTRL or TRIM_UCAL goes to the shadow (R262); the register file already holds it. -/
def outShadow (s : State) (o : Nat) : State :=
  { s with outs := { s.outs with bank := s.outs.bank.write o (s.autoBlock Reg.OUTS_CTRL 0) } }

/-- Apply one output-stage shadow at the boundary that starts block b (R263). -/
def applyOut (s : State) (b o : Nat) : State :=
  if 0x300000 ≤ o then
    let j := (o - 0x300000) / 0x400
    let k := (o - 0x300000) % 0x400 / 4
    match s.curProgram j with
    | none => s
    | some p =>
      let c := s.clampSlot p j k (s.rd o)
      let s := if c.2 then (s.setBit (Reg.SPK_STICKY j) 2).wr o c.1 else s
      if s.inForce o = c.1 then s else (((s.noteChange j b o (s.inForce o)).enforce o c.1).reportLatency j)
  else
    let j := (o - 0x140000) / 0x200
    let was := s.inForce o
    let s := s.enforce o (s.rd o)
    let s := if o = Reg.SPK_CTRL j ∧ was ≠ s.rd o then s.noteChange j b o was else s
    s.retrim j b

/-- The output-stage shadows due at the boundary that starts block b (R262). Changes of filters, limiter thresholds and
polarity by software come out for R294. -/
def outsShadows (s : State) (b : Nat) : State × List Nat :=
  let r := s.outs.bank.due b
  let applied := s.outs.bank.applyAt.isSome && !r.2.applyAt.isSome
  let s : State := { s with outs := { s.outs with bank := r.2 } }
  let s := if applied then s.clrBit Reg.OUTS_STATUS 0 else s
  let changed := r.1.filter fun o => s.inForce o != s.rd o
  (s.over r.1 fun t o => t.applyOut b o, changed)

def outsAccepted (s : State) : State := s.clrBit Reg.OUTS_STATUS 1
def outsRefused (s : State) : State := s.setBit Reg.OUTS_STATUS 1

/-- OUTS.CMD.APPLY (R262). -/
def outsApply (s : State) : State :=
  match s.targetBlock Reg.OUTS_APPLY_BLOCK_LO with
  | none => s.outsRefused
  | some t => ({ s with outs := { s.outs with bank := { s.outs.bank with applyAt := some t } } }.outsAccepted).setBit Reg.OUTS_STATUS 0

/-! ### Filters: R250 to R252 -/

/-- The outputs a TARGET register names, or none when they pass output 511 (R265). -/
def targets (s : State) (o : Nat) : Option (List Nat) :=
  let first := s.rf o 8 0
  let n := s.rf o 25 16
  if n = 0 ∨ 512 < first + n then none else some ((List.range n).map (first + ·))

def stagedCoef (s : State) : Nat := s.rd64 Reg.OUTS_STAGE_ADDR_LO

/-- OUTS.CMD.PREPARE (R250): refused, or the coefficients are copied. The outputs it names come out for R294. -/
def prepareFilters (s : State) : State × List Nat :=
  let taps := s.rf Reg.OUTS_STAGE_TAPS 15 0
  let blocked (j : Nat) : Bool :=
    let x := s.outp j
    (match s.curFilter j with | some f => decide (f.taps < taps) | none => true) ||
    s.bitOf (Reg.SPK_STATUS j) 3 || s.bitOf (Reg.SPK_STATUS j) 2 || x.gaugeStandby
  match s.targets Reg.OUTS_TARGET with
  | none => (s.outsRefused, [])
  | some l =>
    if s.bitOf Reg.OUTS_STATUS 2 || decide (taps < 64) || decide (32768 < taps) || l.any blocked then (s.outsRefused, [])
    else
      let r := s.masterRead 6 s.stagedCoef (4 * taps * l.length)
      let s := r.1
      let coefs : List Int := match r.2 with | some b => (wordsOf b).map (·.toInt) | none => []
      ({ ((s.outsAccepted).setBit Reg.OUTS_STATUS 2) with outs := { s.outs with prepare := some (l, taps, coefs) } }, l)

/-- PREPARE_DONE (R250): the standby banks are ready, or a read error, of the copy or of the environment's, empties them and raises event 26. -/
def prepareDone (s : State) (ok : Bool) : State :=
  match s.outs.prepare with
  | none => s
  | some (l, taps, coefs) =>
    let s : State := { (s.clrBit Reg.OUTS_STATUS 2) with outs := { s.outs with prepare := none } }
    if ok && coefs.length == taps * l.length then
      s.over l.zipIdx fun t e =>
        (t.setOut e.1 { t.outp e.1 with standby := (coefs.drop (taps * e.2)).take taps, gaugeStandby := false }).setBit (Reg.SPK_STATUS e.1) 4
    else
      let s := s.over l fun t j => (t.setOut j { t.outp j with standby := [], gaugeStandby := false }).clrBit (Reg.SPK_STATUS j) 4
      (s.count Reg.OUTS_PREP_FAILS).event 26

/-- SWAP_PENDING and XFADES (R265). -/
def reportSwaps (s : State) : State :=
  let q := s.outs.out.any fun e => e.2.queued.isSome
  (s.putBit Reg.OUTS_STATUS 3 q).wf Reg.OUTS_STATUS 15 8 (min (s.outs.out.filter fun e => e.2.xfade.isSome).length 128)

/-- OUTS.CMD.SWAP (R251). -/
def swapFilters (s : State) : State :=
  match s.targets Reg.OUTS_TARGET, s.targetBlock Reg.OUTS_SWAP_BLOCK_LO with
  | some l, some b =>
    let ready := l.filter fun j => s.bitOf (Reg.SPK_STATUS j) 4
    if s.bitOf Reg.OUTS_STATUS 2 || ready.isEmpty then s.outsRefused
    else
      let k := s.outs.swaps + 1
      let s : State := { s.outsAccepted with outs := { s.outs with swaps := k } }
      (s.over ready fun t j => (t.setOut j { t.outp j with queued := some (b, k) }).setBit (Reg.SPK_STATUS j) 3).reportSwaps
  | _, _ => s.outsRefused

/-- OUTS.CMD.DISCARD (R252). -/
def discardFilters (s : State) : State :=
  match s.targets Reg.OUTS_TARGET with
  | none => s.outsRefused
  | some l => s.outsAccepted.over (l.filter fun j => !s.bitOf (Reg.SPK_STATUS j) 3 && !(s.outp j).gaugeStandby) fun t j =>
      (t.setOut j { t.outp j with standby := [] }).clrBit (Reg.SPK_STATUS j) 4

/-- Queued outputs start their crossfades at the boundary that starts block b, within SWAP_LIMIT (R251 step 1). Those that
the host swaps in become base (R294). -/
def startSwaps (s : State) (b : Nat) : State :=
  let due := s.outs.out.filter fun e => match e.2.queued with | some (k, _) => decide (k ≤ b) | none => false
  let room := s.rf Reg.OUTS_SWAP_CFG 23 16 - (s.outs.out.filter fun e => e.2.xfade.isSome).length
  let len := 32 * s.rf Reg.OUTS_SWAP_CFG 8 0
  (s.over (due.take room) fun t e =>
    let cmd := match e.2.queued with | some (_, k) => k | none => 0
    let x := t.outp e.1
    let t := t.setOut e.1 { x with queued := none, xfade := some ⟨b, len, cmd⟩, base := if cmd = 0 then x.base else x.standby }
    ((t.clrBit (Reg.SPK_STATUS e.1) 3).setBit (Reg.SPK_STATUS e.1) 2).clrBit (Reg.SPK_STATUS e.1) 4).reportSwaps

/-- The filter crossfade of output j is over at OXP tick n (R251 step 2). -/
def xfadeOver (x : OutState) (n : Nat) : Bool := match x.xfade with | some f => decide (32 * f.block + 64 + f.len ≤ n) | none => false

/-- FILTER_XFADE_END (R251 steps 3 and 4). -/
def filterXfadeEnd (s : State) (j : Nat) : State :=
  let x := s.outp j
  match x.xfade with
  | none => s
  | some f =>
    if !xfadeOver x s.tick then s
    else
      let s := s.setOut j { x with xfade := none, active := x.standby, standby := x.active, gaugeStandby := false }
      let s := ((s.clrBit (Reg.SPK_STATUS j) 2).count Reg.OUTS_SWAPS).wr (Reg.SPK_XFADE j) 0
      let more := f.cmd != 0 && s.outs.out.any fun e =>
        (match e.2.xfade with | some g => g.cmd == f.cmd | none => false) || (match e.2.queued with | some (_, k) => k == f.cmd | none => false)
      (if f.cmd ≠ 0 ∧ !more then s.event 25 else s).reportSwaps

/-- XFADE: blocks left of the crossfades at the boundary that starts block b (R267). -/
def reportXfades (s : State) (b : Nat) : State :=
  s.over s.outs.out fun t e => match e.2.xfade with
    | some f => t.wf (Reg.SPK_XFADE e.1) 8 0 (min (f.block + 2 + f.len / 32 - b) (f.len / 32))
    | none => t

/-! ### Output micro-blocks: R237 -/

/-- The weights of a bank swap at tick n over `den`, with the taps they weigh. -/
def bankWeights (x : OutState) (n : Nat) : List Int × List Int × Int × Int × Nat :=
  match x.xfade with
  | none => (x.active, x.active, 1, 0, 1)
  | some f =>
    let start := 32 * f.block + 64
    if n < start then (x.active, x.standby, 1, 0, 1)
    else if start + f.len ≤ n then (x.active, x.standby, 0, 1, 1)
    else (x.active, x.standby, (f.len - 1 - (n - start) : Nat), (n - start + 1 : Nat), f.len)

/-- The environment of a run of a program of version v on output j at tick n. -/
def rowEnv (s : State) (v : Version) (p : RowProgram) (ps : ProgState) (j n : Nat) (pilot : Int) : RowEnv :=
  let x := s.outp j
  let outs := (s.xp.oxp.lookup n).getD []
  let slot (k : Nat) : Int × Int × Option Nat :=
    match ps.frozen with
    | some f => let w := slotValue p k (f.1.getD k 0); (w, w, none)
    | none =>
      let r := changeAt (s.inForce (slotOff j k)) ((Assoc.get? (slotOff j k) x.changes).getD []) n
      (slotValue p k r.1, slotValue p k r.2.1, r.2.2)
  let t := changeAt x.trim x.trimWas n
  let ctrl := changeAt (s.inForce (Reg.SPK_CTRL j)) ((Assoc.get? (Reg.SPK_CTRL j) x.changes).getD []) n
  let w (c : Word) : Int := if bitAt c 2 then 0 else 1
  let b := match ps.frozen with | some f => (f.2, f.2, 1, 0, 1) | none => bankWeights x n
  { j := j, r := j - p.first, tick := n, aux := decide (512 ≤ j), oxp := fun d => (outs.lookup d).getD 0, slot := slot
    trim := ramped t.1 t.2.1 t.2.2, limOffset := actingAt (s.rd (Reg.SPK_LIM_OFFSET j)).toInt x.limWas n
    pilot := pilot
    old := b.1, new := b.2.1, uOld := b.2.2.1, uNew := b.2.2.2.1, den := b.2.2.2.2
    w := ramp32 (w ctrl.1) (w ctrl.2.1) ctrl.2.2
    filtered := (s.curFilter j).isSome || (filterOf v j).isSome }

/-- The pilot sample of output j at tick n (R277): chip times the gain of the block, on its ramp. -/
def pilotSample (s : State) (j n : Nat) : Int :=
  let x := s.outp j
  if x.pilotOld = 0 ∧ x.pilotNew = 0 then 0
  else satQ31 (pilotChip j n * ramped x.pilotOld x.pilotNew (some (n % 32)))

/-- The pilot gain of output j for the block that starts at tick n, from x at PILOT over the block before (R277). -/
def updatePilot (s : State) (j n : Nat) : State :=
  let x := s.outp j
  let on := s.bitOf Reg.GAUGE_CTRL 0 && s.bitOf Reg.GAUGE_CTRL 2 && s.abit (Reg.SPK_GCTRL j) 1 && s.dev.part.hasGauge
  let sum := (x.pilotX.foldl (fun a v => a + v * v) 0).toNat
  let cfg := s.inForce Reg.GAUGE_PILOT_CFG
  let g : Int :=
    if !on || sum == 0 then 0
    else
      let l := 10 * fxLog10 (fxRat sum (32 * 2 ^ 62))
      if l < -(fxInt (fld cfg 23 16)) then 0
      else
        let ecal := effective (s.rd Reg.GAUGE_PILOT_FCAL) (s.inForce Reg.GAUGE_PILOT_UCAL) 2000
        let e := l - fxRat (fld cfg 9 0) 10 + fxRat ecal 100
        min (roundFx (fxPow10 (e.fdiv 20)) 31) (roundFx (fxRat 1 10) 31)
  if n % 32 = 0 then s.setOut j { x with pilotOld := x.pilotNew, pilotNew := g, pilotX := [] } else s

end State

/-- The programs of an output that take lines over do so (R245): from the version before them. -/
def OutState.inherit (x : OutState) (takes : ProgState → Bool) : OutState :=
  let old (q : ProgState) : Option ProgState := x.progs.foldl (fun a p =>
    if q.uid ≤ p.uid then a else match a with | some r => if r.uid < p.uid then some p else a | none => some p) none
  { x with progs := x.progs.map fun q => match takes q && (q.heir.1 || q.heir.2), old q with
      | true, some p => { q with conv := if q.heir.1 then p.conv else [], align := if q.heir.2 then p.align else [], heir := (false, false) }
      | _, _ => q }

/-- The ramps of a full load on the values that ST, SEND and MON take: out over the audio of blocks B − 2 and B − 1, in over the
first 64 samples of block B + 3 (R59). -/
def Version.loadRamp (v : Version) (b i : Nat) (x : Int) : Int :=
  let x := match v.enter with
    | some (.load c) => let k := 32 * (b - c - 3) + i; if k < 64 then divEven (x * (k + 1)) 64 else x
    | _ => x
  match v.leave with
  | some (.load c) => let k := 32 * (b + 2 - c) + i; if b + 2 < c then x else if k < 64 then divEven (x * (63 - (k : Int))) 64 else 0
  | _ => x

namespace State

/-- A sum of weighted values in Q9.55 narrowed to Q1.31 (R303). -/
def meet (l : List Int) : Int := satQ31 (divEven (wrap64 (l.foldl (· + ·) 0)) (2 ^ 24))

/-- Output j at OXP tick n: every version that renders the tick's audio runs its program; the values of ST, SEND and MON
join under the weights of R303. -/
def runOutput (s : State) (j n : Nat) : State :=
  let b := if n < 64 then 0 else (n - 64) / 32
  let vs := s.pat.versions.filter fun v => (programOf v j).isSome && v.runs b
  let newest := s.progVersion j
  let s := s.updatePilot j n
  let s := if (s.outp j).progs.any fun q => q.heir.1 || q.heir.2 then s.setOut j ((s.outp j).inherit fun q => vs.any fun v => v.uid == q.uid) else s
  let pv := s.pilotSample j n
  let r := vs.foldl (fun (a : State × List (Version × RowAcc)) v =>
    match programOf v j with
    | none => a
    | some p =>
      let x := a.1.outp j
      let ps := (x.progs.find? fun q => q.uid == v.uid).getD { uid := v.uid }
      let acc := runProgram (a.1.rowEnv v p ps j n pv) ps p
      let x := { x with progs := acc.p :: x.progs.filter fun q => q.uid != v.uid }
      let x := if newest.map (·.uid) = some v.uid then (match acc.pilotX with | some y => { x with pilotX := (y :: x.pilotX).take 32 } | none => x) else x
      let t := a.1.setOut j x
      let t := if acc.sats = 0 then t else (t.countBy (Reg.SPK_SAT_COUNT j) acc.sats).setBit (Reg.SPK_STICKY j) 1
      let t := if acc.clips = 0 then t else (t.countBy (Reg.SPK_CLIP_COUNT j) acc.clips).setBit (Reg.SPK_STICKY j) 0
      (t, a.2 ++ [(v, acc)])) (s, [])
  let s := r.1
  let weigh (v : Version) (x : Int) : Int := v.loadRamp b (n % 32) (v.weigh b (n % 32) (x * 2 ^ 24))
  let st := meet (r.2.map fun e => weigh e.1 e.2.st)
  let chans := ((r.2.map fun e => e.2.sends.map (·.1)).flatten).eraseDups
  let sends := chans.map fun c => (c, meet (r.2.map fun e => weigh e.1 ((e.2.sends.lookup c).getD 0)))
  let mon := if r.2.any fun e => e.2.mon.isSome then some (meet (r.2.map fun e => weigh e.1 (e.2.mon.getD 0))) else none
  let x := s.outp j
  let s := s.setOut j { x with raw := ((n, st, sends, mon) :: x.raw).take 16 }
  let level := if st = 0 then 9600 else (clampInt 0 9600 (roundFx (-(100 * dbOf st 31)) 0)).toNat
  if level < s.rf (Reg.SPK_PEAK j) 15 0 then s.wf (Reg.SPK_PEAK j) 15 0 level else s

/-- An output whose OUT_ROW instance was cancelled before dispatch does not run in that block: its lines advance with zero
input (R205). -/
def skipOutput (s : State) (j n : Nat) : State :=
  let x := s.outp j
  let idle (p : ProgState) : ProgState := { p with conv := (0 :: p.conv).take 32832, align := (0 :: p.align).take 65600 }
  s.setOut j { x with progs := x.progs.map idle, raw := ((n, 0, [], none) :: x.raw).take 16 }

/-- The value of tick n of output j leaves (R237), as the OUTPUT j domain delivers it (R212, R240). -/
def leaveOutput (s : State) (j n : Nat) : State × Int × List (Nat × Int) × Option Int :=
  let x := s.outp j
  let v := (x.raw.lookup n).getD (0, [], none)
  let c := s.outConceal j
  let late := c.late.isSome && c.late == some (n / 32 - 2)
  let phase := if n % 32 = 0 then
      (match nextPhase c.phase late, c.phase with | .normal, _ => .normal | p, _ => p)
    else c.phase
  let back := x.sent.getD 31 (0, [], none)
  let f (a b : Int) : Int := concealValue phase a b
  let chans := ((v.2.1.map (·.1)) ++ (if phase = .normal then [] else back.2.1.map (·.1))).eraseDups
  let st := f v.1 back.1
  let sends := chans.map fun k => (k, f ((v.2.1.lookup k).getD 0) ((back.2.1.lookup k).getD 0))
  let mon := match v.2.2, back.2.2 with | none, none => none | a, b => some (f (a.getD 0) (b.getD 0))
  let s := s.setOut j { x with sent := ((st, sends, mon) :: x.sent).take 32 }
  let c' : OutConceal := { c with phase := stepPhase phase, late := if n % 32 = 31 ∧ late then none else c.late }
  let s := if phase = .normal ∧ c.late.isNone then s else s.setOutConceal j c'
  (s.putBit (Reg.SPK_STATUS j) 11 (concealing phase), st, sends, mon)

/-- The outputs that a committed program covers. -/
def programmed (s : State) : List Nat :=
  ((s.pat.versions.map fun v => (v.region.programs.map fun p => (List.range p.n).map (p.first + ·)).flatten).flatten).eraseDups

/-- OUTPUT_MICRO_BLOCK (R237) at a tick that is a multiple of 4: the programs run on the last four ticks, and the four ticks
before them leave. The assignment of R244 has no effect on values, and the load it gives is not the manual's: a free
number within its limit of 75 %. -/
def outputMicroBlock (s : State) : State :=
  let t := s.tick
  let js := s.programmed
  let s := s.over [t - 4, t - 3, t - 2, t - 1] fun u n => u.over js fun w j =>
    if (w.outConceal j).skip == some (n / 32) then w.skipOutput j n else w.runOutput j n
  let leave (u : State) (n : Nat) : State :=
    let r := js.foldl (fun (a : State × List (Nat × Int) × List (Nat × Int) × List (Nat × Int)) j =>
      let x := a.1.leaveOutput j n
      (x.1, a.2.1 ++ [(j, x.2.1)], a.2.2.1 ++ x.2.2.1, match x.2.2.2 with | some m => a.2.2.2 ++ [(j, m)] | none => a.2.2.2)) (u, [], [], [])
    { r.1 with outs := { r.1.outs with ports := ((n, r.2.1) :: r.1.outs.ports).take 96 }
               net := { r.1.net with sendRing := ((n, r.2.2.1) :: r.1.net.sendRing).take 2048, monRing := ((n, r.2.2.2) :: r.1.net.monRing).take 2048 } }
  let s := if t < 8 then s else s.over [t - 8, t - 7, t - 6, t - 5] leave
  if js.isEmpty then s.wf Reg.OUTS_SEQ_LOAD 9 0 0
  else
    let load := s.freeWord.toNat % 751
    ((s.wf Reg.OUTS_SEQ_LOAD 9 0 load).wf Reg.OUTS_SEQ_LOAD 25 16 (max load (s.rf Reg.OUTS_SEQ_LOAD 25 16))).bumpFree

/-- GR_COMP, GR_LIM, LIMITING and COMPRESSING of the block before (R258). -/
def reportDynamics (s : State) : State :=
  s.over s.programmed fun t j =>
    match (t.progVersion j).bind fun v => (t.outp j).progs.find? fun p => p.uid == v.uid with
    | none => t
    | some p =>
      let gr (g : Int) : Nat := min (divEven (-g * 100) (2 ^ 22)).toNat 65535
      let put (u : State) (o n : Nat) : State := (u.wf o 15 0 n).wf o 31 16 (max n (u.rf o 31 16))
      let t := put (put t (Reg.SPK_GR_COMP j) (gr p.dyn.gc)) (Reg.SPK_GR_LIM j) (gr p.dyn.gl)
      let t := (t.putBit (Reg.SPK_STATUS j) 9 p.dyn.limiting).putBit (Reg.SPK_STATUS j) 10 p.dyn.compressing
      let t := if p.dyn.limiting then (t.count (Reg.SPK_LIM_BLOCKS j)).setBit (Reg.SPK_STICKY j) 3 else t
      let x := t.outp j
      t.setOut j { x with progs := x.progs.map fun q => { q with dyn := { q.dyn with limiting := false, compressing := false } } }

/-! ### Commits: R242, R245, R308 -/

/-- A version's programs and filters take effect at its commit block b: slots are written, filter banks filled, and the
version it replaces keeps its own for the audio it still renders (R245, R306). -/
def commitOutputs (s : State) (v : Version) (b : Nat) : State :=
  let filters := (v.region.filters.map fun f => (List.range f.n).map fun r => (f.first + r, (f.coefs.drop (f.taps * r)).take f.taps)).flatten
  let progs := (v.region.programs.map fun p => (List.range p.n).map fun r => (p.first + r, p, r)).flatten
  let freeze (t : State) (j : Nat) : State :=
    let x := t.outp j
    let slots := (List.range 256).map fun k => t.inForce (slotOff j k)
    t.setOut j { x with progs := x.progs.map fun q => if q.uid = v.uid ∨ q.frozen.isSome then q else { q with frozen := some (slots, x.active) } }
  let s := s.over ((filters.map (·.1) ++ progs.map (·.1)).eraseDups) freeze
  let s := s.over filters fun t e =>
    (t.setOut e.1 { t.outp e.1 with active := e.2, standby := [], base := e.2, queued := none, xfade := none, gaugeStandby := false }).setBit (Reg.SPK_STATUS e.1) 1
  let s := s.over progs fun t (e : Nat × RowProgram × Nat) =>
    let p := e.2.1
    let x := t.outp e.1
    let old := x.progs.head?.isSome && !t.pat.versions.any fun w => w.gone && some w.uid == x.progs.head?.map (·.uid)
    let has (op : Nat) : Bool := p.instr.any fun w => (rowInstr w).op == op
    let fresh : ProgState := { uid := v.uid, heir := (old && has 3, old && has 6) }
    let t := t.setOut e.1 { x with progs := fresh :: x.progs, changes := x.changes.filter fun c => decide (c.1 < 0x300000) }
    let t := t.over (List.range 256) fun u k =>
      let w := if k < p.slots then p.params.getD (e.2.2 * p.slots + k) 0 else 0
      (u.wr (slotOff e.1 k) w).enforce (slotOff e.1 k) w
    let t := ((t.setBit (Reg.SPK_STATUS e.1) 0).wr (Reg.SPK_PROGRAM e.1) (BitVec.ofNat 32 (p.id + e.2.2 * 65536))).reportLatency e.1
    t.retrim e.1 b
  s.over filters fun t e => t.wr (Reg.SPK_FILTER e.1) (BitVec.ofNat 32 (((t.curFilter e.1).map (·.id)).getD 0 + ((t.curFilter e.1).map (·.taps)).getD 0 * 65536))

/-- A version has retired: outputs that no other version programs or filters lose their state (R245, R311). -/
def retireOutputs (s : State) (v : Version) : State :=
  let ps := (v.region.programs.map fun p => (List.range p.n).map (p.first + ·)).flatten
  let fs := (v.region.filters.map fun p => (List.range p.n).map (p.first + ·)).flatten
  let s := s.over ps fun t j =>
    let x := (t.outp j).inherit fun _ => true
    let t := t.setOut j { x with progs := x.progs.filter fun q => q.uid != v.uid }
    if (t.curProgram j).isSome then t
    else
      let t := ((t.clrBit (Reg.SPK_STATUS j) 0).wr (Reg.SPK_PROGRAM j) 0).wr (Reg.SPK_LATENCY j) 0
      t.over (List.range 256) fun u k => (u.wr (slotOff j k) 0).enforce (slotOff j k) 0
  s.over fs fun t j =>
    if (t.curFilter j).isSome then t
    else
      let x := t.outp j
      let t := t.setOut j { x with active := [], standby := [], base := [], queued := none, xfade := none, gaugeStandby := false }
      (((((t.clrBit (Reg.SPK_STATUS j) 1).clrBit (Reg.SPK_STATUS j) 2).clrBit (Reg.SPK_STATUS j) 3).clrBit (Reg.SPK_STATUS j) 4).wr (Reg.SPK_FILTER j) 0).reportSwaps

/-- A full load discards standby banks, queued swaps and crossfades (R252); the old programs keep their slots and taps for the
audio of blocks B − 2 and B − 1 (R59). -/
def clearOutputs (s : State) : State :=
  let s := s.over s.programmed fun t j =>
    let x := t.outp j
    let slots := (List.range 256).map fun k => t.inForce (slotOff j k)
    let progs := x.progs.map fun q => if q.frozen.isSome then q else { q with frozen := some (slots, x.active) }
    t.setOut j { x with progs := progs }
  let clear (x : OutState) : OutState :=
    { x with changes := x.changes.filter fun c => decide (c.1 < 0x300000), active := [], standby := [], base := [], queued := none, xfade := none
             gaugeStandby := false }
  { s with outs := { s.outs with out := s.outs.out.map fun e => (e.1, clear e.2), prepare := none } }

/-- SPK[j].CMD.CLEAR_COUNTS (R267). -/
def spkClearCounts (s : State) (j : Nat) : State :=
  let s := s.resetRegs [Reg.SPK_PEAK j, Reg.SPK_LIM_BLOCKS j, Reg.SPK_CLIP_COUNT j, Reg.SPK_SAT_COUNT j]
  (s.wf (Reg.SPK_GR_COMP j) 31 16 0).wf (Reg.SPK_GR_LIM j) 31 16 0

/-- OUTS.CMD.CLEAR_COUNTS (R264). -/
def outsClearCounts (s : State) : State :=
  let s := (s.outsAccepted.resetRegs [Reg.OUTS_SWAPS, Reg.OUTS_PREP_FAILS]).wf Reg.OUTS_SEQ_LOAD 25 16 0
  s.over ((List.range 640).filter s.dev.part.hasOutput) spkClearCounts

end State

end Sys2Proof.Machine
end

