-- ==== Sys2Proof/Machine/Gauge.lean ====
section
/-! DEFINITION. Gauge: shadows (R271), measurement inputs and their faults (R273 to R275), correlation (R278 to R280), sense,
faults, polarity and temperature (R281 to R285), updates (R286, R287) and the adaptive loops (R289 to R294). -/

namespace Sys2Proof.Machine

/-- The pilot period N (R276). -/
def pilotPeriod : Nat := 262143

/-- |H(f)|² at bin k of an n-point transform of a response, in taps² × 2^160. -/
def dftPower (h : List Int) (n k : Nat) : Fx :=
  let sum (f : Nat → Fx) : Fx := h.zipIdx.foldl (fun a e => a + e.1 * f e.2) 0
  let re := sum fun t => cosPi ((2 * k * t : Nat)) n
  let im := sum fun t => sinPi ((2 * k * t : Nat)) n
  fxMul re re + fxMul im im

/-- Band b of R291 over the transform of a response of K taps: 10 log10 of the mean power, in dB × 2^160; none without power. -/
def bandLevel (h : List Int) (b : Nat) : Option Int :=
  let n := h.length
  let edge (e : Int) : Fx := 1000 * fxPow10 (fxRat (2 * b - 34 + e) 20)
  let inBand := (List.range (n / 2 + 1)).filter fun k => decide (edge (-1) * n ≤ fxInt (k * 96000 : Nat)) && decide (fxInt (k * 96000 : Nat) ≤ edge 1 * n)
  let bins := if inBand.isEmpty then [(roundFx ((edge 0 * n).fdiv 96000) 0).toNat] else inBand
  let mean := (bins.foldl (fun a k => a + dftPower h n k) 0).fdiv (bins.length : Nat)
  if mean ≤ 0 then none else some (10 * fxLog10 mean)

/-- The last sample of a job is tick `ends − 1`. -/
def Job.ends (j : Job) : Nat := j.t0 + j.lag + pilotPeriod

/-- Sample r[n] of a job with the pilot samples of its output, newest (tick n) first (R279 steps 1 and 2). -/
def Job.step (j : Job) (n : Nat) (r : Int) (p : List Int) : Job :=
  let now := p.headD 0
  let j := if j.t0 ≤ n ∧ n < j.t0 + pilotPeriod then { j with energy := wrap64 (j.energy + divEven (now * now) (2 ^ 7)) } else j
  if j.t0 + j.lag ≤ n ∧ n < j.ends then
    { j with acc := j.acc.zipIdx.map fun a => wrap64 (a.1 + divEven (r * p.getD (j.lag + a.2) 0) (2 ^ 7)) }
  else j

/-- h of a job (R279 step 3), and whether the job is valid. -/
def Job.response (j : Job) : List Int × Bool :=
  let h := if 0 < j.energy then j.acc.map fun a => satS 32 (divEven (a * 2 ^ 28) j.energy.toNat) else []
  let tail := h.drop (3 * j.taps / 4)
  let peak := h.foldl (fun a x => max a x.natAbs) 0
  let sum := tail.foldl (fun a x => a + x.natAbs ^ 2) 0
  (h, !j.spoiled && decide (0 < j.energy) && decide (256 * sum ≤ peak ^ 2 * tail.length))

namespace State

def meas (s : State) (m : Nat) : MeasState := (Assoc.get? m s.gauge.meas).getD {}
def setMeas (s : State) (m : Nat) (x : MeasState) : State := { s with gauge := { s.gauge with meas := Assoc.put m x s.gauge.meas } }
def gout (s : State) (j : Nat) : GaugeOut := (Assoc.get? j s.gauge.out).getD {}
def setGout (s : State) (j : Nat) (x : GaugeOut) : State := { s with gauge := { s.gauge with out := Assoc.put j x s.gauge.out } }

def gaugeAccepted (s : State) : State := s.clrBit Reg.GAUGE_STATUS 1
def gaugeRefused (s : State) : State := s.setBit Reg.GAUGE_STATUS 1

/-! ### Updates: R286, R287 -/

/-- A loop decides an update in the block in progress: its target block, and in a pair the epoch it will travel in. Only the
holder of a pair issues (R286, R429). -/
def issueUpdate (s : State) (j : Nat) (k : UpdateKind) : State :=
  let role := s.rf Reg.HEDGE_STATUS 1 0
  if role = 1 ∨ role = 3 then s
  else
    let topiary := match k with | .topiary _ => true | _ => false
    let lead := if topiary then s.af Reg.GAUGE_EPOCH_CFG 25 16 else s.af Reg.GAUGE_EPOCH_CFG 7 0
    let least := if role = 0 then 0 else if topiary then 48 else 4
    let u : GaugeUpdate := ⟨j, s.block + max lead least, k⟩
    let s := s.count Reg.GAUGE_UPDATES
    { s with gauge := { s.gauge with updates := s.gauge.updates ++ [u] }
             hedge := { s.hedge with unsent := if role = 2 then s.hedge.unsent ++ [u] else s.hedge.unsent } }

/-- The applied correction vector of an output (CORR, R298). -/
def corrVector (s : State) (j : Nat) : List Int :=
  (List.range 31).map fun b => if b % 2 = 0 then s.rsf (Reg.SPK_CORR j (b / 2)) 15 0 else s.rsf (Reg.SPK_CORR j (b / 2)) 31 16

def setCorr (s : State) (j : Nat) (v : List Int) : State :=
  s.over (List.range 31) fun t b =>
    let n := (v.getD b 0 % 65536).toNat
    if b % 2 = 0 then t.wf (Reg.SPK_CORR j (b / 2)) 15 0 n else t.wf (Reg.SPK_CORR j (b / 2)) 31 16 n

/-- The limiter offset of output j changes at block b without a step (R286, R263). -/
def setLimOffset (s : State) (j b : Nat) (v : Int) : State :=
  let old := (s.rd (Reg.SPK_LIM_OFFSET j)).toInt
  if v = old then s
  else
    let x := s.outp j
    (s.setOut j { x with limWas := ((b, old) :: x.limWas).take 4 }).wr (Reg.SPK_LIM_OFFSET j) (wordOfInt v)

/-- GAUGE_UPDATE_APPLY: an update acts at its target block b (R286). -/
def applyUpdate (s : State) (u : GaugeUpdate) (b : Nat) : State :=
  match u.kind with
  | .limiter v => s.setLimOffset u.out b v
  | .mute on => (s.putBit (Reg.SPK_STATUS u.out) 7 on).retrim u.out b
  | .invert on => (s.putBit (Reg.SPK_STATUS u.out) 8 on).retrim u.out b
  | .topiary v =>
    let x := s.outp u.out
    let s := s.setCorr u.out v
    if x.gaugeStandby then ((s.setOut u.out { x with queued := some (b, 0) }).setBit (Reg.SPK_STATUS u.out) 3).reportSwaps else s

/-- The updates due at the boundary that starts block b. -/
def applyUpdates (s : State) (b : Nat) : State :=
  let due := s.gauge.updates.filter fun u => decide (u.target ≤ b)
  let s : State := { s with gauge := { s.gauge with updates := s.gauge.updates.filter fun u => !decide (u.target ≤ b) } }
  s.over due fun t u => t.applyUpdate u b

/-! ### Overrides: R294 -/

/-- Parameter p of output j: 0 Topiary, 1 limiter, 2 polarity, 3 thermal. -/
def loopHeld (s : State) (j p : Nat) : Bool := (((s.gout j).holds[p]?).getD none).isSome

/-- The update of a kind that parameter p governs. -/
def updateOf (p : Nat) (k : UpdateKind) : Bool :=
  match k with | .topiary _ => p == 0 | .limiter _ => p == 1 || p == 3 | .invert _ => p == 2 | .mute _ => false

/-- A software change to parameter p of output j takes effect at block b (R294). -/
def overrideLoop (s : State) (j p b : Nat) : State :=
  if !s.dev.part.hasGauge then s
  else
    let g := s.gout j
    let ends := s.uptime + s.af Reg.GAUGE_HOLD 11 0 * countsPerSecond
    let s := s.setGout j { g with holds := g.holds.set p (some ends), thetaM := if p = 3 then 0 else g.thetaM, thetaV := if p = 3 then 0 else g.thetaV }
    let s : State := { s with gauge := { s.gauge with updates := s.gauge.updates.filter fun u => !(u.out == j && u.target == b && updateOf p u.kind) } }
    let s := match p with
      | 0 => s.setCorr j []
      | 2 => (s.clrBit (Reg.SPK_STATUS j) 8).retrim j b
      | _ => s.setLimOffset j b 0
    (s.setBit (Reg.SPK_GAUGE_STATUS j) 6).count Reg.GAUGE_OVERRIDES

/-- Overrides that output-stage shadows cause when they apply at block b: a change of FILTER_BYPASS, of INVERT, or of a
LIM_THRESH slot (R294). -/
def outsOverrides (s : State) (b : Nat) (changed : List Nat) : State :=
  s.over changed fun t o =>
    if 0x300000 ≤ o then
      let j := (o - 0x300000) / 0x400
      let k := (o - 0x300000) % 0x400 / 4
      match t.curProgram j with
      | some p => if (p.instr.map rowInstr).any fun i => i.op == 7 && i.b + 6 == k then t.overrideLoop j 1 b else t
      | none => t
    else
      let j := (o - 0x140000) / 0x200
      if o = Reg.SPK_CTRL j then
        let old := ((((Assoc.get? o (t.outp j).changes).getD []).head?).map (·.2)).getD 0
        let new := t.inForce o
        let t := if bitAt old 2 ≠ bitAt new 2 then t.overrideLoop j 0 b else t
        if bitAt old 1 ≠ bitAt new 1 then t.overrideLoop j 2 b else t
      else t

/-- OVERRIDE_HOLD_END for output j: holds that have run out end, and the averages of their loops restart (R294). -/
def overrideHoldEnd (s : State) (j : Nat) : State :=
  let g := s.gout j
  let over' (p : Nat) : Bool := match (g.holds[p]?).getD none with | some t => decide (t ≤ s.uptime) | none => false
  let g := { g with micDiff := if over' 0 then [] else g.micDiff, negative := if over' 2 then 0 else g.negative, positive := if over' 2 then 0 else g.positive }
  let g := { g with holds := (List.range 4).map fun p => if over' p then none else (g.holds[p]?).getD none }
  (s.setGout j g).putBit (Reg.SPK_GAUGE_STATUS j) 6 (g.holds.any Option.isSome)

/-! ### Shadows: R271 -/

/-- A write to a register that goes to Gauge's shadow; the register file already holds it. -/
def gaugeShadow (s : State) (o : Nat) : State :=
  { s with gauge := { s.gauge with bank := s.gauge.bank.write o (s.autoBlock Reg.GAUGE_CTRL 1) } }

/-- SENSE_SRC and MIC_SRC keep a source field written outside 0 to 1,807 and 0x7FF (R298). -/
def sourceFields (old new : Word) (twoSources : Bool) : Word :=
  let ok (n : Nat) : Bool := decide (n < 1808) || n == 0x7FF
  let w := if ok (fld new 10 0) then new else setFld new 10 0 (fld old 10 0)
  if twoSources && !ok (fld new 26 16) then setFld w 26 16 (fld old 26 16) else w

/-- One Gauge shadow takes effect at the boundary that starts block b. -/
def applyGaugeReg (s : State) (b o : Nat) : State :=
  if 0x140000 ≤ o then
    let j := (o - 0x140000) / 0x200
    if o = Reg.SPK_GCMD j then
      let w := s.rd o
      let s := s.wr o 0
      let s := if bitAt w 0 then (s.clrBit (Reg.SPK_STATUS j) 7).setGout j { s.gout j with shortRun := 0 } else s
      let s := if bitAt w 1 then s.clrBit (Reg.SPK_STATUS j) 8 else s
      s.retrim j b
    else
      let was := s.inForce o
      let s := s.enforce o (s.rd o)
      if was ≠ s.rd o ∧ (o = Reg.SPK_THERM_A j ∨ o = Reg.SPK_THERM_B j ∨ o = Reg.SPK_T_AMB j) then s.overrideLoop j 3 b else s
  else if 0xD0000 ≤ o then
    let m := (o - 0xD0000) / 0x200
    let g := Reg.MEAS_GAIN_UCAL m
    let f := Reg.MEAS_OFFSET_UCAL m
    let old := (s.inForce g, s.inForce f)
    let s := s.enforce o (s.rd o)
    if o = g ∨ o = f then
      let c := match (s.meas m).change with | some (k, x) => if k = b then some (b, x) else some (b, old) | none => some (b, old)
      s.setMeas m { s.meas m with change := c }
    else s
  else s.enforce o (s.rd o)

/-- The Gauge shadows due at the boundary that starts block b: clears act before updates (R287). -/
def gaugeShadows (s : State) (b : Nat) : State :=
  let r := s.gauge.bank.due b
  let applied := s.gauge.bank.applyAt.isSome && !r.2.applyAt.isSome
  let s : State := { s with gauge := { s.gauge with bank := r.2 } }
  let s := if applied then s.clrBit Reg.GAUGE_STATUS 0 else s
  s.over r.1 fun t o => t.applyGaugeReg b o

/-- GAUGE.CMD.APPLY (R271). -/
def gaugeApply (s : State) : State :=
  match s.targetBlock Reg.GAUGE_APPLY_BLOCK_LO with
  | none => s.gaugeRefused
  | some t => ({ s with gauge := { s.gauge with bank := { s.gauge.bank with applyAt := some t } } }.gaugeAccepted).setBit Reg.GAUGE_STATUS 0

/-! ### Measurement inputs: R273 to R275 -/

/-- The modulator bits sampled at the present tick on input m (R273, R274). -/
def measBits (s : State) (m : Nat) (bits : List Bool) : State :=
  let x := s.meas m
  let n := bits.length
  let k := (bits.filter id).length
  let p := s.phase
  let x := { x with bits := x.bits + n, ones := x.ones + k }
  let x := if 8 ≤ p ∧ p < 16 then { x with highBits := x.highBits + n, highOnes := x.highOnes + k } else x
  let x := if 24 ≤ p then { x with lowBits := x.lowBits + n, lowOnes := x.lowOnes + k } else x
  if n = 0 then s else s.setMeas m x

/-- The run counts of one flag: whether it is set, consecutive blocks with the condition and without. -/
def faultRun (flag : Bool) (seen clear setAt clearAt : Nat) : Bool :=
  if flag then decide (clear < clearAt) else decide (setAt ≤ seen)

/-- The checks of input m over the block that ends at the boundary that starts block b (R273 to R275). -/
def measBlock (s : State) (m b : Nat) : State :=
  let x := s.meas m
  let st := Reg.MEAS_STATUS m
  let on := s.bitOf (Reg.COND_MDEC m) 6
  if x.bits = 0 then s
  else
    let density := min (divEven (x.ones * 65536 : Nat) x.bits).toNat 65535
    let s := s.wf (Reg.MEAS_DENSITY m) 15 0 density
    let check := on && s.abit (Reg.MEAS_CHECK_CFG m) 0
    let high := x.ones == x.bits
    let low := x.ones == 0
    let x := if check then
        { x with runHigh := if high then x.runHigh + 1 else 0, clearHigh := if high then 0 else x.clearHigh + 1
                 runLow := if low then x.runLow + 1 else 0, clearLow := if low then 0 else x.clearLow + 1 }
      else x
    let period := s.af (Reg.MEAS_BIAS_CFG m) 9 0
    let bias := on && s.abit (Reg.MEAS_CHECK_CFG m) 1 && decide (0 < period) && (b - 1) % period == m % period &&
      decide (0 < x.highBits) && decide (0 < x.lowBits)
    let fails := decide (98 * x.highBits ≤ 100 * x.highOnes) && decide (100 * x.lowOnes ≤ 2 * x.lowBits)
    let x := if bias then { x with failed := if fails then x.failed + 1 else 0, passed := if fails then 0 else x.passed + 1 } else x
    let n := s.af (Reg.MEAS_STUCK_CFG m) 7 0
    let f := [faultRun (s.bitOf st 0) x.runHigh x.clearHigh n 32, faultRun (s.bitOf st 1) x.runLow x.clearLow n 32,
      faultRun (s.bitOf st 2) x.failed x.passed 2 2]
    let s := s.setMeas m { x with ones := 0, bits := 0, highOnes := 0, highBits := 0, lowOnes := 0, lowBits := 0 }
    let rises := (List.range 3).filter fun k => f.getD k false && !s.bitOf st k
    let was := s.bitOf st 3
    let s := s.over (List.range 3) fun t k => t.putBit st k (f.getD k false)
    let s := s.over rises fun t k => (t.setBit (Reg.MEAS_STICKY m) k).count (Reg.MEAS_FAULTS m)
    let now := f.any id
    let s := (s.putBit st 3 now).level (128 + m) now
    let c := s.chan (1792 + m)
    let s := if now && !was then s.setChan (1792 + m) { c with gateOut := some b, gateIn := none }
      else if was && !now then s.setChan (1792 + m) { c with gateIn := some b } else s
    if now then
      { s with gauge := { s.gauge with jobs := s.gauge.jobs.map fun e => if e.2.src = 1792 + m then (e.1, { e.2 with spoiled := true }) else e } }
    else s

/-- The checks of every measurement input at the boundary that starts block b. -/
def measBoundary (s : State) (b : Nat) : State := s.over (s.gauge.meas.map (·.1)) fun t m => t.measBlock m b

/-- MEAS[m].CMD.CLEAR_COUNTS (R297). -/
def measClearCounts (s : State) (m : Nat) : State := s.resetRegs [Reg.MEAS_FAULTS m]

/-! ### Correlation: R278 to R280 -/

/-- A source that delivers: assigned, and not a faulted measurement input. -/
def sourceGood (s : State) (u : Nat) : Bool :=
  u != 0x7FF && match measOf u with | some m => !s.bitOf (Reg.MEAS_STATUS m) 3 | none => true

def jobSource (s : State) (j : Nat) (c : JobChannel) : Nat :=
  match c with
  | .v => s.af (Reg.SPK_SENSE_SRC j) 10 0
  | .i => s.af (Reg.SPK_SENSE_SRC j) 26 16
  | .mic => s.af (Reg.SPK_MIC_SRC j) 10 0

/-- The jobs that exist, in ascending output and in the order V, I, MIC (R278). -/
def sweepJobs (s : State) : List (Nat × JobChannel) :=
  (((List.range s.dev.part.speakers).filter fun j =>
    s.abit (Reg.SPK_GCTRL j) 1 && (match s.curProgram j with | some p => p.instr.any fun w => (rowInstr w).op == 13 | none => false)).map fun j =>
      ([JobChannel.v, .i, .mic].filter fun c => s.sourceGood (s.jobSource j c)).map fun c => (j, c)).flatten

def channelNo (c : JobChannel) : Nat := match c with | .v => 0 | .i => 1 | .mic => 2
def jobKey (e : Nat × JobChannel) : Nat := 4 * e.1 + channelNo e.2

/-- Pending jobs in the order in which correlators take them: outputs with PRIO first, then the sweep from the last job taken. -/
def pendingJobs (s : State) : List (Nat × JobChannel) :=
  let l := s.sweepJobs.filter fun e => !s.gauge.done.contains e
  let prio (e : Nat × JobChannel) : Bool := s.abit (Reg.SPK_GCTRL e.1) 2
  let rest := l.filter fun e => !prio e
  match s.gauge.last with
  | none => l.filter prio ++ rest
  | some k => l.filter prio ++ rest.filter (fun e => decide (jobKey k < jobKey e)) ++ rest.filter (fun e => !decide (jobKey k < jobKey e))

/-- Correlator k's job runs while its key is below 32; one whose period has ended and whose last samples are still to come
stands under k + 32. -/
def reportCorrelators (s : State) : State := s.wf Reg.GAUGE_STATUS 13 8 (s.gauge.jobs.filter fun e => decide (e.1 < 32)).length

def newJob (s : State) (e : Nat × JobChannel) : Job :=
  let mic := e.2 == .mic
  { out := e.1, chan := e.2, src := s.jobSource e.1 e.2, t0 := s.tick, lag := if mic then s.af (Reg.SPK_MIC_SRC e.1) 31 16 else 0
    taps := if mic then 4096 * 2 ^ s.af (Reg.SPK_GCTRL e.1) 4 3 else 8192, sweep := s.gauge.sweep
    acc := List.replicate (if mic then 4096 * 2 ^ s.af (Reg.SPK_GCTRL e.1) 4 3 else 8192) 0 }

/-- PILOT_PERIOD_START (R278): jobs that have ended free their correlators, a new sweep begins once every job has run, and
free correlators take pending jobs. -/
def pilotPeriodStart (s : State) : State :=
  if s.tick % pilotPeriod ≠ 0 ∨ !s.dev.part.hasGauge then s
  else
    let ended (e : Nat × Job) : Bool := decide (e.1 < 32) && decide (e.2.ends ≤ s.tick)
    let tails := (s.gauge.jobs.filter ended).map fun e => (e.1 + 32, e.2)
    let jobs := tails.foldl (fun l e => Assoc.put e.1 e.2 l) (s.gauge.jobs.filter fun e => !ended e)
    let s : State := { s with gauge := { s.gauge with jobs := jobs } }
    let over' := s.pendingJobs.isEmpty && !s.gauge.done.isEmpty && !(jobs.any fun e => decide (e.1 < 32) && e.2.sweep == s.gauge.sweep)
    let s := if over' then s.wf Reg.GAUGE_SWEEP 31 16 (min s.gauge.periods 65535) else s
    let s : State := if over' then { s with gauge := { s.gauge with sweep := s.gauge.sweep + 1, done := [], periods := 0 } } else s
    let s : State := { s with gauge := { s.gauge with periods := s.gauge.periods + 1 } }
    let free := (List.range 32).filter fun k => (Assoc.get? k s.gauge.jobs).isNone
    let s := s.over (free.zip s.pendingJobs) fun t e =>
      let last := if t.abit (Reg.SPK_GCTRL e.2.1) 2 then t.gauge.last else some e.2
      { t with gauge := { t.gauge with jobs := Assoc.put e.1 (t.newJob e.2) t.gauge.jobs, done := t.gauge.done ++ [e.2], last := last } }
    (s.wf Reg.GAUGE_SWEEP 15 0 s.pendingJobs.length).reportCorrelators

/-- GAUGE.CMD.RESTART_SWEEP (R278). -/
def restartSweep (s : State) : State :=
  let s : State := { s.gaugeAccepted with gauge := { s.gauge with sweep := s.gauge.sweep + 1, done := [], periods := 0 } }
  s.wf Reg.GAUGE_SWEEP 15 0 s.pendingJobs.length

/-- Gauge at OXP tick n, once the Row programs have run on it: sense samples, pilots and the correlators. -/
def gaugeTick (s : State) (n : Nat) : State :=
  if !s.dev.part.hasGauge then s
  else
    let past := (s.xp.past.lookup n).getD []
    let at' (u : Nat) : Int := (past.lookup u).getD 0
    let outs := (s.programmed ++ (s.gauge.jobs.map (·.2.out)) ++ ((s.gauge.out.map (·.1)).filter fun j => s.abit (Reg.SPK_GCTRL j) 0)).eraseDups
    let s := s.over outs fun t j =>
      let g := t.gout j
      let sense := if t.abit (Reg.SPK_GCTRL j) 0 then ((n, at' (t.jobSource j .v), at' (t.jobSource j .i)) :: g.sense).take 192 else []
      t.setGout j { g with sense := sense, pilot := (t.pilotSample j n :: g.pilot).take 98400, pilotTop := n }
    { s with gauge := { s.gauge with jobs := s.gauge.jobs.map fun e => (e.1, e.2.step n (at' e.2.src) (s.gout e.2.out).pilot) } }

/-- OUTPUT_MICRO_BLOCK with what Gauge does on its four ticks. -/
def outputAndGauge (s : State) : State :=
  let t := s.tick
  s.outputMicroBlock.over [t - 4, t - 3, t - 2, t - 1] gaugeTick

/-! ### Impedance, polarity and Topiary from valid jobs: R283, R284, R291 -/

/-- A sense scale of R281 without its full-scale value: 10^(ECAL / 2,000). -/
def senseScale (s : State) (fcal ucal : Nat) : Fx := fxPow10 (fxRat (effective (s.rd fcal) (s.inForce ucal) 1200) 2000)
def voltScale (s : State) (j : Nat) : Fx := (s.senseScale (Reg.SPK_VSCALE_FCAL j) (Reg.SPK_VSCALE_UCAL j) * s.af (Reg.SPK_SENSE_FS j) 15 0).fdiv 10
def ampScale (s : State) (j : Nat) : Fx := (s.senseScale (Reg.SPK_ISCALE_FCAL j) (Reg.SPK_ISCALE_UCAL j) * s.af (Reg.SPK_SENSE_FS j) 31 16).fdiv 100

/-- RE_MEAS in mΩ from a pair of responses, saturating (R283). -/
def reFrom (s : State) (j : Nat) (hv hi : List Int) : Nat :=
  let r := if s.af (Reg.SPK_GCTRL j) 6 5 = 0 then (150, 400) else (1000, 3000)
  let bins := (List.range 4097).filter fun k => decide (r.1 * 8192 ≤ 96000 * k) && decide (96000 * k ≤ r.2 * 8192)
  let ratios := bins.filterMap fun k =>
    let i := dftPower hi 8192 k
    if i = 0 then none else some (fxDiv (dftPower hv 8192 k) i)
  match ratios with
  | [] => 65535
  | a :: l => (clampInt 0 65535 (roundFx (fxDiv (1000 * fxMul (fxSqrt (l.foldl min a)) (s.voltScale j)) (s.ampScale j)) 0)).toNat

/-- COIL_TEMP in Q16.16 °C. -/
def coilTemp (s : State) (j : Nat) : Int := divEven ((s.inForce (Reg.SPK_T_AMB j)).toInt * 65536) 100 + (s.gout j).thetaV

def thermalOn (s : State) (j : Nat) : Bool := decide (s.af (Reg.SPK_THERM_A j) 15 0 ≠ 0) && decide (s.af (Reg.SPK_THERM_B j) 15 0 ≠ 0)

def reportCoil (s : State) (j : Nat) : State :=
  s.wr (Reg.SPK_COIL_TEMP j) (wordOfInt (if s.thermalOn j then divEven (s.coilTemp j * 100) 65536 else (s.inForce (Reg.SPK_T_AMB j)).toInt))

/-- BASELINING: some output still waits for valid jobs. -/
def reportBaselining (s : State) : State := s.putBit Reg.GAUGE_STATUS 2 (s.gauge.out.any fun e => e.2.wantMic || e.2.wantRe)

/-- V and I of one sweep are valid: RE_MEAS, the baseline's RE_REF, and the correction of the thermal model (R283 to R285). -/
def impedance (s : State) (j : Nat) : State :=
  let g := s.gout j
  match g.respV, g.respI with
  | some v, some i =>
    if g.sweepV.isNone || g.sweepV ≠ g.sweepI || s.af (Reg.SPK_SENSE_FS j) 31 16 == 0 then s
    else
      let re := s.reFrom j v.taps i.taps
      let s := s.wf (Reg.SPK_RE_MEAS j) 15 0 re
      let s := if g.wantRe then
          (((s.wf (Reg.SPK_RE_REF j) 15 0 re).wr (Reg.SPK_T_REF j) (s.inForce (Reg.SPK_T_AMB j))).setGout j { g with wantRe := false }).reportBaselining
        else s
      let ref := s.rf (Reg.SPK_RE_REF j) 15 0
      if ref = 0 ∨ !s.thermalOn j then s
      else
        let tref := (s.rd (Reg.SPK_T_REF j)).toInt
        let tmeas := divEven ((tref * 393 * ref + ((re : Int) - ref) * 10000000) * 65536) (39300 * ref)
        let g := s.gout j
        (s.setGout j { g with thetaV := g.thetaV + divEven ((tmeas - s.coilTemp j) * s.af Reg.GAUGE_ADAPT_CFG 23 16) 256 }).reportCoil j
  | _, _ => s

/-- ρ of a MIC response against the baseline (R284), × 2^160; none when the window holds no energy. -/
def rhoOf (h base : List Int) : Option Fx :=
  let peak := (base.zipIdx.foldl (fun (a : Nat × Nat) e => if a.1 < e.1.natAbs then (e.1.natAbs, e.2) else a) (0, 0)).2
  let win (l : List Int) : List Int := (l.take (peak + 65)).drop (peak - 64)
  let hb := (win h).zip (win base)
  let num := hb.foldl (fun a e => a + e.1 * e.2) 0
  let den := (hb.foldl (fun a e => a + e.1 * e.1) 0) * (hb.foldl (fun a e => a + e.2 * e.2) 0)
  if den = 0 then none else some (fxDiv (fxInt num) (fxSqrt (fxInt den)))

/-- Polarity after a valid MIC job (R284, R287). -/
def polarity (s : State) (j : Nat) (h base : List Int) : State :=
  let g := s.gout j
  let r := rhoOf h base
  let flip := s.bitOf (Reg.SPK_STATUS j) 8 != g.basePolarity
  let rho : Fx := match r with | some x => x | none => fxRat (sfld s.freeWord 15 0) 32768
  let s := if r.isNone then s.bumpFree else s
  let rho := if flip then -rho else rho
  let s := s.wf (Reg.SPK_RHO j) 15 0 (clampInt (-32768) 32767 (roundFx (rho * 32768) 0) % 65536).toNat
  let neg := decide (2 * rho < -fxOne)
  let pos := decide (fxOne < 2 * rho)
  let g := { g with negative := if neg then g.negative + 1 else 0, positive := if pos then g.positive + 1 else 0 }
  let s := s.setGout j g
  let st := Reg.SPK_GAUGE_STATUS j
  if !s.bitOf st 2 && decide (2 ≤ g.negative) then
    let s := (s.setBit st 2).event 146
    let pol := Reg.SPK_POL_FLAGS j
    if s.abit pol 4 && !s.abit pol 2 && !s.loopHeld j 2 then s.issueUpdate j (.invert true) else s
  else if s.bitOf st 2 && decide (2 ≤ g.positive) then s.clrBit st 2
  else s

/-- CLAMPED and its count (R292). -/
def countClamp (s : State) (j : Nat) : State :=
  let st := Reg.SPK_GAUGE_STATUS j
  let s := s.count Reg.GAUGE_CLAMPS
  if s.bitOf st 5 then s else (s.setBit st 5).event 148

/-- The first TAPS taps of base ⊛ c, narrowed to Q1.31 (R291 step 4). -/
def correctedTaps (base v : List Int) : List Int :=
  let c := (List.range 1024).map fun t => Config.minPhaseTap v t
  (List.range base.length).map fun k =>
    satQ31 (divEven ((c.take (k + 1)).zipIdx.foldl (fun a e => a + e.1 * base.getD (k - e.2) 0) 0) (2 ^ 40))

/-- A host PREPARE in progress, a prepared standby or a queued swap defers a Topiary update (R252). -/
def topiaryDeferred (s : State) (j : Nat) : Bool :=
  let x := s.outp j
  (match s.outs.prepare with | some (l, _) => l.contains j | none => false) ||
  (!x.gaugeStandby && !x.standby.isEmpty && s.bitOf (Reg.SPK_STATUS j) 4) || x.queued.isSome || s.bitOf (Reg.SPK_STATUS j) 3

/-- The coefficients of a correction vector go into the standby bank (R291 step 5). -/
def prepareTopiary (s : State) (j : Nat) (v : List Int) : State :=
  let x := s.outp j
  s.setOut j { x with standby := correctedTaps x.base v, gaugeStandby := true }

/-- The Topiary loop after a valid MIC job (R291 to R293). -/
def topiaryLoop (s : State) (j : Nat) (h base : List Int) : State :=
  let g := s.gout j
  let diff := (List.range 31).map fun b => match bandLevel base b, bandLevel h b with | some x, some y => some (x - y) | _, _ => none
  let g := { g with micDiff := (diff :: g.micDiff).take 2 }
  let s := s.setGout j g
  let pol := Reg.SPK_POL_FLAGS j
  match g.micDiff with
  | [a, d] =>
    if s.abit pol 0 || s.loopHeld j 0 || (s.curFilter j).isNone then s
    else
      let free := sfld s.freeWord 15 0
      let target := (List.range 31).map fun b => match (a[b]?).getD none, (d[b]?).getD none with
        | some x, some y => roundFx (50 * (x + y)) 0
        | _, _ => free
      let s := if (a ++ d).any Option.isNone then s.bumpFree else s
      let lo := (s.inForce (Reg.SPK_POL_TOP_LO j)).toInt
      let hi := (s.inForce (Reg.SPK_POL_TOP_HI j)).toInt
      let now := s.corrVector j
      let outside (l : List Int) : Bool := l.any fun x => decide (x < lo) || decide (hi < x)
      let s := if outside target || outside now then s.countClamp j else s
      let v := target.map (clampInt lo hi)
      let step : Int := s.af Reg.GAUGE_ADAPT_CFG 15 0
      if (v.zip now).any (fun e => decide (step ≤ ((e.1 - e.2).natAbs : Int))) || outside now then
        let role := s.rf Reg.HEDGE_STATUS 1 0
        if role = 1 ∨ role = 3 then s
        else if s.topiaryDeferred j then (s.setBit (Reg.SPK_GAUGE_STATUS j) 7).count Reg.GAUGE_DEFERRED
        else ((s.clrBit (Reg.SPK_GAUGE_STATUS j) 7).prepareTopiary j v).issueUpdate j (.topiary v)
      else s.clrBit (Reg.SPK_GAUGE_STATUS j) 7
  | _ => s

/-- A valid MIC job (R284, R291). -/
def micJob (s : State) (j : Nat) (r : Response) : State :=
  let g := { s.gout j with respMic := some r }
  if g.wantMic then
    let g := { g with wantMic := false, baseMic := some r, basePolarity := s.bitOf (Reg.SPK_STATUS j) 8, micDiff := [], negative := 0, positive := 0 }
    ((s.setGout j g).setBit (Reg.SPK_GAUGE_STATUS j) 9).reportBaselining
  else
    let s := s.setGout j g
    match g.baseMic with
    | some base => (s.polarity j r.taps base.taps).topiaryLoop j r.taps base.taps
    | none => s

/-- CORRELATION_JOB_DONE for correlator k (R279, R280): the job that has run longest on it is judged. -/
def correlationJobDone (s : State) (k : Nat) : State :=
  let key := if (Assoc.get? (k + 32) s.gauge.jobs).isSome then k + 32 else k
  match Assoc.get? key s.gauge.jobs with
  | none => s
  | some job =>
    let g := s.gout job.out
    if g.pilotTop + 1 < job.ends then s
    else
      let s : State := { s with gauge := { s.gauge with jobs := Assoc.del key s.gauge.jobs } }
      let s := s.reportCorrelators
      let r := job.response
      let c := channelNo job.chan
      let st := Reg.SPK_GAUGE_STATUS job.out
      if r.2 then
        let resp : Response := ⟨r.1, s.tick / pilotPeriod⟩
        let g := { g with invalid := g.invalid.set c 0, lost := g.lost.set c false }
        let s := ((s.setGout job.out g).count Reg.GAUGE_JOBS_DONE).putBit st 3 (g.lost.any id)
        match job.chan with
        | .v => (s.setGout job.out { g with respV := some resp, sweepV := some job.sweep }).impedance job.out
        | .i => (s.setGout job.out { g with respI := some resp, sweepI := some job.sweep }).impedance job.out
        | .mic => s.micJob job.out resp
      else
        let n := g.invalid.getD c 0 + 1
        let g := { g with invalid := g.invalid.set c n, lost := if 2 ≤ n then g.lost.set c true else g.lost }
        let s := (s.setGout job.out g).count Reg.GAUGE_JOBS_INVALID
        if 2 ≤ n ∧ !s.bitOf st 3 then (s.setBit st 3).event 149 else s

/-! ### Sense, faults and temperature of a block: R281, R282, R285, R290 -/

/-- A run of qualifying blocks with a condition sets flag b after `len`, and a run without it clears the flag. -/
structure RunStep where
  run : Nat
  clear : Nat
  sets : Bool
  clears : Bool

def runStep (flag cond : Bool) (run clear len : Nat) : RunStep :=
  let r := if cond then run + 1 else 0
  let c := if cond then 0 else clear + 1
  ⟨r, c, decide (len ≤ r) && (!flag || r == len), flag && decide (len ≤ c)⟩

/-- The thermal loop (R290, R292, R293). -/
def thermalLoop (s : State) (j : Nat) : State :=
  let t0 := (s.inForce (Reg.SPK_T_START j)).toInt
  let t1 := (s.inForce (Reg.SPK_T_MAX j)).toInt
  let pol := Reg.SPK_POL_FLAGS j
  let now := (s.rd (Reg.SPK_LIM_OFFSET j)).toInt
  let lo := (s.inForce (Reg.SPK_POL_LIM_LO j)).toInt
  let hi := (s.inForce (Reg.SPK_POL_LIM_HI j)).toInt
  let coil := (s.rd (Reg.SPK_COIL_TEMP j)).toInt
  let outside (x : Int) : Bool := decide (x < lo) || decide (hi < x)
  if s.abit pol 1 || s.abit pol 3 || s.loopHeld j 1 || s.loopHeld j 3 || (!decide (t0 < t1) && !outside now) then s
  else
    let target := if t0 < t1 then (if coil ≤ t0 then 0 else divEven (-600 * (coil - t0)) (t1 - t0).toNat) else now
    let s := if outside target || outside now then s.countClamp j else s
    let v := clampInt lo hi target
    if 10 ≤ (v - now).natAbs ∨ outside now then s.issueUpdate j (.limiter v) else s

/-- The GAUGE instance of output j for audio block b: block checks, the thermal model and the thermal loop. -/
def gaugeInstance (s : State) (j b : Nat) : State :=
  let x : List (Nat × Int × Int) := (s.gout j).sense.filter fun e => e.1 / 32 == b
  let vs := s.voltScale j
  let is := s.ampScale j
  let on := s.dev.part.hasGauge && s.bitOf Reg.GAUGE_CTRL 0 && s.abit (Reg.SPK_GCTRL j) 0 && decide (s.af (Reg.SPK_SENSE_FS j) 15 0 ≠ 0) &&
    decide (s.af (Reg.SPK_SENSE_FS j) 31 16 ≠ 0) && s.sourceGood (s.jobSource j .v) && s.sourceGood (s.jobSource j .i)
  if !s.dev.part.hasGauge then s
  else if !on || x.length != 32 then (s.reportCoil j).thermalLoop j
  else
    let vv := (x.foldl (fun (a : Int) (e : Nat × Int × Int) => a + e.2.1 * e.2.1) 0).toNat
    let ii := (x.foldl (fun (a : Int) (e : Nat × Int × Int) => a + e.2.2 * e.2.2) 0).toNat
    let vi := x.foldl (fun (a : Int) (e : Nat × Int × Int) => a + e.2.1 * e.2.2) 0
    let vrms := fxMul (fxSqrt (fxRat vv (32 * 2 ^ 62))) vs
    let irms := fxMul (fxSqrt (fxRat ii (32 * 2 ^ 62))) is
    let p := fxMul (fxMul (fxRat vi (32 * 2 ^ 62)) vs) is
    let z : Nat := if irms = 0 then 65535 else (clampInt 0 65535 (roundFx (fxDiv (1000 * vrms) irms) 0)).toNat
    let s := (s.wf (Reg.SPK_Z_BLOCK j) 15 0 z).wf (Reg.SPK_POWER j) 15 0 (clampInt 0 65535 (roundFx (10 * p) 0)).toNat
    let det := s.inForce (Reg.SPK_DET_CFG j)
    let zn := s.inForce (Reg.SPK_Z_NOM j)
    let st := Reg.SPK_GAUGE_STATUS j
    let g := s.gout j
    let s := if 1000 * vrms < fxInt (fld det 15 0) then s
      else
        let a := runStep (s.bitOf st 0) (decide (z * 100 < fld zn 15 0 * fld zn 23 16)) g.shortRun g.shortClear (fld det 23 16)
        let o := runStep (s.bitOf st 1) (decide (fld zn 15 0 * fld zn 31 24 < z)) g.openRun g.openClear (fld det 31 24)
        let s := s.setGout j { g with shortRun := a.run, shortClear := a.clear, openRun := o.run, openClear := o.clear }
        let s := if a.sets then ((if s.bitOf st 0 then s else (s.setBit st 0).event 144).issueUpdate j (.mute true)) else if a.clears then s.clrBit st 0 else s
        if o.sets then (if s.bitOf st 1 then s else (s.setBit st 1).event 145) else if o.clears then s.clrBit st 1 else s
    let s := if !s.thermalOn j then s
      else
        let g := s.gout j
        let ta := s.inForce (Reg.SPK_THERM_A j)
        let tb := s.inForce (Reg.SPK_THERM_B j)
        let rise (r : Nat) : Int := roundFx ((p * r).fdiv 100) 16
        let step (θ target a : Int) : Int := θ + divEven (a * (target - θ)) (2 ^ 31)
        let m := step g.thetaM (rise (fld ta 31 16)) (ballistic (fld tb 31 16 * 1000000) 3000)
        let v := step g.thetaV (rise (fld ta 15 0) + m) (ballistic (fld tb 15 0 * 10000) 3000)
        let s := (s.setGout j { g with thetaM := m, thetaV := v }).reportCoil j
        let coil := (s.rd (Reg.SPK_COIL_TEMP j)).toInt
        let top := (s.inForce (Reg.SPK_T_MAX j)).toInt
        if top ≤ coil ∧ !s.bitOf st 4 then (s.setBit st 4).event 147
        else if coil < top - 500 then s.clrBit st 4 else s
    (s.reportCoil j).thermalLoop j

/-! ### Commands: R284, R295 -/

/-- GAUGE.CMD.BASELINE (R284). -/
def gaugeBaseline (s : State) : State :=
  let first := s.af Reg.GAUGE_TARGET 8 0
  let n := s.af Reg.GAUGE_TARGET 25 16
  if n = 0 ∨ 512 < first + n then s.gaugeRefused
  else
    let s := s.gaugeAccepted.over ((List.range n).map (first + ·)) fun t j =>
      if t.dev.part.hasOutput j then t.setGout j { t.gout j with wantMic := true, wantRe := true } else t
    s.reportBaselining

/-- GAUGE.CMD.CLEAR_COUNTS. -/
def gaugeClearCounts (s : State) : State :=
  s.gaugeAccepted.resetRegs [Reg.GAUGE_JOBS_DONE, Reg.GAUGE_JOBS_INVALID, Reg.GAUGE_UPDATES, Reg.GAUGE_CLAMPS, Reg.GAUGE_OVERRIDES, Reg.GAUGE_DEFERRED]

/-- A write of GAUGE.CMD. -/
def gaugeCommand (s : State) (v : Word) : State :=
  let s := if bitAt v 1 then s.gaugeClearCounts else s
  let s := if bitAt v 2 then s.gaugeBaseline else s
  let s := if bitAt v 3 then s.restartSweep else s
  if bitAt v 0 then s.gaugeApply else s

/-- A GCMD write goes to the shadow with the other registers (R271). -/
def gcmdWrite (s : State) (j : Nat) (v : Word) : State :=
  let o := Reg.SPK_GCMD j
  (s.wr o (v &&& 3)).gaugeShadow o

/-- A GAUGE_POLICY record of a commit (R289): the registers it writes, in force at once. -/
def applyPolicy (s : State) (p : GaugePolicy) : State :=
  let put (t : State) (o : Nat) (v : Word) : State := (t.wr o v).enforce o v
  s.over ((List.range p.count).map (p.first + ·)) fun t j =>
    let f := Reg.SPK_POL_FLAGS j
    let t := put t f (setFld (t.inForce f) p.param p.param (b2n p.freeze))
    match p.param with
    | 0 => put (put t (Reg.SPK_POL_TOP_LO j) (wordOfInt p.lo)) (Reg.SPK_POL_TOP_HI j) (wordOfInt p.hi)
    | 1 => put (put t (Reg.SPK_POL_LIM_LO j) (wordOfInt p.lo)) (Reg.SPK_POL_LIM_HI j) (wordOfInt p.hi)
    | 2 => put t f (setFld (t.inForce f) 4 4 p.hi.toNat)
    | _ => put (put t (Reg.SPK_T_START j) (wordOfInt p.lo)) (Reg.SPK_T_MAX j) (wordOfInt p.hi)

/-- OUTS.CMD.PREPARE with the overrides it causes (R250, R294). -/
def outsPrepare (s : State) : State :=
  let r := s.prepareFilters
  r.1.over r.2 fun t j => t.overrideLoop j 0 t.block

/-- A write of OUTS.CMD (R264). -/
def outsCommand (s : State) (v : Word) : State :=
  let s := if bitAt v 1 then s.outsClearCounts else s
  let s := if bitAt v 2 then s.outsPrepare else s
  let s := if bitAt v 3 then s.swapFilters else s
  let s := if bitAt v 4 then s.discardFilters else s
  if bitAt v 0 then s.outsApply else s

end State

end Sys2Proof.Machine
end

