-- ==== Sys2Proof/Machine/Tiles.lean ====
section
/-! DEFINITION. Render tiles in service: known-answer tests (R312, R313), fences (R314) and spare takeover (R316 to R318). -/

namespace Sys2Proof.Machine

namespace State

def tile (s : State) (p : Nat) : TileState := (Assoc.get? p s.rndr.tiles).getD {}
def setTile (s : State) (p : Nat) (x : TileState) : State := { s with rndr := { s.rndr with tiles := Assoc.put p x s.rndr.tiles } }
/-- STATE of a tile: 0 IDLE, 1 ACTIVE, 2 SPARE, 3 ENGAGING, 4 FENCED, 5 TESTING. -/
def tileState (s : State) (p : Nat) : Nat := s.rf (Reg.TILE_STATUS p) 2 0
/-- The state a tile is in beneath a test. -/
def tileTrueState (s : State) (p : Nat) : Nat := ((s.tile p).testing).getD (s.tileState p)

/-- SPARES_FREE (R154). -/
def reportSpares (s : State) : State :=
  s.wf Reg.RNDR_STATUS 11 8 ((List.range s.dev.part.tiles).filter fun p => s.tileTrueState p == 2).length

/-- The logical tile that a physical tile hosts. -/
def hostedBy (s : State) (p : Nat) : Option Nat :=
  (List.range s.dev.part.activeTiles).find? fun l => (s.logicalTile l).host == some p

/-- LOGICAL, OBJ_COUNT, OBJECTS and HIST_PAGES of a tile that hosts logical tile `l`, or none (R155, R156). -/
def reportHosting (s : State) (p : Nat) (l : Option Nat) : State :=
  let e : Option TileEntry := match l with | some k => (s.pat.versions.map fun (v : Version) => v.region.tileMap.filter fun e => e.tile == k).flatten.getLast? | none => none
  let s := s.wf (Reg.TILE_STATUS p) 15 8 (l.getD 0xFF)
  let s := s.wf (Reg.TILE_STATUS p) 20 16 ((e.map (·.count)).getD 0)
  let s := s.wf (Reg.TILE_OBJECTS p) 15 0 ((e.map (·.first)).getD 0)
  s.wf (Reg.TILE_HIST_PAGES p) 15 0 (match l with | some k => s.tileHeld k | none => 0)

/-- TILE[p].CMD.FENCE, and the end of a fault: at the next block boundary (R314). -/
def tileFence (s : State) (p : Nat) : State := if p < s.dev.part.tiles then s.setTile p { s.tile p with fenceDue := true } else s

/-- A parity error on a read of the tile's SRAM (R314). -/
def tileParityError (s : State) (p : Nat) : State :=
  if p < s.dev.part.tiles then (s.count (Reg.TILE_PARITY_COUNT p)).tileFence p else s

/-- A known-answer test starts: on a SPARE or FENCED tile the STATE is TESTING until it ends (R312). -/
def tileKatStart (s : State) (p : Nat) : State :=
  if s.dev.part.tiles ≤ p then s
  else
    let st := s.tileState p
    if st = 2 ∨ st = 4 then (s.setTile p { s.tile p with testing := some st, katDue := true }).wf (Reg.TILE_STATUS p) 2 0 5
    else s.setTile p { s.tile p with katDue := true }

/-- TILE_KAT_TIMER (R313). -/
def tileKatTimer (s : State) (p : Nat) : State := if s.bitOf (Reg.TILE_CTRL p) 0 then s.tileKatStart p else s

/-- TILE_KAT_DONE (R312 to R314). -/
def tileKatDone (s : State) (p : Nat) (passed : Bool) : State :=
  let t := s.tile p
  if !t.katDue then s
  else
    let s := s.count (if passed then Reg.TILE_KAT_PASS p else Reg.TILE_KAT_FAIL p)
    let s := s.setTile p { t with katDue := false, testing := none }
    let st := t.testing.getD (s.tileState p)
    let s := if t.testing.isSome then s.wf (Reg.TILE_STATUS p) 2 0 st else s
    if passed || st == 4 then s
    else if st = 2 then (((s.wf (Reg.TILE_STATUS p) 2 0 4).spareEngagesPages).event 20).reportSpares
    else s.tileFence p

/-- Work of logical tile `l` that its old host has not completed is cancelled (R317 step 2). -/
def cancelTileWork (s : State) (l : Nat) : State :=
  s.over ((s.sched.inst.filter fun i => i.node.engine == 0 && i.node.nkind != 3 && i.state == .running && s.listOf i == (0, l)).map (·.uid))
    fun t u => t.cancelInstance u false

/-- The objects of logical tile `l`. -/
def tileObjects (s : State) (l : Nat) : List Nat :=
  ((s.pat.versions.map fun v => (v.region.tileMap.filter fun e => e.tile == l).map fun e => (List.range e.count).map (e.first + ·)).flatten).flatten.eraseDups

/-- Logical tile `l` loses its host at the boundary that starts block b: the lowest spare engages, or nothing hosts it
(R316 to R318). -/
def rehost (s : State) (l b : Nat) : State :=
  let s := s.cancelTileWork l
  match (List.range s.dev.part.tiles).find? fun p => s.tileState p == 2 with
  | some q =>
    let s := (s.setLogical l { host := some q, fault := some (b - 1) }).wf (Reg.TILE_STATUS q) 2 0 3
    let s := ((s.spareEngagesPages.reportHosting q (some l)).setTile q { s.tile q with refilled := false }).reportSpares
    s.over ((s.tileObjects l).map fun n => [2 * n, 2 * n + 1]).flatten fun t k =>
      if (Assoc.get? k t.skein.hist).isSome then t.setHist k { t.histCh k with pages := (t.histCh k).pages.map fun p => { p with loaded := false } } else t
  | none =>
    let s := s.setLogical l { host := none, fault := some (b - 1) }
    (s.wf Reg.SKEIN_TOTAL 15 0 (s.rf Reg.SKEIN_TOTAL 15 0 - 256)).setFree (s.skeinFree - 256)

/-- The fences due at the boundary that starts block b, spares being chosen in ascending logical tile (R314, R316). -/
def tileBoundary (s : State) (b : Nat) : State :=
  let due := (s.rndr.tiles.filter fun e => e.2.fenceDue).map (·.1)
  let r := due.foldl (fun (a : State × List Nat) p =>
    let t := a.1
    let st := t.tileTrueState p
    let l := t.hostedBy p
    let t := t.setTile p { t.tile p with fenceDue := false, testing := none }
    if st = 4 then (t, a.2)
    else
      let t := ((t.wf (Reg.TILE_STATUS p) 2 0 4).event 20).reportHosting p none
      if st = 2 then (t.spareEngagesPages.reportSpares, a.2)
      else match l with | some k => (t, a.2 ++ [k]) | none => (t, a.2)) (s, [])
  let lost := (List.range s.dev.part.activeTiles).filter r.2.contains
  r.1.over lost fun t l => t.rehost l b

/-- Takeovers at the boundary that starts block b, once block b − 1 is rendered: the plans of a rehosted tile start anew with
block F + 3, and the takeover is over after it (R317 steps 4 to 6). -/
def takeovers (s : State) (b : Nat) : State :=
  s.over s.rndr.logical fun t e =>
    match e.2.fault, e.2.host with
    | some f, some _ =>
      let t := if b = f + 3 then t.over (t.tileObjects e.1) fun u n =>
          u.setObj n { u.obj n with plans := (u.obj n).plans.map fun p => if p.block + 1 = b then { p with shape := .silent } else p } else t
      if f + 4 ≤ b then t.setLogical e.1 { e.2 with fault := none } else t
    | _, _ => t

/-- SPARE_REFILL_DONE on physical tile p (R317 step 5). -/
def spareRefillDone (s : State) (p : Nat) : State :=
  if s.tileState p ≠ 3 then s
  else
    let s := ((s.wf (Reg.TILE_STATUS p) 2 0 1).event 21).setTile p { s.tile p with refilled := true }
    match s.hostedBy p with
    | none => s
    | some l => s.over ((s.tileObjects l).map fun n => [2 * n, 2 * n + 1]).flatten fun t k =>
        if (Assoc.get? k t.skein.hist).isSome then t.setHist k { t.histCh k with pages := (t.histCh k).pages.map fun p => { p with loaded := true } } else t

/-- A write of TILE[p].CMD (R155). -/
def tileCommand (s : State) (p : Nat) (v : Word) : State :=
  let s := if bitAt v 0 then s.tileClearCounts p else s
  let s := if bitAt v 1 then s.tileFence p else s
  if bitAt v 2 then s.tileKatStart p else s

/-- The power-on tests of the tiles at reset release: those of `failed` are fenced (R312, R529). -/
def tilePowerOn (s : State) (failed : List Nat) : State :=
  let s := s.over (List.range s.dev.part.tiles) fun t p =>
    if failed.contains p then (t.wf (Reg.TILE_STATUS p) 2 0 4).reportHosting p none
    else if p < t.dev.part.activeTiles then (t.wf (Reg.TILE_STATUS p) 2 0 1).reportHosting p (some p)
    else (t.wf (Reg.TILE_STATUS p) 2 0 2).reportHosting p none
  let s := s.reportSpares
  let s := s.over (failed.filter fun p => s.dev.part.activeTiles ≤ p && p < s.dev.part.tiles) fun t _ => t.spareEngagesPages
  s.over ((List.range s.dev.part.activeTiles).filter failed.contains) fun t p =>
    let t := t.rehost p 0
    match (t.logicalTile p).host with
    | some q => (t.wf (Reg.TILE_STATUS q) 2 0 1).setLogical p { host := some q }
    | none => t

end State

end Sys2Proof.Machine
end

