-- ==== Sys2Proof/Machine/Tdm.lean ====
section
/-! DEFINITION. TDM ports: enabling and disabling (R376, R391), frames, masks and compaction (R378 to R389), the frame FIFO
of a slave and its faults (R382 to R385), and line checks (R390, R392). -/

namespace Sys2Proof.Machine

/-- Bits of a slot by the WIDTH code (R394). -/
def tdmWidth (code : Nat) : Nat := match code with | 0 => 16 | 1 => 24 | _ => 32

/-- Positions of a mask below `n`, ascending. -/
def maskSlots (m : Word) (n : Nat) : List Nat := (List.range n).filter fun k => bitAt m k

namespace State

def tdmPort (s : State) (n : Nat) : TdmPort := (Assoc.get? n s.tdm).getD {}
def setTdm (s : State) (n : Nat) (p : TdmPort) : State := { s with tdm := Assoc.put n p s.tdm }
def tdmState (s : State) (n : Nat) : Nat := s.rf (Reg.TDM_STATUS n) 2 0
def tdmMaster (s : State) (n : Nat) : Bool := s.bitOf (Reg.TDM_CFG0 n) 1
def tdmBits (s : State) (n : Nat) : Nat := tdmWidth (s.rf (Reg.TDM_CFG0 n) 5 4)
/-- IXP sources of the port's range (R377). -/
def tdmRange (s : State) (n : Nat) : Nat := if 16 < s.tdmSlots n then 32 else 16
/-- Ticks between frames. -/
def tdmStep (s : State) (n : Nat) : Nat := if s.tdmHalfRate n then 2 else 1

/-- An assertion of the port's event, at most once per block (R392). -/
def tdmEvent (s : State) (n : Nat) : State :=
  let p := s.tdmPort n
  if p.raisedIn = some s.block then s else (s.setTdm n { p with raisedIn := some s.block }).levelAssert (96 + n)

/-- A STICKY bit of the port; the source stays live while STICKY is not 0 (R392, R492). -/
def tdmSticky (s : State) (n b : Nat) : State :=
  if s.bitOf (Reg.TDM_STICKY n) b then s
  else ((s.setBit (Reg.TDM_STICKY n) b).tdmEvent n).setBit (Reg.EVT_LIVE ((96 + n) / 32)) (n % 32)

/-- After a write-1-to-clear of STICKY. -/
def tdmStickyCleared (s : State) (n : Nat) : State :=
  s.putBit (Reg.EVT_LIVE ((96 + n) / 32)) (n % 32) (s.rd (Reg.TDM_STICKY n) != 0)

def tdmReportFifo (s : State) (n : Nat) : State :=
  let p := s.tdmPort n
  (s.wf (Reg.TDM_FIFO n) 3 0 p.rxFifo.length).wf (Reg.TDM_FIFO n) 11 8 p.txFifo.length

/-! ### Configuration: R376, R377, R391 -/

/-- The reasons of R376 for which an ENABLE of port n is refused, given the CFG0 words of the ports. -/
def tdmCfgBad (cfg : Nat → Word) (n : Nat) : Bool :=
  let w := cfg n
  let slots (x : Word) : Nat := fld x 10 6 + 1
  let on (k : Nat) : Bool := bitAt (cfg k) 0
  (decide (fld w 3 2 < 2) && slots w != 2) || (decide (16 < slots w) && !bitAt w 11) ||
  (decide (16 < slots w) && (n % 2 == 1 || on (n + 1))) || (n % 2 == 1 && on (n - 1) && decide (16 < slots (cfg (n - 1)))) || fld w 5 4 == 3
def tdmRefused (s : State) (n : Nat) (w : Word) : Bool := tdmCfgBad (fun k => if k = n then w else s.rd (Reg.TDM_CFG0 k)) n

/-- DIV_ACT of a master port (R379). -/
def tdmDivider (w : Word) : Nat :=
  if bitAt w 1 then
    (divEven ((if bitAt w 11 then 4096 else 2048) * 65536 : Nat) ((fld w 10 6 + 1) * tdmWidth (fld w 5 4))).toNat
  else 0

/-- ENABLE becomes 1: the port starts (R391). -/
def tdmStart (s : State) (n : Nat) (w : Word) : State :=
  let s := s.wr (Reg.TDM_CFG0 n) w
  let s := s.setTdm n { shape := if bitAt w 1 then .normal else .silent, lastValid := s.tick, maskAt := (s.tdmPort n).maskAt, raisedIn := (s.tdmPort n).raisedIn }
  let s := (((s.wf (Reg.TDM_STATUS n) 6 0 1).wr (Reg.TDM_FRAME_COUNT n) 0).wr (Reg.TDM_DIV_ACT n) (BitVec.ofNat 32 (tdmDivider w))).wr (Reg.TDM_RATE_ERR n) 0
  let wide := decide (16 < s.tdmSlots n)
  let s := if wide then (s.setBit (Reg.TDM_STATUS n) 8).setBit (Reg.TDM_STATUS (n + 1)) 8 else s
  (s.over (List.range (s.tdmRange n)) fun t k => t.restartChannel (1024 + 16 * n + k)).tdmReportFifo n

/-- ENABLE becomes 0: the inputs ramp out, and the pins stop at the frame after that (R391). -/
def tdmStop (s : State) (n : Nat) : State :=
  let s := s.clrBit (Reg.TDM_CFG0 n) 0
  let p := s.tdmPort n
  s.setTdm n { p with shape := match p.shape with | .silent => .closing 32 | _ => .closing 0 }

/-- A write of CFG0 (R376): while ENABLE is 1 only a clear of ENABLE acts. -/
def tdmCfgWrite (s : State) (n : Nat) (v : Word) : State :=
  let w := v &&& 0x3FFFF
  if s.tdmEnabled n then (if bitAt w 0 then s else s.tdmStop n)
  else if !bitAt w 0 then s.wr (Reg.TDM_CFG0 n) w
  else if s.tdmRefused n w then (s.wr (Reg.TDM_CFG0 n) (setFld w 0 0 0)).tdmSticky n 7
  else s.tdmStart n w

/-- A write of RX_MASK or TX_MASK waits for a frame (R388). -/
def tdmMaskWrite (s : State) (o n : Nat) (v : Word) : State :=
  ((s.wr o v).setTdm n { s.tdmPort n with maskAt := some (((s.tdmPort n).maskAt).getD s.tick) }).setBit (Reg.TDM_STATUS n) 7

/-- The waiting masks apply at the frame-sync edge of the frame that follows (R388). -/
def tdmMaskApply (s : State) (n : Nat) : State :=
  match (s.tdmPort n).maskAt with
  | none => s
  | some _ =>
    let rx := Reg.TDM_RX_MASK n
    let tx := Reg.TDM_TX_MASK n
    let s := ((s.enforce rx (s.rd rx)).enforce tx (s.rd tx)).setTdm n { s.tdmPort n with maskAt := none }
    let s := s.wf (Reg.TDM_MASK_EPOCH n) 15 0 (s.rf (Reg.TDM_MASK_EPOCH n) 15 0 + 1)
    (s.wr (Reg.TDM_MASK_FRAME n) (s.rd (Reg.TDM_FRAME_COUNT n) + 1)).clrBit (Reg.TDM_STATUS n) 7

/-- MASK_APPLY: at a frame of a port that has frames. -/
def maskApply (s : State) (n : Nat) : State := if s.tdmEnabled n && decide (n < 32) then s.tdmMaskApply n else s

/-- A write reaches the port within 2 µs, so it applies at the latest at the second frame after it (R388). -/
def tdmMaskDue (s : State) (n : Nat) : State :=
  match (s.tdmPort n).maskAt with | some t => if t + 2 ≤ s.tick then s.tdmMaskApply n else s | none => s

/-- DMA_CFG_WRITE (R389). -/
def tdmDmaCfgWrite (s : State) (n : Nat) (v : Word) : State :=
  if bitAt v 0 && fld v 31 16 == 0 then s.tdmSticky n 7 else s.wr (Reg.TDM_DMA_CFG n) (v &&& 0xFFFF0001)

/-! ### A received frame on the wire -/

/-- Slot words as Q1.31 (R387). -/
def tdmWiden (bits w : Nat) : Int := signExt bits (w % 2 ^ bits) * 2 ^ (32 - bits)

/-- The values a frame gives the sources of the port's range, by position (R386). -/
def tdmMap (s : State) (n : Nat) (slots : List Int) : List Int :=
  let cap := maskSlots (s.inForce (Reg.TDM_RX_MASK n)) (s.tdmSlots n)
  let at' (k : Nat) : Int := slots.getD k 0
  (List.range (s.tdmRange n)).map fun k =>
    if s.bitOf (Reg.TDM_CFG0 n) 14 then (match cap[k]? with | some c => at' c | none => 0)
    else if cap.contains k then at' k else 0

/-- The DMA record of a frame (R389). -/
def tdmRecord (s : State) (n : Nat) (slots : List Int) : State :=
  let cfg := s.rd (Reg.TDM_DMA_CFG n)
  if !bitAt cfg 0 then s
  else
    let cap := maskSlots (s.inForce (Reg.TDM_RX_MASK n)) (s.tdmSlots n)
    let words : List Nat := [s.rf (Reg.TDM_MASK_EPOCH n) 15 0 + cap.length * 65536, (s.rd (Reg.TDM_FRAME_COUNT n)).toNat] ++
      cap.map (fun c => (wordOfInt (slots.getD c 0)).toNat) ++ List.replicate (32 - cap.length) 0
    let i := s.rf (Reg.TDM_DMA_WRPTR n) 15 0
    let s := (s.masterWrite 11 (s.rd64 (Reg.TDM_DMA_BASE_LO n) + 136 * i) (words.map (leBytes 4)).flatten).1
    s.wf (Reg.TDM_DMA_WRPTR n) 15 0 (if fld cfg 31 16 ≤ i + 1 then 0 else i + 1)

/-- Stuck data (R390). -/
def tdmDataCheck (s : State) (n : Nat) (slots : List Int) : State :=
  let cap := maskSlots (s.inForce (Reg.TDM_RX_MASK n)) (s.tdmSlots n)
  let ones : Int := -(2 ^ (32 - s.tdmBits n))
  let p := s.tdmPort n
  let all (x : Int) : Bool := !cap.isEmpty && cap.all fun c => slots.getD c 0 == x
  let p := { p with highRun := if all ones then p.highRun + 1 else 0, idleRun := if all 0 then p.idleRun + 1 else 0 }
  let s := (s.setTdm n p).putBit (Reg.TDM_STATUS n) 5 (decide (3000 ≤ p.idleRun))
  let s := s.putBit (Reg.TDM_STATUS n) 4 (decide (3000 ≤ p.highRun))
  if p.highRun = 3000 then s.tdmSticky n 5 else s

/-- Read-back of the driven pins (R390). -/
def tdmReadBack (s : State) (n : Nat) (matched : Bool) : State :=
  let p := s.tdmPort n
  let p := { p with shortRun := if matched then 0 else p.shortRun + 1, goodRun := if matched then p.goodRun + 1 else 0 }
  let s := s.setTdm n p
  if 8 ≤ p.shortRun then (s.setBit (Reg.TDM_STATUS n) 6).tdmSticky n 6 else if 8 ≤ p.goodRun then s.clrBit (Reg.TDM_STATUS n) 6 else s

/-- A transmit frame leaves: output values by slot (R386, R387). With the root PLL unlocked every output drives 0 (R514). -/
def tdmTransmit (s : State) (n : Nat) (outs : List (Nat × Int)) : State :=
  let outs := if s.rootUnlocked then [] else outs
  let driven := maskSlots (s.inForce (Reg.TDM_TX_MASK n)) (s.tdmSlots n)
  let first := s.rf (Reg.TDM_TX_FIRST n) 9 0
  let bits := s.tdmBits n
  let word (j : Nat) : Int := if s.dev.part.hasOutput j then satS bits (divEven ((outs.lookup j).getD 0) (2 ^ (32 - bits))) else 0
  s.emit (.tdm n ((List.range (s.tdmSlots n)).map fun k =>
    if driven.contains k then some (word (first + if s.bitOf (Reg.TDM_CFG0 n) 15 then driven.findIdx (· == k) else k))
    else if s.bitOf (Reg.TDM_CFG0 n) 17 then none else some 0))

/-- The values of the outputs at the pins at tick t (R237, R380). -/
def pinValues (s : State) (t : Nat) : List (Nat × Int) := if t < 8 then [] else (s.outs.ports.lookup (t - 8)).getD []

/-! ### The device side -/

/-- A frame's values reach conditioning, shaped (R384, R385, R391). -/
def tdmDeliver (s : State) (n : Nat) (vals : List Int) : State :=
  let p := s.tdmPort n
  let at' (k : Nat) : Int := vals.getD k 0
  let out (k : Nat) : Int := match p.shape with
    | .normal => at' k
    | .fade i => divEven (p.rxLast.getD k 0 * (31 - i)) 32
    | .silent => 0
    | .rampIn i => rampIn (at' k) i
    | .closing i => if i < 32 then rampOut (at' k) i else 0
  let next : TdmShape := match p.shape with
    | .fade i => if i < 31 then .fade (i + 1) else .silent
    | .rampIn i => if i < 31 then .rampIn (i + 1) else .normal
    | .closing i => .closing (i + 1)
    | x => x
  let last := match p.shape with | .fade _ => p.rxLast | .silent => p.rxLast | _ => (List.range (s.tdmRange n)).map out
  let s := s.setTdm n { p with shape := next, rxLast := last }
  s.over (List.range (s.tdmRange n)) fun t k => t.pushSource (1024 + 16 * n + k) (t.tick / t.tdmStep n : Nat) (out k) 0 0

/-- The pins stop at the frame-sync edge after the ramp of a disable (R391). -/
def tdmFinishStop (s : State) (n : Nat) : State :=
  let s := ((s.wf (Reg.TDM_STATUS n) 7 0 (s.rf (Reg.TDM_STATUS n) 7 7 * 128)).setTdm n { maskAt := (s.tdmPort n).maskAt, raisedIn := (s.tdmPort n).raisedIn }).tdmReportFifo n
  if 16 < s.tdmSlots n then (s.clrBit (Reg.TDM_STATUS n) 8).clrBit (Reg.TDM_STATUS (n + 1)) 8 else s

/-- The device frame tick of port n (R379 to R382): `wire` is what a master receives in the frame, `matched` its read-back. A
master whose clocks have stopped has no frames (R514). -/
def tdmDeviceFrame (s : State) (n : Nat) (wire : List Nat) (matched : Bool) : State :=
  if (s.tdmMaster n ∧ s.rootUnlocked) ∨ s.tdmState n = 0 ∨ s.tick % s.tdmStep n ≠ 0 ∨ s.ticked.tdmTick.contains n then s
  else
    let s : State := { s with ticked := { s.ticked with tdmTick := n :: s.ticked.tdmTick } }
    let done := match (s.tdmPort n).shape with | .closing i => decide (32 ≤ i) | _ => false
    if done then s.tdmFinishStop n
    else if s.tdmMaster n then
      let s := s.tdmMaskDue n
      let s := s.wr (Reg.TDM_FRAME_COUNT n) (s.rd (Reg.TDM_FRAME_COUNT n) + 1)
      let slots := wire.map (tdmWiden (s.tdmBits n))
      let s := (s.tdmRecord n slots).tdmDataCheck n slots
      let s := (s.tdmDeliver n (s.tdmMap n slots)).tdmReadBack n matched
      s.tdmTransmit n (s.pinValues s.tick)
    else
      let p := s.tdmPort n
      let running := decide (s.tdmState n = 2)
      let slip (t : State) (o : Nat) : State := (t.count o).tdmSticky n 0
      let vals := match p.rxFifo with | v :: _ => v | [] => p.rxLast
      let s := if running && p.rxFifo.isEmpty then slip s (Reg.TDM_SLIPS_RX n) else s
      let s := if running then s.setTdm n { s.tdmPort n with rxFifo := (s.tdmPort n).rxFifo.drop 1 } else s
      let s := s.tdmDeliver n vals
      let tx := (s.tdmPort n).txFifo ++ [s.pinValues s.tick]
      let s := if running && decide (8 < tx.length) then slip s (Reg.TDM_SLIPS_TX n) else s
      (if running then s.setTdm n { s.tdmPort n with txFifo := tx.drop (tx.length - 8) } else s).tdmReportFifo n

/-- Every port whose device frame tick has not been commanded in this tick: its data pin reads zeros. -/
def tdmCatchUp (s : State) : State := s.over (List.range 32) fun t n => t.tdmDeviceFrame n [] true

/-! ### The wire side of a slave: R382 to R385 -/

/-- A frame on a slave's pins: its slots, its BCLK count and the read-back. -/
def tdmFrameReceive (s : State) (n : Nat) (wire : List Nat) (bclks : Nat) (matched : Bool) : State :=
  if 32 ≤ n ∨ s.tdmState n = 0 ∨ s.tdmMaster n then s
  else
    let s := s.tdmMaskDue n
    let s := s.wr (Reg.TDM_FRAME_COUNT n) (s.rd (Reg.TDM_FRAME_COUNT n) + 1)
    let running := decide (s.tdmState n = 2)
    let slip (t : State) (o : Nat) : State := (t.count o).tdmSticky n 0
    -- The transmit FIFO gives the frame that leaves at this edge.
    let p := s.tdmPort n
    let tx := match p.txFifo with | v :: _ => v | [] => p.txLast
    let s := if running && p.txFifo.isEmpty then slip s (Reg.TDM_SLIPS_TX n) else s
    let s := if running then (s.setTdm n { s.tdmPort n with txFifo := (s.tdmPort n).txFifo.drop 1, txLast := tx }).tdmTransmit n tx
      else if s.tdmState n = 4 ∨ s.tdmState n = 1 then s.tdmTransmit n [] else s
    let s := s.tdmReadBack n matched
    if bclks ≠ s.tdmSlots n * s.tdmBits n then
      ((s.count (Reg.TDM_BAD_FRAMES n)).tdmSticky n 1).setTdm n { s.tdmPort n with valid := 0 }
    else
      let slots := wire.map (tdmWiden (s.tdmBits n))
      let s := (s.tdmRecord n slots).tdmDataCheck n slots
      let p := s.tdmPort n
      let rx := p.rxFifo ++ [s.tdmMap n slots]
      let s := if running && decide (8 < rx.length) then slip s (Reg.TDM_SLIPS_RX n) else s
      (s.setTdm n { s.tdmPort n with rxFifo := rx.drop (rx.length - 8), valid := p.valid + 1, lastValid := s.tick }).tdmReportFifo n

/-- Inputs fade from what they last delivered. -/
def tdmFade (s : State) (n : Nat) : State :=
  let p := s.tdmPort n
  s.setTdm n { p with valid := 0, shape := match p.shape with | .normal => .fade 0 | .rampIn _ => .fade 0 | x => x }

/-- TDM_STALL: no valid frame for four frame periods (R384). -/
def tdmStall (s : State) (n : Nat) : State :=
  if 32 ≤ n ∨ !s.tdmEnabled n ∨ s.tdmMaster n ∨ s.tdmState n = 3 ∨ s.tick < (s.tdmPort n).lastValid + 4 * s.tdmStep n then s
  else (((s.wf (Reg.TDM_STATUS n) 2 0 3).count (Reg.TDM_STALLS n)).tdmFade n).tdmSticky n 2

/-- TDM_RATE_WINDOW: the rate error of a window of 64 frames (Q16.16 ppm), and whether FSYNC ran above BCLK (R384). -/
def tdmRateWindow (s : State) (n : Nat) (err : Int) (swapped : Bool) : State :=
  if 32 ≤ n ∨ !s.tdmEnabled n ∨ s.tdmMaster n then s
  else
    let bad := decide (10000 * 65536 < err.natAbs)
    let s := (s.wr (Reg.TDM_RATE_ERR n) (satWord err)).setTdm n { s.tdmPort n with rateOk := !bad && !swapped }
    if bad || swapped then
      let s := if swapped then s.setBit (Reg.TDM_STATUS n) 3 else s
      if s.tdmState n = 3 then s
      else
        let s := if s.tdmState n = 4 then s else (s.wf (Reg.TDM_STATUS n) 2 0 4).count (Reg.TDM_UNLOCKS n)
        let s := (s.tdmFade n).tdmSticky n (if swapped then 4 else 3)
        s.setTdm n { s.tdmPort n with needed := 256 }
    else s

/-- A port that may run from the boundary in progress on (R385, R391). -/
def tdmReady (s : State) (n : Nat) : Bool :=
  let p := s.tdmPort n
  s.tdmEnabled n && (if s.tdmMaster n then s.tdmState n == 1 else s.tdmState n != 0 && s.tdmState n != 2 && decide (p.needed ≤ p.valid) && p.rateOk)

/-- TDM_RUNNING at a block boundary (R385, R391). -/
def tdmRunning (s : State) (n : Nat) : State :=
  if s.phase ≠ 0 ∨ !s.tdmReady n then s
  else
    let s := (s.wf (Reg.TDM_STATUS n) 2 0 2).tdmEvent n
    if s.tdmMaster n then s
    else
      let p := s.tdmPort n
      let rx := p.rxFifo.drop (p.rxFifo.length - 4)
      let tx := [3, 2, 1, 0].map fun k => s.pinValues (s.tick - k * s.tdmStep n)
      let s := s.setTdm n { p with rxFifo := rx, txFifo := tx, shape := .rampIn 0, needed := 16 }
      (s.clrBit (Reg.TDM_STATUS n) 3).tdmReportFifo n

/-- TDM[n].CMD.CLEAR_COUNTS (R393). -/
def tdmClearCounts (s : State) (n : Nat) : State :=
  s.resetRegs [Reg.TDM_SLIPS_RX n, Reg.TDM_SLIPS_TX n, Reg.TDM_BAD_FRAMES n, Reg.TDM_STALLS n, Reg.TDM_UNLOCKS n]

end State

end Sys2Proof.Machine
end

