-- ==== Sys2Proof/Machine/Streams.lean ====
section
/-! DEFINITION. Receive and transmit streams: configuration and its refusals (R353, R354, R356, R361), placement
(R355, R357), concealment (R358), SSRC and loss (R359), time steps (R360), packets and their numbers (R362, R363). -/

namespace Sys2Proof.Machine

/-- Rates by the RATE code of R52, with the code of CH[n].STATUS and the fade length of R358. -/
def streamHz (r : Nat) : Nat := match r with | 0 => 48000 | 1 => 96000 | 2 => 44100 | 3 => 88200 | _ => 192000
def concealLength (r : Nat) : Nat := match r with | 0 => 16 | 1 => 32 | 2 => 14 | 3 => 29 | _ => 64

/-- Frames in a packet (R354). -/
def packetFrames (rate ptime : Nat) : Nat :=
  let row : List Nat := match rate with
    | 0 => [6, 12, 16, 48] | 1 => [12, 24, 32, 96] | 2 => [6, 11, 15, 44] | 3 => [11, 22, 29, 88] | _ => [24, 48, 64, 192]
  row.getD ptime 0

/-- Bytes of a sample: L16, L24, L32. -/
def encodingBytes (e : Nat) : Nat := match e with | 0 => 2 | 1 => 3 | _ => 4

/-- A big-endian sample widened to Q1.31 by zero low bits (R354). -/
def decodeSample (enc : Nat) (l : List Byte) (o : Nat) : Int :=
  let n := encodingBytes enc
  signExt (8 * n) (beNat l o n) * 2 ^ (32 - 8 * n)

/-- A sample narrowed to the encoding with saturation, big-endian (R363). -/
def encodeSample (enc : Nat) (v : Int) : List Byte :=
  let n := encodingBytes enc
  beBytes n ((satS (8 * n) (divEven v (2 ^ (32 - 8 * n)))) % 2 ^ (8 * n)).toNat

/-- An RTP packet: payload type, sequence number, timestamp, SSRC and payload (R355). -/
structure RtpPacket where
  pt : Nat
  seq : Nat
  ts : Nat
  ssrc : Nat
  payload : List Byte
  deriving DecidableEq, Repr

/-- Parse an RTP header with any CSRC count and with or without an extension (R355). -/
def parseRtp (b : List Byte) : Option RtpPacket :=
  let b0 := byteAt b 0
  let o := 12 + 4 * (b0 % 16)
  let o := if b0 / 16 % 2 = 1 then o + 4 + 4 * beNat b (o + 2) 2 else o
  if b0 / 64 = 2 ∧ o ≤ b.length then some ⟨byteAt b 1 % 128, beNat b 2 2, beNat b 4 4, beNat b 8 4, b.drop o⟩ else none

namespace State

/-! ### Fields -/

def rxs (s : State) (i : Nat) : RxStream := (Assoc.get? i s.net.rx).getD {}
def setRxs (s : State) (i : Nat) (r : RxStream) : State := { s with net := { s.net with rx := Assoc.put i r s.net.rx } }
def rxsChannels (s : State) (i : Nat) : Nat := s.rf (Reg.RXS_FORMAT i) 6 0
def rxsEncoding (s : State) (i : Nat) : Nat := s.rf (Reg.RXS_FORMAT i) 9 8
def rxsRate (s : State) (i : Nat) : Nat := s.rf (Reg.RXS_FORMAT i) 14 12
def rxsFirst (s : State) (i : Nat) : Nat := s.rf (Reg.RXS_FORMAT i) 25 16
def rxsFrames (s : State) (i : Nat) : Nat := packetFrames (s.rxsRate i) (s.rf (Reg.RXS_FORMAT i) 11 10)
def rxsHz (s : State) (i : Nat) : Nat := streamHz (s.rxsRate i)
def rxsOffset (s : State) (i : Nat) : Nat := (s.rd (Reg.RXS_LINK_OFFSET i)).toNat
def rxsPayload (s : State) (i : Nat) : Nat := s.rxsChannels i * s.rxsFrames i * encodingBytes (s.rxsEncoding i)

/-- JUMBO is 1 on every port that carries a stream with this PORT field (R353, R354). -/
def jumboOn (s : State) (port : Nat) : Bool :=
  let j (n : Nat) := s.bitOf (Reg.NET_CFG0 n) 4
  if s.net.prp || port == 2 then j 0 && j 1 else j port

def payloadLimit (s : State) (port : Nat) : Nat := if s.jumboOn port then 8960 else 1440

/-! ### Receive streams: enable and disable -/

/-- The DRAM frames of a software buffer: 48 ms of the stream, in whole 64 KiB frames (R356). -/
def rxsBufferFrames (s : State) (i : Nat) : Nat :=
  let per := (48 * s.rxsHz i + 999) / 1000
  (s.rxsChannels i * per * 4 + 65535) / 65536

/-- Two ranges of channels overlap. -/
def overlap (a n b m : Nat) : Bool := decide (a < b + m) && decide (b < a + n)

/-- The refusals of R353, R355, R356 and R407. -/
def rxsRefused (s : State) (i : Nat) : Bool :=
  let others := (List.range 128).filter fun j => j != i && s.rxsEnabled j
  let filt (j : Nat) : Nat := if s.bitOf (Reg.RXS_CTRL j) 3 then s.addrWords (Reg.RXS_SRC j 0) + 1 else 0
  (others.any fun j => overlap (s.rxsFirst i) (s.rxsChannels i) (s.rxsFirst j) (s.rxsChannels j)) ||
  decide (1024 < s.rxsFirst i + s.rxsChannels i) ||
  (s.imports.any fun e => decide (s.rxsFirst i ≤ e.1) && decide (e.1 < s.rxsFirst i + s.rxsChannels i)) ||
  (others.any fun j => s.addrWords (Reg.RXS_ADDR i 0) == s.addrWords (Reg.RXS_ADDR j 0) &&
    s.rf (Reg.RXS_UDP_PORT i) 15 0 == s.rf (Reg.RXS_UDP_PORT j) 15 0 && filt i == filt j) ||
  decide (s.payloadLimit (s.rf (Reg.RXS_CTRL i) 2 1) < s.rxsPayload i) ||
  decide (20000000 * s.rxsHz i < s.rxsOffset i * s.rxsHz i + s.rxsFrames i * 1000000000) ||
  (!s.net.configured.contains i && decide (s.freeDramFrames < s.rxsBufferFrames i))

/-- Setting RXS CTRL.ENABLE (R353, R356): refused, or the buffer is allocated and the channels restart. -/
def rxsEnable (s : State) (i : Nat) : State :=
  if s.rxsEnabled i then s
  else if s.rxsRefused i then s.setBit (Reg.RXS_STICKY i) 0
  else
    let frames := if s.net.configured.contains i then 0 else s.rxsBufferFrames i
    let s := (s.setBit (Reg.RXS_CTRL i) 0).setRxs i { phase := .silent, frames := frames, lastAccept := s.uptime }
    let s := if frames = 0 then s else s.allocFrames (.rxStream i) frames
    let s := s.setBit (Reg.RXS_STATUS i) 1
    s.over (List.range (s.rxsChannels i)) fun t c => t.restartChannel (s.rxsFirst i + c)

/-- Clearing ENABLE (R353, R356): the channels ramp out over 32 samples and a software buffer is released. -/
def rxsDisable (s : State) (i : Nat) : State :=
  if s.rxsEnabled i then
    let b := s.block + 1
    let t := (s.clrBit (Reg.RXS_CTRL i) 0).setRxs i { s.rxs i with closing := some b }
    let t := (t.wr (Reg.RXS_STATUS i) 0).releaseFrames (.rxStream i)
    t.over (List.range (s.rxsChannels i)) fun t c =>
      t.setChan (s.rxsFirst i + c) { t.chan (s.rxsFirst i + c) with muteFrom := some b }
  else s

def rxsCounters (i : Nat) : List Nat := (List.range 7).map fun k => 0x190044 + 0x100 * i + 4 * k

/-- A write of RXS[i].CTRL (R353, R374). -/
def rxsCtrlWrite (s : State) (i : Nat) (v : Word) : State :=
  let s := if bitAt v 31 then s.resetRegs (rxsCounters i) else s
  let was := s.rxsEnabled i
  let s := s.wr (Reg.RXS_CTRL i) ((v &&& 0x007F000E) ||| (if was then 1 else 0))
  if bitAt v 0 && !was then s.rxsEnable i else if !bitAt v 0 && was then s.rxsDisable i else s

/-! ### Placement and arrival -/

/-- The number of sample indices of stream `i` whose source instant lies at or before tick `k` (R355). -/
def rxsDueCount (s : State) (i : Nat) (k : Nat) : Int :=
  let hz : Int := s.rxsHz i
  ((k : Int) * hz * 1000000000 - s.rxsOffset i * hz * 96000).fdiv (96000 * 1000000000) - s.rxsFrames i + 1

/-- n of R355: congruent to timestamp − RTP_OFFSET modulo 2^32, nearest to local time × rate. -/
def rxsIndex (s : State) (i ts : Nat) : Int :=
  let x := divEven (s.now * s.rxsHz i : Nat) countsPerSecond
  x + signExt 32 (((ts : Int) - (s.rd (Reg.RXS_RTP_OFFSET i)).toNat - x) % 2 ^ 32).toNat

/-- Twice-compared instants: the source instant of index `n` against an arrival at root count `c`, both × rate × 10^9
root counts; the difference instant − arrival. -/
def rxsLead (s : State) (i : Nat) (n : Int) (c : Nat) : Int :=
  ((n + s.rxsFrames i) * 1000000000 + s.rxsOffset i * s.rxsHz i) * countsPerSecond - (c : Int) * s.rxsHz i * 1000000000

/-- Store the samples of a packet that are not yet in the buffer (R357). -/
def storeFrames (r : RxStream) (enc ch : Nat) (n : Nat) (payload : List Byte) (frames : Nat) : RxStream :=
  (List.range frames).foldl (fun (r : RxStream) f =>
    match Assoc.get? (n + f) r.buffer with
    | some _ => r
    | none =>
      let vals := (List.range ch).map fun c => decodeSample enc payload ((f * ch + c) * encodingBytes enc)
      { r with buffer := Assoc.put (n + f) vals r.buffer }) r

/-- A packet with another SSRC than the locked one (R359). -/
def rxsForeign (s : State) (i : Nat) (p : RtpPacket) : State :=
  let s := (s.count (Reg.RXS_FORMAT_ERRORS i)).eventOncePerBlock 85
  let r := s.rxs i
  let k := match r.candidate with | some (x, k) => if x = p.ssrc then k + 1 else 1 | none => 1
  if 4 ≤ k then
    let s := (s.wr (Reg.RXS_SSRC i) (BitVec.ofNat 32 p.ssrc)).count (Reg.RXS_SSRC_CHANGES i)
    let s := s.setRxs i { r with candidate := none, lastSeq := none, buffer := [] }
    s.over (List.range (s.rxsChannels i)) fun t c => t.restartChannel (s.rxsFirst i + c)
  else s.setRxs i { r with candidate := some (p.ssrc, k) }

/-- R357 and R359 for stream `i`, or the one that goes on beside it. -/
def rtpTo (s : State) (i c : Nat) (bytes : List Byte) : State :=
  if !s.rxsEnabled i then s
  else match parseRtp bytes with
    | none => (s.count (Reg.RXS_FORMAT_ERRORS i)).eventOncePerBlock 85
    | some p =>
      let r := s.rxs i
      if p.pt ≠ s.rf (Reg.RXS_CTRL i) 22 16 ∨ p.payload.length ≠ s.rxsPayload i then
        (s.count (Reg.RXS_FORMAT_ERRORS i)).eventOncePerBlock 85
      else if r.locked ∧ p.ssrc ≠ (s.rd (Reg.RXS_SSRC i)).toNat then s.rxsForeign i p
      else
        let n := s.rxsIndex i p.ts
        let lead := s.rxsLead i n c
        if lead ≤ 0 ∨ n < 0 then (s.count (Reg.RXS_LATE i)).eventOncePerBlock 84
        else if 20000000 * countsPerSecond * s.rxsHz i < lead then s.count (Reg.RXS_EARLY i)
        else if (List.range (s.rxsFrames i)).all fun f => (Assoc.get? (n.toNat + f) r.buffer).isSome then s.count (Reg.RXS_DUPLICATES i)
        else
          let gap := match r.lastSeq with | some q => (p.seq + 65536 - q - 1) % 65536 | none => 0
          let forward := decide (gap < 32768)
          let s := if forward then s.countBy (Reg.RXS_LOST i) gap else s
          let r := storeFrames r (s.rxsEncoding i) (s.rxsChannels i) n.toNat p.payload (s.rxsFrames i)
          let r := { r with locked := true, candidate := none, lastAccept := s.uptime,
                            lastSeq := if forward then some p.seq else r.lastSeq }
          let s := (s.setRxs i r).count (Reg.RXS_PACKETS i)
          (s.wr (Reg.RXS_SSRC i) (BitVec.ofNat 32 p.ssrc)).setBit (Reg.RXS_STATUS i) 0

/-- The stream of a leaving version goes on beside stream `i` and takes the same packets (R303). -/
def sharesAddress (s : State) (i : Nat) : Bool :=
  let o := oldStream i
  s.rxsEnabled o && (!s.rxsEnabled i || (s.addrWords (Reg.RXS_ADDR i 0) == s.addrWords (Reg.RXS_ADDR o 0) && s.rf (Reg.RXS_UDP_PORT i) 15 0 == s.rf (Reg.RXS_UDP_PORT o) 15 0))

/-- RTP_PACKET (R357, R359) for stream `i`, received at root count `c`. -/
def rtpPacket (s : State) (i c : Nat) (bytes : List Byte) : State :=
  if 128 ≤ i then s
  else
    let both := s.sharesAddress i
    let s := s.rtpTo i c bytes
    if both then s.rtpTo (oldStream i) c bytes else s

/-- RX_STREAM_LOST (R359): no packet accepted for 8 packet durations or 4 ms, whichever is longer. -/
def rxStreamLost (s : State) (i : Nat) : State :=
  let quiet := s.uptime - (s.rxs i).lastAccept
  let limit := max (8 * s.rxsFrames i * countsPerSecond / s.rxsHz i) (countsPerSecond / 250)
  if s.rxsEnabled i && s.bitOf (Reg.RXS_STATUS i) 0 && decide (limit ≤ quiet) then (s.clrBit (Reg.RXS_STATUS i) 0).event 83 else s

/-! ### Delivery and concealment: R358 -/

/-- Narrow x × a / f. -/
def scaleFrame (x : List Int) (a f : Nat) : List Int := x.map fun v => divEven (v * a) f

/-- The next sample of a stream: what each channel delivers, the new phase, and whether concealment starts. -/
def concealStep (r : RxStream) (f ch : Nat) (v : Option (List Int)) : List Int × RxPhase × Bool :=
  let zero := List.replicate ch 0
  let fade (i : Nat) : List Int := scaleFrame (r.recent.getD (f - 1) zero) (f - 1 - i) f
  let start : List Int × RxPhase × Bool := (fade 0, .fade 1, true)
  match r.phase, v with
  | .normal, some x => (x, .normal, false)
  | .normal, none => start
  | .fade i, x =>
    if i < f then (fade i, .fade (i + 1), false)
    else match x with
      | some y => (scaleFrame y 1 f, .rampIn 1, false)
      | none => (zero, .silent, false)
  | .silent, some y => (scaleFrame y 1 f, .rampIn 1, false)
  | .silent, none => (zero, .silent, false)
  | .rampIn i, some y => (scaleFrame y (i + 1) f, if f ≤ i + 1 then .normal else .rampIn (i + 1), false)
  | .rampIn _, none => start

/-- The versions whose STREAM_CONFIG defines receive stream `i`: for a stream that goes on beside its successor the leaving one. -/
def streamVersions (s : State) (i : Nat) : List Version :=
  let mine := s.pat.versions.filter fun v => v.region.streams.any fun e => !e.transmit && e.stream == i % 0x100000
  if 0x100000 ≤ i then mine.filter fun v => v.leave.isSome
  else if s.rxsEnabled (oldStream i) then mine.filter fun v => v.leave.isNone else mine

/-- A sample of stream `i` under the weights of the versions that define it, in this tick (R303). -/
def streamWeigh (s : State) (i : Nat) (x : Int) : Int :=
  match s.streamVersions i with
  | [] => x
  | l => satQ31 (l.foldl (fun a v => if v.runs s.block then a + v.weigh s.block s.phase x else a) 0)

/-- What the streams of leaving versions add to channel `c` beside a stream that has taken it over. -/
def leavingShare (s : State) (c : Nat) : Int :=
  (s.net.rx.filter fun e => decide (0x100000 ≤ e.1) && decide (s.rxsFirst e.1 ≤ c) && decide (c < s.rxsFirst e.1 + s.rxsChannels e.1)).foldl
    (fun a e => a + s.streamWeigh e.1 ((e.2.recent.headD []).getD (c - s.rxsFirst e.1) 0)) 0

/-- An enabled stream of the 128 blocks covers channel `c`. -/
def channelTaken (s : State) (c : Nat) : Bool :=
  (List.range 128).any fun i => s.rxsEnabled i && decide (s.rxsFirst i ≤ c) && decide (c < s.rxsFirst i + s.rxsChannels i)

/-- Deliver one source sample of stream `i` to its channels. -/
def rxsDeliver (s : State) (i : Nat) (n : Int) : State :=
  let r := s.rxs i
  let v := if n < 0 then none else Assoc.get? n.toNat r.buffer
  let o := concealStep r (concealLength (s.rxsRate i)) (s.rxsChannels i) v
  let r := { r with buffer := r.buffer.filter fun e => decide (n < (e.1 : Int)),
                    recent := (o.1 :: r.recent).take 64, phase := o.2.1 }
  let s := s.setRxs i r
  let s := s.putBit (Reg.RXS_STATUS i) 1 (match o.2.1 with | .fade _ => true | .silent => true | _ => false)
  let s := if o.2.2 then s.eventOncePerBlock 84 else s
  let first := s.rxsFirst i
  let old := decide (0x100000 ≤ i)
  (o.1.zipIdx).foldl (fun t e =>
    if old && s.channelTaken (first + e.2) then t
    else
      let x := s.streamWeigh i e.1
      t.pushSource (first + e.2) n (if old then x else satQ31 (x + s.leavingShare (first + e.2))) (s.rxsFrames i) (s.rxsOffset i)) s

/-- Every sample of stream `i` whose source instant has come by tick `k`. -/
def rxsRun (s : State) (i k : Nat) : State :=
  let hi := s.rxsDueCount i k
  let lo := match (s.rxs i).next with | some n => (n : Int) | none => hi
  let s := s.over (List.range (min (hi - lo).toNat 8)) fun t j => t.rxsDeliver i (lo + j)
  s.setRxs i { s.rxs i with next := some hi.toNat }

/-- The receive streams at tick `k`. -/
def rxTick (s : State) (k : Nat) : State := s.over (s.net.rx.map (·.1)).reverse fun t i => t.rxsRun i k

/-- Disabled streams whose channels have ramped out end at the boundary that starts block `b`. -/
def rxClose (s : State) (b : Nat) : State :=
  { s with net := { s.net with rx := s.net.rx.filter fun e => match e.2.closing with | some k => decide (b ≤ k) | none => true } }

/-! ### Transmit streams -/

def txsEnabled (s : State) (i : Nat) : Bool := s.bitOf (Reg.TXS_CTRL i) 0
def txsChannels (s : State) (i : Nat) : Nat := s.rf (Reg.TXS_FORMAT i) 6 0
def txsRate (s : State) (i : Nat) : Nat := s.rf (Reg.TXS_FORMAT i) 14 12
def txsFirst (s : State) (i : Nat) : Nat := s.rf (Reg.TXS_FORMAT i) 25 16
def txsEncoding (s : State) (i : Nat) : Nat := s.rf (Reg.TXS_FORMAT i) 9 8
def txsFrames (s : State) (i : Nat) : Nat := packetFrames (s.txsRate i) (s.rf (Reg.TXS_FORMAT i) 11 10)
/-- F96 of R362: frames of a packet at 96 kHz, or twice that number at 48 kHz. -/
def txsTicks (s : State) (i : Nat) : Nat := if s.txsRate i = 0 then 2 * s.txsFrames i else s.txsFrames i
def txsPort (s : State) (i : Nat) : Nat := s.rf (Reg.TXS_CTRL i) 4 3

/-- The refusals of R361 and R353. -/
def txsRefused (s : State) (i : Nat) : Bool :=
  decide (640 < s.txsFirst i + s.txsChannels i) || decide (1 < s.txsRate i) ||
  decide (s.payloadLimit (s.txsPort i) < s.txsChannels i * s.txsFrames i * encodingBytes (s.txsEncoding i))

/-- The first packet whose samples are all still to come. -/
def txsFirstPacket (s : State) (i : Nat) : Nat := (s.tick + 8) / max (s.txsTicks i) 1 + 1

/-- Setting TXS CTRL.ENABLE (R361). -/
def txsEnable (s : State) (i : Nat) : State :=
  if s.txsEnabled i then s
  else if s.txsRefused i then s.setBit (Reg.TXS_STICKY i) 0
  else
    let t := (s.setBit (Reg.TXS_CTRL i) 0).setBit (Reg.TXS_STATUS i) 0
    { t with net := { t.net with tx := Assoc.put i { next := s.txsFirstPacket i } t.net.tx } }

/-- Clearing TXS CTRL.ENABLE. -/
def txsDisable (s : State) (i : Nat) : State :=
  let t := (s.clrBit (Reg.TXS_CTRL i) 0).clrBit (Reg.TXS_STATUS i) 0
  { t with net := { t.net with tx := Assoc.del i t.net.tx } }

/-- A write of TXS[i].CTRL (R353, R375). -/
def txsCtrlWrite (s : State) (i : Nat) (v : Word) : State :=
  let s := if bitAt v 31 then s.resetRegs [Reg.TXS_PACKETS i, Reg.TXS_LATE_DEPART i] else s
  let was := s.txsEnabled i
  let s := s.wr (Reg.TXS_CTRL i) ((v &&& 0x007F001E) ||| (if was then 1 else 0))
  if bitAt v 0 && !was then s.txsEnable i else if !bitAt v 0 && was then s.txsDisable i else s

/-- A transmit channel's sample at OXP tick `u`; a channel that nothing writes carries zero (R361). -/
def txSample (s : State) (mon : Bool) (ch u : Nat) : Int :=
  let ring := if mon then s.net.monRing else s.net.sendRing
  match ring.lookup u with | some l => (l.lookup ch).getD 0 | none => 0

/-- The sample of channel `ch` stamped with tick `t`, decimated at 48 kHz (R362, R363). -/
def txStamped (s : State) (i ch t : Nat) : Int :=
  let mon := s.bitOf (Reg.TXS_CTRL i) 1
  if s.txsRate i = 0 then Config.txDecimate ((List.range 65).map fun j => s.txSample mon ch (t + j - 40))
  else s.txSample mon ch (t - 8)

/-- The payload of packet `k`. -/
def txPayload (s : State) (i k : Nat) : List Byte :=
  let step := if s.txsRate i = 0 then 2 else 1
  ((List.range (s.txsFrames i)).map fun f =>
    ((List.range (s.txsChannels i)).map fun c =>
      encodeSample (s.txsEncoding i) (s.txStamped i (s.txsFirst i + c) (k * s.txsTicks i + f * step))).flatten).flatten

/-- The last OXP tick whose sample the packet needs has been computed. -/
def txReady (s : State) (i k : Nat) : Bool :=
  let last := (k + 1) * s.txsTicks i - 1 - 8 + (if s.txsRate i = 0 then 32 else 0)
  match s.net.sendRing.head? with | some e => decide (last ≤ e.1) | none => false

/-- The datagram of packet `k`, with its RTP numbers (R362). -/
def txDatagram (s : State) (i k : Nat) : Datagram :=
  let hdr := beBytes 1 0x80 ++ beBytes 1 (s.rf (Reg.TXS_CTRL i) 22 16) ++
    beBytes 2 ((k + s.rf (Reg.TXS_SEQ_OFFSET i) 15 0) % 65536) ++
    beBytes 4 ((k * s.txsFrames i + (s.rd (Reg.TXS_TS_OFFSET i)).toNat) % 2 ^ 32) ++ beBytes 4 (s.rd (Reg.TXS_SSRC i)).toNat
  let dst := s.addrWords (Reg.TXS_ADDR i 0)
  let dport := s.rf (Reg.TXS_UDP_PORT i) 15 0
  let sport := if s.rf (Reg.TXS_UDP_PORT i) 31 16 = 0 then dport else s.rf (Reg.TXS_UDP_PORT i) 31 16
  let n := if s.txsPort i = 1 then 1 else 0
  ⟨if dst / 2 ^ 32 = 0xFFFF then s.ip4Of n else s.ip6Of n, dst, sport, dport, hdr ++ s.txPayload i k⟩

/-- The packet a transmit stream sends next, if its samples are complete. -/
def txDue (s : State) (i : Nat) : Option Nat :=
  match Assoc.get? i s.net.tx with
  | some t => if s.txsEnabled i && s.txReady i t.next then some t.next else none
  | none => none

/-- Packet k's first sample is of audio block `b` or later. -/
def txFirstIn (s : State) (i k b : Nat) : Bool := decide (32 * b + 72 ≤ k * s.txsTicks i)

/-- The next packet of a stream leaves, or is withheld by a Hedge unit (R420). The configuration of a replaced version ends
with its last packet before the block of the new one (R307). -/
def txSendNext (s : State) (i k : Nat) : State :=
  let t : TxStream := (Assoc.get? i s.net.tx).getD {}
  let ended := match t.stop with | some b => s.txFirstIn i (k + 1) b | none => false
  let tx := if ended then Assoc.del i s.net.tx else Assoc.put i { t with next := k + 1 } s.net.tx
  let s' : State := { s with net := { s.net with tx := tx } }
  if s.packetWithheld (((k + 1) * s.txsTicks i - 1 - 72) / 32) then s'.count Reg.HEDGE_WITHHELD
  else
    let q := s.rd (Reg.TXS_QOS i)
    let tag := if s.bitOf (Reg.TXS_CTRL i) 2 then some (fld q 11 0, fld q 14 12) else none
    let late := ((k + 1) * s.txsTicks i - 1) * 32768 + 62914 + (if s.txsRate i = 0 then 32 * 32768 else 0)
    let f : TxFrame := { datagram := s.txDatagram i k, dscp := fld q 21 16, tag := tag, stream := some (i % 0x100000), lateAfter := late }
    let ports := match s.txsPort i with | 0 => [0] | 1 => [1] | _ => [0, 1]
    (s'.count (Reg.TXS_PACKETS (i % 0x100000))).sendFrame ports f

/-- TX_PACKET_SEND (R362): the next packet of stream `i` is built and queued; what a replaced version still sends goes first. With
the root PLL unlocked no stream sends (R514). -/
def txPacketSend (s : State) (i : Nat) : State :=
  if s.rootUnlocked then s
  else match s.txDue (oldStream i) with
    | some k => s.txSendNext (oldStream i) k
    | none => match s.txDue i with
      | some k => s.txSendNext i k
      | none => s

/-! ### Commits: R61, R303, R307, R353 -/

/-- Copy the registers of a stream block past BAR0, or drop such a copy. -/
def moveStreamRegs (s : State) (base i : Nat) : State :=
  s.over ((s.regs.filter fun e => decide (base + 0x100 * i ≤ e.1) && decide (e.1 < base + 0x100 * (i + 1))).map (·.1)) fun t o =>
    t.wr (o + 0x100 * 0x100000) (s.rd o)
def dropStreamRegs (s : State) (base i : Nat) : State :=
  let lo := base + 0x100 * oldStream i
  { s with regs := s.regs.filter fun e => !(decide (lo ≤ e.1) && decide (e.1 < lo + 0x100)) }

/-- The receive stream of a leaving version goes on beside its successor, and its block is free (R303). -/
def leaveRx (s : State) (i : Nat) : State :=
  if s.rxsEnabled i then
    let s := (s.moveStreamRegs 0x190000 i).setRxs (oldStream i) (s.rxs i)
    let s : State := { s with net := { s.net with rx := Assoc.del i s.net.rx } }
    (s.clrBit (Reg.RXS_CTRL i) 0).wr (Reg.RXS_STATUS i) 0
  else s

/-- The receive stream of a version that has left ends. -/
def endRx (s : State) (i : Nat) : State :=
  { s.dropStreamRegs 0x190000 i with net := { s.net with rx := Assoc.del (oldStream i) s.net.rx } }

/-- A transmit stream that a new version redefines keeps its configuration for the audio before block `b` (R307). -/
def leaveTx (s : State) (i b : Nat) : State :=
  match Assoc.get? i s.net.tx with
  | none => s
  | some t =>
    let s := (s.dropStreamRegs 0x198000 i).moveStreamRegs 0x198000 i
    let tx := if s.txFirstIn i t.next b then s.net.tx else Assoc.put (oldStream i) { t with stop := some b } s.net.tx
    let s : State := { s with net := { s.net with tx := Assoc.del i tx } }
    (s.clrBit (Reg.TXS_CTRL i) 0).clrBit (Reg.TXS_STATUS i) 0

/-- The registers that a STREAM_CONFIG entry writes at step 2 of R61 (R52, R353). -/
def streamWords (e : StreamCfg) : List (Nat × Word) :=
  let base := if e.transmit then 0x198000 + 0x100 * e.stream else 0x190000 + 0x100 * e.stream
  let fmt := BitVec.ofNat 32 (e.channels + e.encoding * 2 ^ 8 + e.ptime * 2 ^ 10 + e.rate * 2 ^ 12 + e.firstCh * 2 ^ 16)
  [(base + 8, fmt)] ++ (if e.transmit then [] else [(base + 0xC, BitVec.ofNat 32 e.linkOffset)]) ++
    (List.range 4).map (fun k => (base + 0x10 + 4 * k, BitVec.ofNat 32 (e.address / 2 ^ (32 * (3 - k)))))

/-- A STREAM_CONFIG entry at step 2 of R61: software's own use of the block ends, and the fields of the record are written; the
other fields keep their values. -/
def writeStream (s : State) (e : StreamCfg) (b : Nat) : State :=
  let i := e.stream
  let udp := if e.transmit then Reg.TXS_UDP_PORT i else Reg.RXS_UDP_PORT i
  let same := !e.transmit && s.rxsEnabled i && (streamWords e).all (fun w => s.rd w.1 == w.2) && s.rf udp 15 0 == e.port
  let known (t : State) : State :=
    if e.transmit || t.net.configured.contains i then t else { t with net := { t.net with configured := i :: t.net.configured } }
  if same then known (s.releaseFrames (.rxStream i))
  else
    let s := if e.transmit then s.leaveTx i b else if s.rxsEnabled i then
        ({ (s.clrBit (Reg.RXS_CTRL i) 0).wr (Reg.RXS_STATUS i) 0 with net := { s.net with rx := Assoc.del i s.net.rx } }).releaseFrames (.rxStream i) else s
    let s := (s.over (streamWords e) fun t w => t.wr w.1 w.2).wf udp 15 0 e.port
    known s

/-- ENABLE of a stream at step 11 of R61. -/
def enableStream (s : State) (e : StreamCfg) (b : Nat) : State :=
  if e.transmit then
    let t := s.txsEnable e.stream
    match Assoc.get? e.stream t.net.tx with
    | some x =>
      let first := (32 * b + 72 + t.txsTicks e.stream - 1) / max (t.txsTicks e.stream) 1
      { t with net := { t.net with tx := Assoc.put e.stream { x with next := max x.next first } t.net.tx } }
    | none => t
  else s.rxsEnable e.stream

/-- After local time moved: receive streams discard their buffers and place packets on the new time, transmit streams
gate lists follow it (R360, R545), and link timing starts again. -/
def receiveRealign (s : State) : State :=
  let rx := s.net.rx.map fun (e : Nat × RxStream) => (e.1, { e.2 with buffer := [], next := none })
  let s := { s with net := { s.net with rx := rx } }
  let s := { s with net := { s.net with tx := s.net.tx.map fun (e : Nat × TxStream) => (e.1, { e.2 with next := s.txsFirstPacket e.1 }) } }
  let ports := s.cas.ports.map fun (p : CasPort) => { p with arrived := [], departed := [], farLeft := [] }
  let s : State := { s with cas := { s.cas with ports := ports } }
  s.gclRealign

end State

end Sys2Proof.Machine
end

