-- ==== Sys2Proof/Machine/TimeActions.lean ====
section
/-! DEFINITION. Time actions and capture inputs: arming and its refusals (R332), occurrences (R333), coinciding
firings and pulses (R334), late policy (R335), steps (R336), Hedge gating (R337), captures and cues (R338, R339). -/

namespace Sys2Proof.Machine

/-- 2^-16 ns in one second. -/
def unitsPerSecond : Nat := 1000000000 * 65536

/-- The root count nearest an instant in 2^-16 ns (R333). -/
def countsOfUnits (u : Int) : Int := divEven (u * 3) 62500

namespace State

def taKind (s : State) (n : Nat) : Nat := s.rf (Reg.TA_CTRL n) 3 1
def taOutput (s : State) (n : Nat) : Nat := s.rf (Reg.TA_CTRL n) 11 8
def taArmed (s : State) (n : Nat) : Bool := s.bitOf (Reg.TA_STATUS n) 0
def taRepeat (s : State) (n : Nat) : Nat := (s.rd (Reg.TA_REPEAT n)).toNat
def taPayOffset (s : State) (n : Nat) : Nat := s.rf (Reg.TA_PAYLOAD n) 14 0
def taPayLength (s : State) (n : Nat) : Nat := s.rf (Reg.TA_PAYLOAD n) 26 16

/-- T of an action in 2^-16 ns. -/
def taTime (s : State) (n : Nat) : Nat :=
  s.rd64 (Reg.TA_TIME_S_LO n) * unitsPerSecond + (s.rd (Reg.TA_TIME_NS n)).toNat * 65536 + s.rf (Reg.TA_TIME_FRAC n) 15 0

/-- P of a periodic action in 2^-16 ns (R333). -/
def taPeriod (s : State) (n : Nat) : Nat := (s.rd (Reg.TA_PERIOD_NS n)).toNat * 65536 + s.rf (Reg.TA_PERIOD_FRAC n) 15 0

/-- The instant of occurrence `k`. -/
def taInstant (s : State) (n k : Nat) : Nat := if s.taKind n = 1 then s.taTime n + k * s.taPeriod n else s.taTime n

/-- How many occurrences an action has; none when unbounded. -/
def taTotal (s : State) (n : Nat) : Option Nat :=
  if s.taKind n = 1 then (if s.taRepeat n = 0 then none else some (s.taRepeat n)) else some 1

/-- Byte `a` of the TIME payload memory. -/
def payloadByte (s : State) (a : Nat) : Nat := natField (s.rd (0x38000 + a / 4 * 4)).toNat (8 * (a % 4) + 7) (8 * (a % 4))
def payloadBytes (s : State) (a n : Nat) : List Nat := (List.range n).map fun i => s.payloadByte (a + i)

/-- The conditions of R332 that refuse an ARM, other than an ARM written with a DISARM. -/
def armRefused (s : State) (n : Nat) : Bool :=
  let kind := s.taKind n
  let off := s.taPayOffset n
  let len := s.taPayLength n
  !s.bitOf (Reg.TA_CTRL n) 0 || s.taArmed n || decide (5 ≤ kind) ||
  (kind == 1 && (decide (s.taPeriod n < 100 * 65536) || decide (s.taPeriod n ≤ (s.rd (Reg.TA_WIDTH n)).toNat * 65536))) ||
  ((kind == 2 || kind == 3) && (decide (1 < s.taOutput n) || decide (len < 20))) ||
  (kind == 2 && (s.payloadBytes off 16).all (· == 0) && decide (len < 135)) ||
  decide (32768 < off + len)

/-- REMAIN: occurrences left (R341). -/
def setRemain (s : State) (n next : Nat) : State :=
  match s.taTotal n with
  | none => s.wr (Reg.TA_REMAIN n) 0xFFFFFFFF
  | some t => s.wr (Reg.TA_REMAIN n) (BitVec.ofNat 32 (t - next))

/-- The packet of a KIND 2 or KIND 3 occurrence leaves network port OUTPUT (R333, R364). FIRED already counts it. -/
def sendActionPacket (s : State) (n : Nat) : State :=
  let off := s.taPayOffset n
  let area := s.payloadBytes off (s.taPayLength n)
  let udp := area.drop 20
  let zero := (area.take 16).all (· == 0)
  let dst := if s.taKind n = 2 ∧ zero then
      [0, 0, 0, 0, 0, 0, 0, 0, 0, 0, 0xFF, 0xFF, 239, 255, udp.getD 113 0, udp.getD 114 0] else area.take 16
  let port := area.getD 16 0 * 256 + area.getD 17 0
  let port := if s.taKind n = 2 ∧ port = 0 then 5568 else port
  let udp := if s.taKind n = 2 ∧ 112 ≤ udp.length then udp.set 111 (s.rf (Reg.TA_FIRED n) 7 0) else udp
  s.sendControl (s.taOutput n) dst port port udp

/-- Occurrence `k` of action `n` fires (R333). Without Hedge control authority pulses and packets are withheld and
GATED reports it; cue entries and doorbells are not gated (R337). -/
def fireOccurrence (s : State) (n k : Nat) (late : Bool) : State :=
  let kind := s.taKind n
  let s := s.count (Reg.TA_FIRED n)
  let gated := s.actionsGated && kind != 4
  let s := s.putBit (Reg.TA_STATUS n) 5 gated
  if gated then s
  else if kind = 0 ∨ kind = 1 then
    let start := if late then s.now else (countsOfUnits (s.taInstant n k)).toNat
    let stop := (countsOfUnits ((divEven ((start : Int) * 62500) 3) + (s.rd (Reg.TA_WIDTH n)).toNat * 65536)).toNat
    { s with time := { s.time with pulses := s.time.pulses ++ [Pulse.mk (s.taOutput n) n stop] } }.emit (.pulse (s.taOutput n) start stop)
  else if kind = 2 ∨ kind = 3 then s.sendActionPacket n
  else
    let s := if s.time.cues.length < 64 then
        { s with time := { s.time with cues := s.time.cues ++ [CueEntry.mk n late (s.rf (Reg.TA_FIRED n) 14 0)] } }
      else s.count Reg.TIME_CUE_OVERFLOWS
    s.event (224 + s.rf (Reg.TA_CTRL n) 20 16)

/-- After the last occurrence ARMED clears and DONE is set (R333). -/
def finishAction (s : State) (n : Nat) : State :=
  let s := (s.clrBit (Reg.TA_STATUS n) 0).setBit (Reg.TA_STATUS n) 1
  { s with time := { s.time with armed := Assoc.del n s.time.armed } }

/-- Move an armed action to its next occurrence, or finish it. -/
def advanceAction (s : State) (n next : Nat) : State :=
  let s := s.setRemain n next
  match s.taTotal n with
  | some t => if t ≤ next then s.finishAction n else
      { s with time := { s.time with armed := Assoc.put n { ((Assoc.get? n s.time.armed).getD {}) with next := next } s.time.armed } }
  | none => { s with time := { s.time with armed := Assoc.put n { ((Assoc.get? n s.time.armed).getD {}) with next := next } s.time.armed } }

/-- Occurrences of action `n` from `k` on whose instant lies before `limit`. -/
def pastOccurrences (s : State) (n k limit : Nat) : Nat :=
  let all :=
    if s.taKind n = 1 then
      (if limit ≤ s.taTime n then 0 else (limit - 1 - s.taTime n) / max (s.taPeriod n) 1 + 1)
    else (if s.taTime n < limit then 1 else 0)
  let all := match s.taTotal n with | some t => min all t | none => all
  all - k

/-- R335: what happens to the occurrences of an armed action from `k` on that lie before `limit`. -/
def applyLatePolicy (s : State) (n k limit : Nat) : State :=
  let past := s.pastOccurrences n k limit
  let lateFire := s.bitOf (Reg.TA_CTRL n) 4
  if past = 0 then s.advanceAction n k
  else if s.taKind n = 1 then
    let skipped := if lateFire then past - 1 else past
    let s := s.countBy (Reg.TA_SKIPPED n) skipped
    let s := if lateFire then ((s.setBit (Reg.TA_STATUS n) 3).event 13).fireOccurrence n (k + past - 1) true
      else (s.setBit (Reg.TA_STATUS n) 2).event 12
    s.advanceAction n (k + past)
  else if lateFire then
    (((s.setBit (Reg.TA_STATUS n) 3).event 13).fireOccurrence n 0 true).advanceAction n 1
  else
    -- Discarded and not armed: neither DONE nor an occurrence.
    let s := ((s.clrBit (Reg.TA_STATUS n) 0).setBit (Reg.TA_STATUS n) 2).event 12
    { s with time := { s.time with armed := Assoc.del n s.time.armed } }

/-- R332: arm action `n`, by command or by the record of a region; refused with IGNORED. -/
def armAction (s : State) (n : Nat) (region : Option Nat) : State :=
  if s.armRefused n then s.setBit (Reg.TA_STATUS n) 4
  else
    let s := (s.setBit (Reg.TA_STATUS n) 0).clrBit (Reg.TA_STATUS n) 1
    let s := { s with time := { s.time with armed := Assoc.put n ⟨0, region⟩ s.time.armed } }
    s.applyLatePolicy n 0 (s.nowUnits + 2000 * 65536)

/-- DISARM clears ARMED and prevents every later occurrence, without MISSED (R334). -/
def disarmAction (s : State) (n : Nat) : State :=
  if s.taArmed n then
    { s.clrBit (Reg.TA_STATUS n) 0 with time := { s.time with armed := Assoc.del n s.time.armed } }
  else s

/-- A write of TA[n].CMD (R332, R341): an ARM written with a DISARM is refused, and the DISARM acts. -/
def taCommand (s : State) (n : Nat) (v : Word) : State :=
  let s := if bitAt v 0 then (if bitAt v 1 then s.setBit (Reg.TA_STATUS n) 4 else s.armAction n none) else s
  let s := if bitAt v 1 then s.disarmAction n else s
  if bitAt v 2 then s.resetRegs [Reg.TA_FIRED n, Reg.TA_SKIPPED n] else s

/-- The next occurrence of an armed action, if local time reaches its instant before the next sample tick. -/
def occurrenceDue (s : State) (n : Nat) : Option Nat :=
  match Assoc.get? n s.time.armed with
  | some a =>
    if s.taArmed n && decide ((countsOfUnits (s.taInstant n a.next)).toNat < (s.tick + 1) * 32768) then some a.next else none
  | none => none

/-- TA_FIRE (R333): local time reaches the next occurrence of action `n`. -/
def fireAction (s : State) (n : Nat) : State :=
  match s.occurrenceDue n with
  | some k =>
    let s := s.passTo (countsOfUnits (s.taInstant n k)).toNat
    (s.fireOccurrence n k false).advanceAction n (k + 1)
  | none => s

/-- PULSE_END (R333): the oldest pulse on output `o` that ends before the next sample tick deasserts. -/
def endPulse (s : State) (o : Nat) : State :=
  match s.time.pulses.find? fun p => p.output == o && decide (p.ends < (s.tick + 1) * 32768) with
  | some p => { s with time := { s.time with pulses := s.time.pulses.erase p } }.passTo p.ends
  | none => s

/-- The level of time-pulse output `o`, and what its pin shows: none for high impedance (R334). -/
def pulseLevel (s : State) (o : Nat) : Bool := s.time.pulses.any fun p => p.output == o
def pulsePin (s : State) (o : Nat) : Option Bool :=
  if s.bitOf (Reg.TIME_OUT_CFG o) 1 then some (s.pulseLevel o != s.bitOf (Reg.TIME_OUT_CFG o) 0) else none

/-- R336: after local time moved forward, occurrences between the old and the new time are handled under R335; after
a backward move no occurrence fires twice, because the next occurrence stays the one after the last that fired. -/
def actionsAfterMove (s : State) (oldNow : Nat) : State :=
  if oldNow < s.now then
    s.over (s.time.armed.map fun e => (e.1, e.2.next)) fun t e => t.applyLatePolicy e.1 e.2 t.nowUnits
  else s

/-- Cancel the actions of a region, or an action, without MISSED (R59, R307, R311). -/
def cancelActionsOf (s : State) (p : Nat → ArmedAction → Bool) : State :=
  s.over (s.time.armed.filter fun e => p e.1 e.2) fun t e => t.disarmAction e.1

/-! ### Captures and cues -/

/-- Configuration of capture input `c` (R340). -/
def capCfg (c : Nat) : Nat := 0x30080 + 0x20 * c

/-- An edge on capture input `c` at local time `at` (R338): of two selected edges less than 20 ns apart only the
first is timestamped (R540). -/
def captureEdge (s : State) (c counts : Nat) (falling : Bool) : State :=
  let edges := s.rf (capCfg c) 2 1
  let selected := s.bitOf (capCfg c) 0 && (edges == 2 || (edges == 1) == falling)
  let fifo := (s.time.captures[c]?).getD []
  let tooClose := match Assoc.get? c s.time.lastEdges with
    | some l => decide (l ≤ counts) && decide ((counts - l) * 15625 < 20 * 49152)
    | none => false
  if decide (c < 4) && selected && !tooClose then
    let s := { s with time := { s.time with lastEdges := Assoc.put c counts s.time.lastEdges } }
    if fifo.length < 16 then
      { s with time := { s.time with captures := s.time.captures.set c (fifo ++ [CaptureStamp.mk counts falling]) } }.event
        (224 + s.rf (capCfg c) 7 3)
    else s.count (capCfg c + 0x18)
  else s

/-- A time in 2^-16 ns as seconds, nanoseconds and fraction. -/
def splitUnits (u : Nat) : Nat × Nat × Nat :=
  (u / unitsPerSecond, u % unitsPerSecond / 65536, u % 65536)

/-- A read of CAP[c].TS_S_LO pops the oldest timestamp and latches its other fields; with the FIFO empty it reads 0
and pops nothing (R338). -/
def capturePop (s : State) (c : Nat) : State :=
  match (s.time.captures[c]?).getD [] with
  | [] => { s with readData := 0 }
  | e :: r =>
    let t := splitUnits (divEven (e.counts * 62500 : Nat) 3).toNat
    { s with readData := BitVec.ofNat 32 t.1,
             time := { s.time with captures := s.time.captures.set c r, captured := s.time.captured.set c e } }

/-- A read of TIME.CUE pops the oldest cue entry; VALID is 0 when empty (R339). -/
def cuePop (s : State) : State :=
  match s.time.cues with
  | [] => { s with readData := 0 }
  | e :: r =>
    { s with readData := BitVec.ofNat 32 (e.ta + b2n e.late * 256 + e.occurrence * 65536 + 2 ^ 31),
             time := { s.time with cues := r } }

end State

end Sys2Proof.Machine
end

