-- ==== Sys2Proof/Machine/Time.lean ====
section
/-! DEFINITION. The time base: servo states (R326), offsets, the jump rule and settings of the time of day (R327,
R328, R545), steps (R329), slews (R330) and REF_IN (R325, R331). Offsets are held in 2^-16 ns. -/

namespace Sys2Proof.Machine

namespace State

def timeSource (s : State) : Nat := s.rf Reg.TIME_CTRL 1 0
def timeState (s : State) : Nat := s.rf Reg.TIME_STATUS 2 0
def jumpPending (s : State) : Bool := s.bitOf Reg.TIME_STATUS 3
def todValid (s : State) : Bool := s.bitOf Reg.TIME_STATUS 4
/-- Thresholds in 2^-16 ns. -/
def lockThresh (s : State) : Int := s.rf Reg.TIME_SERVO_CFG 15 8 * 10 * 65536
def jumpLimit (s : State) : Int := s.rf Reg.TIME_JUMP_LIMIT 23 0 * 65536

/-- The steering value, limited to ±200 ppm (R325). -/
def setSteer (s : State) (x : Int) : State := s.wr Reg.TIME_STEER (wordOfInt (clampInt (-200000) 200000 x))

/-- A change of STATE with its event: 10 on entry to HOLDOVER, 11 on exit from it, 8 otherwise (R326). -/
def setTimeState (s : State) (n : Nat) : State :=
  let old := s.timeState
  let s' := { s.wf Reg.TIME_STATUS 2 0 n with time := { s.time with settle := 0, exceed := 0 } }
  if old = n then s
  else if n = 3 then (s'.count Reg.TIME_HOLDOVERS).event 10
  else if old = 3 then s'.event 11
  else s'.event 8

/-- HOLDOVER freezes the steering at the servo's integral term at entry (R326). -/
def enterHoldover (s : State) : State :=
  if s.timeState = 3 then s else (s.setSteer (divEven s.time.integral 65536)).setTimeState 3

/-- FREERUN: the steering value is 0 (R326). -/
def enterFreerun (s : State) : State := (s.setSteer 0).setTimeState 6

/-- Clear JUMP_PENDING and the refused offset. -/
def clearJump (s : State) : State := (s.clrBit Reg.TIME_STATUS 3).wr64 Reg.TIME_STEP_LO 0

/-- R327: an offset above JUMP_LIMIT is refused. -/
def refuseJump (s : State) (u : Int) : State :=
  let first := !s.jumpPending
  let s := s.enterHoldover
  let s := (s.setBit Reg.TIME_STATUS 3).wr64 Reg.TIME_STEP_LO ((divEven u 65536) % 2 ^ 64).toNat
  let s := s.count Reg.TIME_JUMPS_REFUSED
  if first then s.event 9 else s

/-- One pass of the proportional-integral loop. The manual gives its bandwidth and not its gains: both results are
free functions. -/
def servo (s : State) (u : Int) : State :=
  let bw := s.rf Reg.TIME_SERVO_CFG 1 0
  { s with time := { s.time with integral := Config.servoIntegral bw s.time.integral u } }.setSteer
    (Config.servoSteer bw s.time.integral u)

/-- The offset a slew predicts now: it falls at 200 ppm of elapsed time, towards zero (R330). -/
def slewPredicted (s : State) (w : Slew) : Int :=
  let gone : Int := divEven ((s.now - w.start : Nat) * 62500 * 200) 3000000
  if 0 ≤ w.offset then max 0 (w.offset - gone) else min 0 (w.offset + gone)

/-- Start removing offset `u` at 200 ppm (R330): a device that is ahead slows down. -/
def startSlew (s : State) (u : Int) (afterSetTod : Bool) : State :=
  ({ s with time := { s.time with slew := some ⟨s.now, u, afterSetTod⟩ } }.setSteer (if 0 ≤ u then -200000 else 200000)).setTimeState 4

/-- Local time set directly, with no Pattern active (R327, R545): the block counter follows at once, and the setting
produces no block boundary of its own. -/
def setLocalTime (s : State) (counts : Nat) : State :=
  let old := s.now
  let s := { s with now := counts,
                    ticked := { s.ticked with block := true, cutoff := true, fgCutoff := true, micro := true, outMicro := true } }
  (s.actionsAfterMove old).receiveRealign

/-- Whole samples and remainder of a correction in 2^-16 ns (R329). -/
def splitStep (u : Int) : Int × Int :=
  let m := divEven (u * 3) (31250 * 65536)
  (m, u - divEven (m * 31250 * 65536) 3)

/-- Schedule a step of local time by `u` at block `e` (R329). -/
def planStep (s : State) (u : Int) (e : Nat) (tod acquire : Bool) : State :=
  let p := splitStep u
  { s with time := { s.time with step := some { atBlock := e, samples := p.1, remainder := p.2, setTod := tod, acquire := acquire } } }.setTimeState 5

/-- The first time of day from a source (R327): a step when a Pattern is active, a direct setting otherwise. `src` is
the source's time now, in 2^-16 ns. -/
def acquireTod (s : State) (src : Nat) : State :=
  if s.patternActive then s.planStep ((src : Int) - s.nowUnits) (s.block + 2) false true
  else ((s.setLocalTime (countsOfUnits src).toNat).setBit Reg.TIME_STATUS 4).setTimeState 1

/-- One measured offset of the selected source (R326, R327). -/
def measureOffset (s : State) (u : Int) : State :=
  let within := decide (-s.jumpLimit ≤ u) && decide (u ≤ s.jumpLimit)
  let locked := decide (-s.lockThresh ≤ u) && decide (u ≤ s.lockThresh)
  match s.timeState with
  | 0 => s
  | 5 => s
  | 4 =>
    match s.time.slew with
    | some w =>
      let err := u - s.slewPredicted w
      if decide (s.jumpLimit < err) || decide (err < -s.jumpLimit) then
        { s with time := { s.time with slew := none } }.refuseJump u
      else if locked && !w.afterSetTod then
        { s with time := { s.time with slew := none } }.setTimeState 1
      else s
    | none => s
  | 3 => if within then ((s.clearJump).servo u).setTimeState 1 else s.refuseJump u
  | 6 => if within then (s.servo u).setTimeState 1 else s.refuseJump u
  | 1 =>
    if within then
      let s := s.servo u
      let k := if locked then s.time.settle + 1 else 0
      if k = 16 then s.setTimeState 2 else { s with time := { s.time with settle := k } }
    else s.refuseJump u
  | _ =>
    if within then
      let s := s.servo u
      let k := if locked then 0 else s.time.exceed + 1
      if k = 16 then s.setTimeState 1 else { s with time := { s.time with exceed := k } }
    else s.refuseJump u

/-- Report an offset in TIME.OFFSET: s32 ns, saturating (R339). -/
def reportOffset (s : State) (u : Int) : State := s.wr Reg.TIME_OFFSET (satWord (divEven u 65536))

/-- The device takes its time from the up port of its cascade (R405): a member that is not the acting master, with
SOURCE = 0 and CAS.CTRL.TIME_FROM_LINK = 1. -/
def linkTimed (s : State) : Bool :=
  decide (s.rf Reg.CAS_ROLE 29 26 ≠ 0) && decide (s.timeSource = 0) && s.bitOf Reg.CAS_CTRL 0 && !s.bitOf Reg.CAS_STATE 22

/-- A Sync at root count `counts` on the port in the SLAVE role, whose corrected origin time is `src` (R325). -/
def ptpSync (s : State) (port counts src : Nat) : State :=
  if s.bitOf Reg.TIME_CTRL 2 && s.time.ptp.portState.getD port 0 == 9 && !s.linkTimed then
    let u : Int := divEven (counts * 62500 : Nat) 3 - src
    if s.timeSource = 2 then s
    else if s.timeState = 5 then s.reportOffset u
    else if !s.todValid then (s.reportOffset u).acquireTod ((src : Int) + (s.nowUnits - divEven (counts * 62500 : Nat) 3)).toNat
    else if s.timeSource = 0 then (s.reportOffset u).measureOffset u
    else s.reportOffset u
  else s

/-- An Announce the firmware has processed (R324, R326): the grandmaster data, and UTC_OFFSET while SOURCE = 0. -/
def ptpAnnounce (s : State) (gm : BitVec 64) (priorities steps : Nat) (utc : Int) : State :=
  let changed := s.rd64 Reg.TIME_GM_ID_LO != gm.toNat
  let s := { s with time := { s.time with ptp := { s.time.ptp with priorities := priorities, stepsRemoved := steps, gmKnown := true } } }
  let s := s.wr64 Reg.TIME_GM_ID_LO gm.toNat
  let s := if changed then (s.count Reg.TIME_GM_CHANGES).event 14 else s
  if s.timeSource = 0 then s.wr Reg.TIME_UTC_OFFSET (BitVec.ofNat 32 ((utc % 65536).toNat + 65536)) else s

/-- A lost PTP source enters HOLDOVER (R326). -/
def sourceLost (s : State) : State :=
  if s.timeSource = 0 ∧ (s.timeState = 1 ∨ s.timeState = 2 ∨ s.timeState = 4) then s.enterHoldover else s

/-- The state of a PTP port changes (event 8, R326). No port left in the SLAVE role loses the source. -/
def ptpPortState (s : State) (port st : Nat) : State :=
  if s.time.ptp.portState.getD port 0 = st ∨ 2 ≤ port then s
  else
    let hadSlave := s.time.ptp.portState.any (· == 9)
    let s := { s with time := { s.time with ptp := { s.time.ptp with portState := s.time.ptp.portState.set port st } } }.event 8
    if hadSlave && !s.time.ptp.portState.any (· == 9) && !s.linkTimed then s.sourceLost else s

/-- PTP_MESSAGE (R324, R325). -/
def ptpMessage (s : State) (port counts : Nat) (m : PtpMsg) : State :=
  match m with
  | .sync src => s.ptpSync port counts src
  | .announce gm priorities steps utc => s.ptpAnnounce gm priorities steps utc
  | .portState st => s.ptpPortState port st
  | .pathDelay ns => { s with time := { s.time with ptp := { s.time.ptp with pathDelay := s.time.ptp.pathDelay.set port ns } } }

/-- PTP_SOURCE_LOSS: no Sync for three announced intervals (R326). -/
def ptpLoss (s : State) : State :=
  if s.timeSource = 0 ∧ !s.linkTimed ∧ s.time.ptp.portState.any (· == 9) ∧ (s.timeState = 1 ∨ s.timeState = 2 ∨ s.timeState = 4) then
    s.enterHoldover
  else s

/-! ### TIME commands -/

def timeRefused (s : State) : State := s.setBit Reg.TIME_STATUS 9
def timeAccepted (s : State) : State := s.clrBit Reg.TIME_STATUS 9

/-- Block E of STEP_BLOCK: 0 selects the second block boundary after acceptance, and otherwise the rule of R69 (R328). -/
def stepBlock (s : State) : Option Nat :=
  let v := s.rd64 Reg.TIME_STEP_BLOCK_LO
  if v = 0 then some (s.block + 2) else if v < s.block + 2 then none else some v

/-- The latest refused offset, s64 ns. -/
def refusedOffset (s : State) : Int := signExt 64 (s.rd64 Reg.TIME_STEP_LO) * 65536

/-- STEP_ACCEPT (R328, R329). -/
def stepAccept (s : State) : State :=
  match s.jumpPending, s.stepBlock with
  | true, some e => (s.timeAccepted.planStep (-s.refusedOffset) e false false).clrBit Reg.TIME_STATUS 3
  | _, _ => s.timeRefused

/-- SLEW (R328, R330). -/
def slewCommand (s : State) : State :=
  if s.jumpPending then ((s.timeAccepted).startSlew s.refusedOffset false).clrBit Reg.TIME_STATUS 3 else s.timeRefused

/-- The time of day of SET_S and SET_NS, in 2^-16 ns. -/
def setTodUnits (s : State) : Nat := s.rd64 Reg.TIME_SET_S_LO * unitsPerSecond + (s.rd Reg.TIME_SET_NS).toNat * 65536

/-- SET_TOD (R327): accepted only while SOURCE = 2 or TOD_VALID = 0; through a step while a Pattern is active. -/
def setTod (s : State) : State :=
  if s.timeSource = 2 ∨ !s.todValid then
    if s.patternActive then
      match s.stepBlock with
      | some e => s.timeAccepted.planStep ((s.setTodUnits : Int) - s.nowUnits) e true false
      | none => s.timeRefused
    else (((s.timeAccepted).setLocalTime (countsOfUnits s.setTodUnits).toNat).setBit Reg.TIME_STATUS 4).enterFreerun
  else s.timeRefused

def timeCounters : List Nat :=
  [Reg.TIME_REF_GLITCHES, Reg.TIME_REF_LOSSES, Reg.TIME_JUMPS_REFUSED, Reg.TIME_HOLDOVERS, Reg.TIME_GM_CHANGES,
   Reg.TIME_CUE_OVERFLOWS] ++ (List.range 4).map (fun c => capCfg c + 0x18)

/-- CLEAR_COUNTS of the TIME block (R339). -/
def timeClearCounts (s : State) : State := s.timeAccepted.resetRegs timeCounters

/-- A command the present state does not accept, or a reserved OP (R328). OP 0 is no command. -/
def timeOpRefused (s : State) (op : Nat) : Bool :=
  match op with
  | 0 => false
  | 1 => !s.jumpPending || s.stepBlock.isNone
  | 2 => !s.jumpPending
  | 3 => !(decide (s.timeSource = 2) || !s.todValid) || (s.patternActive && s.stepBlock.isNone)
  | 4 => false
  | _ => true

/-- A write of TIME.CMD. -/
def timeCommand (s : State) (v : Word) : State :=
  match fld v 2 0 with
  | 0 => s
  | 1 => s.stepAccept
  | 2 => s.slewCommand
  | 3 => s.setTod
  | 4 => s.timeClearCounts
  | _ => s.timeRefused

/-- A write of TIME.CTRL (R323): SOURCE 3 leaves the field unchanged; SOURCE written to 2 ends steering, in FREERUN
with a time of day and in FREE without (R326). -/
def timeCtrlWritten (s : State) : State :=
  let s := if s.timeSource = 1 then s else s.level 5 false
  if s.timeSource = 2 then
    (if s.timeState = 5 then s
     else if s.todValid then { s with time := { s.time with slew := none } }.enterFreerun else (s.setSteer 0).setTimeState 0)
  else s

/-- SLEWING_END (R326): the slew after a SET_TOD's step has removed its remainder. -/
def slewingEnd (s : State) : State :=
  match s.time.slew with
  | some w => if s.timeState = 4 ∧ w.afterSetTod then { s with time := { s.time with slew := none } }.enterFreerun else s
  | none => s

/-! ### The step at block E: R329 -/

/-- Every conditioned source delivers zero: between the step and the first boundary of the new numbering. -/
def stepZero (s : State) : Bool := match s.time.step with | some p => p.moved | none => false

/-- The whole of block `b` ramps out before a step. -/
def stepRampOut (s : State) (b : Nat) : Bool := match s.time.step with | some p => !p.moved && p.atBlock == b + 1 | none => false

/-- At the boundary that starts block `b`: local time moves at E, and at E' the ramp-in starts and the remainder is
removed in SLEWING. -/
def stepAtBoundary (s : State) (b : Nat) : State :=
  match s.time.step with
  | none => s
  | some p =>
    if p.moved then
      let s := { s with time := { s.time with step := none, rampIn := some b } }
      if p.setTod then s.startSlew (-p.remainder) true else s.startSlew (-p.remainder) false
    else if p.atBlock ≤ b then
      let old := s.now
      let s := { s with now := ((s.now : Int) + p.samples * 32768).toNat,
                        time := { s.time with step := some { p with moved := true } } }
      let s := if p.setTod || p.acquire then s.setBit Reg.TIME_STATUS 4 else s
      (s.actionsAfterMove old).receiveRealign
    else s

/-! ### REF_IN -/

/-- The period of a REF_IN rate in 1/625 of a root count (R325): 1 Hz, 48 kHz, 96 kHz, 10 MHz, 24.576 MHz. -/
def refPeriod (rate : Nat) : Nat :=
  match rate with
  | 0 => 625 * 3145728000
  | 1 => 625 * 65536
  | 2 => 625 * 32768
  | 3 => 196608
  | _ => 625 * 128

/-- The rate in force: the fixed RATE, or under AUTO the detected one. -/
def refRate (s : State) : Option Nat :=
  let r := s.rf Reg.TIME_REF_CFG 2 0
  if r = 5 then (if s.rf Reg.TIME_STATUS 8 6 = 7 then none else some (s.rf Reg.TIME_STATUS 8 6)) else some r

/-- The offset of an edge at root count `c` against the nearest local time that is a multiple of the period, in
2^-16 ns (R323). -/
def refOffset (rate c : Nat) : Int :=
  let p := refPeriod rate
  let d := 625 * c % p
  let d : Int := if 2 * d < p then d else (d : Int) - p
  divEven (d * 100) 3

/-- An edge within ±0.5 % of one expected period after the previous valid edge (R325). -/
def refEdgeValid (rate last c : Nat) : Bool :=
  let p := refPeriod rate
  let d := 625 * (c - last)
  decide (last < c) && decide (995 * p ≤ 1000 * d) && decide (1000 * d ≤ 1005 * p)

/-- A valid REF_IN edge steers: at 1 Hz at once, at higher rates averaged over the block (R325). -/
def refSteer (s : State) (rate c : Nat) : State :=
  let u := refOffset rate c
  if rate = 0 then (s.reportOffset u).measureOffset u
  else { s with time := { s.time with ref := { s.time.ref with sum := s.time.ref.sum + u, edges := s.time.ref.edges + 1 } } }

/-- REF_IN_EDGE (R325, R331) of the edge `falling` at root count `c`, with SOURCE = 1. -/
def refEdge (s : State) (c : Nat) (falling : Bool) : State :=
  if s.timeSource = 1 ∧ s.bitOf Reg.TIME_REF_CFG 3 = falling then
    match s.refRate, s.time.ref.lastEdge with
    | some rate, some last =>
      if refEdgeValid rate last c then
        let s := { s with time := { s.time with ref := { s.time.ref with lastEdge := some c } } }
        let s := (s.setBit Reg.TIME_STATUS 5).wf Reg.TIME_STATUS 8 6 rate
        (s.level 5 false).refSteer rate c
      else
        let s := s.count Reg.TIME_REF_GLITCHES
        let s := if s.time.ref.glitched then s else { s with time := { s.time with ref := { s.time.ref with glitched := true } } }.event 6
        -- Without a valid reference yet, the next window is counted from this edge.
        if s.bitOf Reg.TIME_STATUS 5 then s else { s with time := { s.time with ref := { s.time.ref with lastEdge := some c } } }
    | _, _ => { s with time := { s.time with ref := { s.time.ref with lastEdge := some c } } }
  else s

/-- The once-a-block offset of REF_IN at rates above 1 Hz (R325), and the end of the block's glitch report. -/
def refBlock (s : State) : State :=
  let r := s.time.ref
  let s' := { s with time := { s.time with ref := { r with sum := 0, edges := 0, glitched := false } } }
  if s.timeSource = 1 ∧ 0 < r.edges then
    let u := divEven r.sum r.edges
    (s'.reportOffset u).measureOffset u
  else s'

/-- REF_LOSS: no valid edge for 8 expected periods (R331). -/
def refLoss (s : State) : State :=
  if s.timeSource = 1 ∧ s.bitOf Reg.TIME_STATUS 5 then
    let s := ((s.clrBit Reg.TIME_STATUS 5).wf Reg.TIME_STATUS 8 6 7).count Reg.TIME_REF_LOSSES
    let s := { s with time := { s.time with ref := { s.time.ref with lastEdge := none, sum := 0, edges := 0 } } }
    let s := s.level 5 true
    if s.timeState = 1 ∨ s.timeState = 2 ∨ s.timeState = 4 then s.enterHoldover else s
  else s

/-- REF_RATE_CHANGE: under AUTO, valid edges at another supported rate reacquire the reference, the last of them at
root count `c`; the new phase is measured as an offset under R327 (R331). -/
def refRateChange (s : State) (rate c : Nat) : State :=
  if s.timeSource = 1 ∧ s.rf Reg.TIME_REF_CFG 2 0 = 5 ∧ rate < 5 ∧ s.rf Reg.TIME_STATUS 8 6 ≠ rate then
    let first := s.rf Reg.TIME_STATUS 8 6 = 7 ∧ !s.sourceLive 5
    let s := s.refLoss
    let s := ((s.setBit Reg.TIME_STATUS 5).wf Reg.TIME_STATUS 8 6 rate).level 5 false
    let s := { s with time := { s.time with ref := { s.time.ref with lastEdge := some c } } }
    let s := if first then s else s.event 7
    let u := refOffset rate c
    (s.reportOffset u).measureOffset u
  else s

end State

end Sys2Proof.Machine
end

