-- ==== Sys2Proof/Machine/Cascade.lean ====
section
/-! DEFINITION. Cascade and Frenus Link: the link and its frames (R397 to R400), the tree (R401), flooding (R402), delay and
time (R404, R405), replication (R406 to R409), exact summation (R410 to R412), and the backup master (R413, R414). -/

namespace Sys2Proof.Machine

/-! ### Sections: R400 -/

/-- Field [hi:lo] of a word of a section. -/
def casField (x : CasSection) (w hi lo : Nat) : Nat := natField (x.words.getD w 0) hi lo

/-- Words of a section whose descriptor is `d`; none for a reserved type or a count outside its range. -/
def sectionLength (d : Nat) : Option Nat :=
  match d % 16 with
  | 1 => some 3
  | 2 => some 1
  | 3 => let c := natField d 37 27; if 1 ≤ c ∧ c ≤ 1024 then some (2 + (c + 1) / 2) else none
  | 4 => let n := natField d 32 26
         if 1 ≤ n ∧ n ≤ 88 then some (if natField d 16 16 = 1 then 2 else 2 + 32 * n) else none
  | 5 => some 7
  | _ => none

/-- The sections of a frame; none when a type is reserved or a section is cut short. -/
def parseSections : Nat → List Nat → Option (List CasSection)
  | 0, _ => none
  | _, [] => some []
  | f + 1, d :: r =>
    match sectionLength d with
    | none => none
    | some n =>
      if (d :: r).length < n then none
      else (parseSections f ((d :: r).drop n)).map fun l => ⟨d % 16, (d :: r).take n⟩ :: l

/-- The CRC of a frame (R399). -/
def casCrc (h0 : Nat) (blocks : List Nat) : Nat := crc32c (leBytes 7 h0 ++ (blocks.map (leBytes 8)).flatten)

/-- 64-bit two's complement. -/
def word64 (x : Int) : Nat := (x % 2 ^ 64).toNat

/-- An AUDIO section without its HOPS: producer, KIND, FIRST, TICK and samples. -/
def audioSection (src kind first tick : Nat) (xs : List Int) : CasSection :=
  ⟨3, [3 + src * 2 ^ 4 + kind * 2 ^ 16 + first * 2 ^ 17 + xs.length * 2 ^ 27, tick % 2 ^ 32] ++
    (List.range ((xs.length + 1) / 2)).map fun i => State.int32 (xs.getD (2 * i) 0) + State.int32 (xs.getD (2 * i + 1) 0) * 2 ^ 32⟩

/-- A run of feeds as a MIX section; no words for ABSENT. -/
def mixSection (sink b first count : Nat) (words : Option (List Int)) : CasSection :=
  ⟨4, [4 + sink * 2 ^ 4 + (if words.isNone then 2 ^ 16 else 0) + first * 2 ^ 17 + count * 2 ^ 26, b] ++ (words.getD []).map word64⟩

/-- The sections that leave in a frame and those that stay: at most 1,024 AUDIO data words, 2,816 MIX data words, 16 META
sections, and 4,000 data blocks in all (R398, R400). A kind that does not fit holds back the later ones of its kind. -/
def takeSections : List CasSection → Nat → Nat → Nat → Nat → List CasSection × List CasSection
  | [], _, _, _, _ => ([], [])
  | x :: r, audio, mix, metas, total =>
    let n := x.words.length
    let fits := decide (n ≤ total) && (match x.type with | 3 => decide (n - 2 ≤ audio) | 4 => decide (n - 2 ≤ mix) | _ => decide (0 < metas))
    if fits then
      let y := takeSections r (if x.type = 3 then audio - (n - 2) else audio) (if x.type = 4 then mix - (n - 2) else mix)
        (if x.type = 5 then metas - 1 else metas) (total - n)
      (x :: y.1, y.2)
    else
      let y := takeSections r (if x.type = 3 then 0 else audio) (if x.type = 4 then 0 else mix) (if x.type = 5 then 0 else metas) total
      (y.1, x :: y.2)

/-! ### HELLO -/

def helloMaster (h : Nat) : Nat := natField h 15 4
def helloUpId (h : Nat) : Nat := natField h 27 16
def helloHops (h : Nat) : Nat := natField h 34 28
def helloMode (h : Nat) : Nat := natField h 36 35
def helloPort (h : Nat) : Nat := natField h 38 37
def helloUpPort (h : Nat) : Nat := natField h 40 39
def helloUpValid (h : Nat) : Bool := natField h 41 41 == 1
def helloTimeValid (h : Nat) : Bool := natField h 42 42 == 1
def helloBackup (h : Nat) : Bool := natField h 43 43 == 1

/-- 0.1 ns of twice a span of root counts. -/
def halfTenths (sum : Int) : Int := divEven (sum * 10000000) 6291456

namespace State

/-! ### Roles and state: R395, R396, R417 -/

def casMember (s : State) : Bool := decide (s.rf Reg.CAS_ROLE 29 26 ≠ 0)
def casId (s : State) : Nat := s.rf Reg.CAS_ROLE 11 0
def casMaster (s : State) : Nat := s.rf Reg.CAS_ROLE 23 12
def casMode (s : State) : Nat := s.rf Reg.CAS_ROLE 25 24
def casBackup (s : State) : Nat := s.rf Reg.CAS_ROLE2 15 0
def hopLimit (s : State) : Nat := s.rf Reg.CAS_ROLE2 22 16
def actingMaster (s : State) : Nat := s.rf Reg.CAS_STATE 11 0
def isMaster (s : State) : Bool := s.bitOf Reg.CAS_STATE 22
def upPort (s : State) : Option Nat := let p := s.rf Reg.CAS_STATE 21 19; if p = 7 then none else some p
/-- A port that CASCADE_ROLE names and CFG0 enables (R396). -/
def casEnabled (s : State) (n : Nat) : Bool :=
  decide (n < s.dev.part.casPorts) && s.bitOf (Reg.CAS_CFG0 n) 0 && s.bitOf Reg.CAS_ROLE (26 + n)
def casUp (s : State) (n : Nat) : Bool := s.bitOf (Reg.CAS_STATUS n) 0
/-- The HELLO that came in block `b`. -/
def helloIn (s : State) (n b : Nat) : Option Nat := if (s.casPort n).helloAt = b then (s.casPort n).hello else none
/-- A sink keeps the feeds it receives; every other member is a contributor (R395). -/
def isSink (s : State) : Bool := s.isMaster || s.casMode == 0

/-- Raise an event at most once per block. -/
def casEvent (s : State) (n : Nat) : State :=
  if s.cas.raised.contains n then s else { s.event n with cas := { s.cas with raised := n :: s.cas.raised } }

/-! ### The link: R397 -/

/-- The lane goes down. -/
def casDown (s : State) (n : Nat) : State :=
  if s.casUp n then
    let s := (((s.clrBit (Reg.CAS_STATUS n) 0).clrBit (Reg.CAS_STATUS n) 2).count (Reg.CAS_LINK_DOWNS n)).setBit (Reg.CAS_STICKY n) 0
    (s.setCasPort n {}).event 160
  else s

/-- FRENUS_LINK_TRAINING_DONE (R397). No link trains without its reference REFCLK_25 (R513) or with the root PLL unlocked (R514). -/
def casTrainingDone (s : State) (n : Nat) (up inverted : Bool) : State :=
  if !up then s.casDown n
  else if s.casEnabled n && !s.casUp n && s.bitOf Reg.CLK_CLK_STATUS 1 && !s.rootUnlocked then
    let s := (s.setBit (Reg.CAS_STATUS n) 0).putBit (Reg.CAS_STATUS n) 1 inverted
    let s := s.event 160
    if inverted then s.event 161 else s
  else s

/-- CAS[n].CMD.RETRAIN: the lane trains again. -/
def casRetrain (s : State) (n : Nat) : State := if n < s.dev.part.casPorts then s.casDown n else s

/-- CAS[n].CMD.CLEAR_COUNTS; CAS[0]'s clears the device-wide counters as well (R416). -/
def casClearCounts (s : State) (n : Nat) : State :=
  let own := if n < s.dev.part.casPorts then (List.range 6).map fun k => Reg.CAS_FRAMES_RX n + 4 * k else []
  s.resetRegs (own ++ if n = 0 ∧ 0 < s.dev.part.casPorts then [Reg.CAS_MIX_ABSENT, Reg.CAS_IMPORT_CONCEAL, Reg.CAS_META_FWD, Reg.CAS_META_LATE] else [])

def casCommand (s : State) (n : Nat) (v : Word) : State :=
  let s := if bitAt v 0 then s.casClearCounts n else s
  if bitAt v 1 then s.casRetrain n else s

/-- A port that is no longer enabled drops its lane; CFG0 is already written. -/
def casCfgWritten (s : State) (n : Nat) : State := if s.casEnabled n then s else s.casDown n

/-! ### Sending: R398 to R400, R404 -/

/-- The device's own HELLO for port `n` (R400, R405). -/
def ownHello (s : State) (n : Nat) : Nat :=
  let up := s.upPort
  let upId := match up with | some p => (s.casPort p).neighbour | none => 0
  2 + s.actingMaster * 2 ^ 4 + upId * 2 ^ 16 + s.rf Reg.CAS_STATE 18 12 * 2 ^ 28 + s.casMode * 2 ^ 35 + n * 2 ^ 37 +
    up.getD 0 * 2 ^ 39 + b2n up.isSome * 2 ^ 41 + b2n (s.timeState == 2) * 2 ^ 42 + s.rf Reg.CAS_STATE 23 23 * 2 ^ 43 +
    s.rf Reg.PAT_ACTIVE_CRC 15 0 * 2 ^ 48

/-- The TIME section of port `n` for block `b`, whose start block left `d` counts after the local start of the block (R404). -/
def timeSection (s : State) (n b : Nat) (d : Int) : CasSection :=
  let a := if b = 0 then none else (s.casPort n).arrived.lookup (b - 1)
  ⟨1, [1 + b2n a.isSome * 2 ^ 4, b, int32 d + int32 (a.getD 0) * 2 ^ 32]⟩

/-- CAS_FRAME_SEND (R398): the frame of port `n` for the present tick, once; its start block leaves `d` root counts after
the tick. With the root PLL unlocked no link sends (R514). -/
def casFrameSend (s : State) (n : Nat) (d : Int) : State :=
  if !(s.casEnabled n && s.casUp n) || s.ticked.casSent.contains n || s.rootUnlocked then s
  else
    let s : State := { s with ticked := { s.ticked with casSent := n :: s.ticked.casSent } }
    let k := s.tick
    let p := s.casPort n
    let x := takeSections p.out 1024 2816 16 3900
    let start := k % 32 == 0
    let first := if start then [s.timeSection n s.block d, ⟨2, [s.ownHello n]⟩] else []
    let p := { p with out := x.2, departed := if start then ((s.block, d) :: p.departed).take 4 else p.departed }
    let s := s.setCasPort n p
    let blocks := ((first ++ x.1).map (·.words)).flatten
    let h0 := 1 + s.casId * 2 ^ 4 + k % 2 ^ 32 * 2 ^ 24
    let metas := (x.1.filter fun y => y.type == 5).length
    let s := (s.emit (.cas n h0 blocks (casCrc h0 blocks))).count (Reg.CAS_FRAMES_TX n)
    if metas = 0 then s else s.countBy Reg.CAS_META_FWD metas

/-- Runs of consecutive exported objects among a rising list. -/
def runsOf : List (Nat × Int) → List (Nat × List Int)
  | [] => []
  | (n, x) :: r => match runsOf r with
    | (m, l) :: t => if m = n + 1 ∧ l.length < 1024 then (n, x :: l) :: t else (n, [x]) :: (m, l) :: t
    | [] => [(n, [x])]

/-- Send the values of exported objects for conditioned sample `k` (R406). -/
def exportObjects (s : State) (k : Nat) (vals : List (Nat × Int)) : State :=
  s.over (runsOf vals) fun t (e : Nat × List Int) => t.casFlood none (audioSection t.casId 0 e.1 k e.2)

/-- What a member exports at the end of tick `k`: the objects of the sample, other than those that wait for a link channel,
and the outputs of OUT_EXPORT at the pins at tick k + 1 (R403, R406). -/
def exportTick (s : State) (k : Nat) : State :=
  if !s.casMember then s
  else
    let late : List Nat := match s.cas.sums with | (t, l) :: _ => if t = k then l.map (·.1) else [] | [] => []
    let objs := s.omd.input.filter fun (e : Nat × List Int) => s.objExported e.1 && !late.contains e.1
    let s := s.exportObjects k (objs.map fun (e : Nat × List Int) => (e.1, e.2.headD 0))
    let first := s.rf Reg.CAS_OUT_EXPORT 9 0
    let n := s.rf Reg.CAS_OUT_EXPORT 25 16
    let pins := s.pinValues (k + 1)
    if n = 0 then s
    else s.casFlood none (audioSection s.casId 1 first (k + 1) ((List.range (min n (640 - first))).map fun j => (pins.lookup (first + j)).getD 0))

/-! ### Receiving: R399, R402 to R405, R409, R410 -/

/-- TIME (R404, R405): the frame's start block arrived `a` counts after the local start of its block. -/
def takeTime (s : State) (n : Nat) (x : CasSection) (arrival : Int) : State :=
  let p := s.casPort n
  let b := x.words.getD 1 0
  let a := arrival - (b * 1048576 : Nat)
  let p' := { p with
    arrived := (if a = satQ31 a then (b, a) :: p.arrived else p.arrived).take 4
    farLeft := ((b, signExt 32 (casField x 2 31 0)) :: p.farLeft).take 4 }
  let s := s.setCasPort n p'
  let isUp := s.upPort == some n
  if isUp && s.linkTimed && !s.todValid && s.timeState != 5 then
    -- The first time of day is BLOCK (R405), brought on by what has passed since its start block arrived.
    s.acquireTod (divEven (((b * 1048576 : Nat) + max 0 ((s.now : Int) - arrival)) * 62500) 3).toNat
  else if casField x 0 4 4 = 1 ∧ 0 < b then
    match p.arrived.lookup (b - 1), p.departed.lookup (b - 1), p.farLeft.lookup (b - 1) with
    | some an, some dn, some df =>
      let near := an - df
      let far := signExt 32 (casField x 2 63 32) - dn
      let asym := s.rsf (Reg.CAS_CFG1 n) 15 0
      let delay := halfTenths (near + far) - asym
      let fault := decide ((5000 + asym) * 6291456 < (near + far) * 10000000)
      let s := s.wr (Reg.CAS_LINK_DELAY n) (BitVec.ofNat 32 (clampInt 0 65535 delay).toNat)
      let s := s.wr (Reg.CAS_LINK_OFFSET n) (satWord (halfTenths (near - far)))
      let rose := fault && !s.bitOf (Reg.CAS_STATUS n) 4
      let s := s.putBit (Reg.CAS_STATUS n) 4 fault
      let s := if rose then (s.setBit (Reg.CAS_STICKY n) 2).event 164 else s
      if isUp && s.linkTimed then
        let u := divEven ((near - far) * 62500) 6
        (s.reportOffset u).measureOffset u
      else s
    | _, _, _ => s
  else s

/-- HELLO: the neighbour, and its identity (R396). -/
def takeHello (s : State) (n src : Nat) (x : CasSection) : State :=
  let h := x.words.getD 0 0
  let s := s.setCasPort n { s.casPort n with hello := some h, helloAt := s.block, neighbour := src }
  let s := s.wr64 (Reg.CAS_NEIGHBOUR_LO n) h
  let fault := src == s.casId || (s.bitOf (Reg.CAS_CFG2 n) 12 && s.rf (Reg.CAS_CFG2 n) 11 0 != src)
  let rose := fault && !s.bitOf (Reg.CAS_STATUS n) 5
  let s := s.putBit (Reg.CAS_STATUS n) 5 fault
  if rose then (s.setBit (Reg.CAS_STICKY n) 3).event 162 else s

/-- Forward a section on the other tree ports with HOPS + 1 in the field that starts at `bit`, or drop it at HOP_LIMIT
(R402). -/
def casForward (s : State) (n bit : Nat) (x : CasSection) : State :=
  let h := natField (x.words.getD 0 0) (bit + 6) bit + 1
  if !((List.range s.dev.part.casPorts).any fun m => m != n && s.casTree m) then s
  else if s.hopLimit ≤ h then (s.count (Reg.CAS_HOP_DROPS n)).event 169
  else s.casFlood (some n) { x with words := x.words.set 0 (x.words.getD 0 0 + 2 ^ bit) }

/-- The full number of a 32-bit TICK: the one nearest the present tick. -/
def fullTick (s : State) (t : Nat) : Nat := ((s.tick : Int) + signExt 32 (((t : Int) - s.tick) % 2 ^ 32).toNat).toNat

/-- AUDIO (R402, R407): link channels take their samples. -/
def takeAudio (s : State) (n : Nat) (x : CasSection) : State :=
  let src := casField x 0 15 4
  let kind := casField x 0 16 16
  let first := casField x 0 26 17
  let count := casField x 0 37 27
  let t := s.fullTick (casField x 1 31 0)
  if s.cas.audio.contains (src, kind, first, t) then s
  else
    let s : State := { s with cas := { s.cas with audio := ((src, kind, first, t) :: s.cas.audio).filter fun e => decide (s.tick ≤ e.2.2.2 + 320) } }
    let s := s.casForward n 38 x
    if kind = 1 then s
    else s.over (s.imports.filter fun e => fld e.2 11 0 == src && decide (first ≤ fld e.2 21 12) && decide (fld e.2 21 12 < first + count)) fun u e =>
      let i := fld e.2 21 12 - first
      let w := x.words.getD (2 + i / 2) 0
      let v := signExt 32 (if i % 2 = 0 then w % 2 ^ 32 else w / 2 ^ 32)
      let r := (Assoc.get? e.1 u.cas.link).getD {}
      { u with cas := { u.cas with link := Assoc.put e.1 { r with buffer := Assoc.put t [v] r.buffer } u.cas.link } }

/-- META (R402, R409): the entry applies to the object of the same number when an import takes its metadata. -/
def takeMeta (s : State) (n c : Nat) (x : CasSection) : State :=
  let src := casField x 0 15 4
  let o := casField x 0 25 16
  let blk := x.words.getD 1 0
  if s.cas.metas.contains (src, o, blk) then s
  else
    let s : State := { s with cas := { s.cas with metas := ((src, o, blk) :: s.cas.metas).filter fun e => decide (s.block ≤ e.2.2 + 64) } }
    let s := s.casForward n 27 x
    if !(s.imports.any fun e => bitAt e.2 30 && fld e.2 11 0 == src && fld e.2 21 12 == o) then s
    else if !s.inGroup o then s.count Reg.OMD_DROP_OBJECT
    else
      let e := fomEntry (List.replicate 16 0 ++ ((x.words.drop 2).map (leBytes 8)).flatten ++ List.replicate 8 0) 0
      let now := s.openBlock o c
      let s := if blk < now then s.count Reg.CAS_META_LATE else s
      s.queueEntryAt o c blk now { e.fields with seq := none, t := s.resolveSeconds e.seconds * 3000000000 + 3 * e.nanos } (casField x 0 26 26 == 1)

/-- The audio block whose sums are formed in the present run block (R410). -/
def sumBlock (s : State) : Nat := s.block - 1

/-- A downstream tree port whose neighbour is a contributor (R410). -/
def casSource (s : State) (n : Nat) : Bool :=
  s.casTree n && s.upPort != some n && (match (s.casPort n).hello with | some h => helloMode h != 0 && helloHops h != 0 | none => false)

/-- MIX (R410, R412). -/
def takeMix (s : State) (n : Nat) (x : CasSection) : State :=
  if x.words.getD 1 0 ≠ s.sumBlock ∨ !s.casSource n then s.count (Reg.CAS_BAD_SECTIONS n)
  else
    let first := casField x 0 25 17
    let count := casField x 0 32 26
    let words := if casField x 0 16 16 = 1 then none else some ((x.words.drop 2).map (signExt 64))
    { s with cas := { s.cas with mix := ⟨n, s.sumBlock, first, count, words⟩ :: s.cas.mix } }

/-- CAS_FRAME_RECEIVE (R399): a frame whose start block arrived at root count `arrival` of local time. -/
def casFrameReceive (s : State) (n h0 : Nat) (blocks : List Nat) (crc : Nat) (arrival : Nat) : State :=
  if !(s.casEnabled n && s.casUp n) then s
  else if crc ≠ casCrc h0 blocks then
    ((s.count (Reg.CAS_CRC_ERRORS n)).setBit (Reg.CAS_STICKY n) 1).casEvent 163
  else match (if natField h0 3 0 = 1 then parseSections (blocks.length + 1) blocks else none) with
    | none => s.count (Reg.CAS_BAD_SECTIONS n)
    | some xs =>
      let src := natField h0 15 4
      (s.count (Reg.CAS_FRAMES_RX n)).over xs fun t x =>
        match x.type with
        | 1 => t.takeTime n x arrival
        | 2 => t.takeHello n src x
        | k =>
          if !t.casTree n then t.count (Reg.CAS_BAD_SECTIONS n)
          else if k = 3 then t.takeAudio n x
          else if k = 4 then t.takeMix n x
          else t.takeMeta n arrival x

/-! ### IMPORT: R407 -/

/-- A write of IMPORT[r]: refused while r lies in an enabled receive stream, or another enabled entry names the object. -/
def importWrite (s : State) (r : Nat) (v : Word) : State :=
  let v := v &&& 0xC03FFFFF
  if 1024 ≤ r ∨ s.dev.part.casPorts = 0 then s
  else
    let inStream := (List.range 128).any fun i => s.rxsEnabled i &&
      decide (s.rf (Reg.RXS_FORMAT i) 25 16 ≤ r) && decide (r < s.rf (Reg.RXS_FORMAT i) 25 16 + s.rf (Reg.RXS_FORMAT i) 6 0)
    let same := s.imports.any fun e => e.1 != r && fld e.2 21 0 == fld v 21 0
    if bitAt v 31 && (inStream || same) then s
    else
      let s := s.wr (Reg.CAS_IMPORT r) v
      if bitAt v 31 then s else { s with cas := { s.cas with link := Assoc.del r s.cas.link } }

/-! ### Late inputs: R407, R408 -/

/-- The part of an object in a version, as it stands at the end of block `b`. -/
def latePart (s : State) (b n : Nat) (v : Version) : Option LatePart :=
  match v.region.tileMap.find? fun e => decide (e.first ≤ n) && decide (n < e.first + e.count), s.planOf n v.uid b, s.objZone v b n with
  | some e, some p, some (_, set) =>
    let l := s.logicalTile e.tile
    let dropped := l.host.isNone || (match l.fault with | some f => decide (f ≤ b) && decide (b < f + 3) | none => false)
    some ⟨v, e.tile, p, s.objFactors n b p false false, set, dropped⟩
  | _, _, _ => none

/-- Objects of block `b` whose sums wait for link channels are set aside, with all that their stage and rendering use. -/
def deferLate (s : State) (b : Nat) : State :=
  let ns := ((s.cas.sums.filter fun e => e.1 / 32 == b).map fun e => e.2.map (·.1)).flatten.eraseDups.filter fun n =>
    decide (n < 1024) && s.inGroup n && !s.objForeground n
  let jobs := ns.map fun n => (⟨b, s.stageParams n b, (s.pat.versions.filter fun v => v.runs b).filterMap (s.latePart b n)⟩ : LateJob)
  { s with cas := { s.cas with jobs := jobs } }

/-- Sample `t` of link channel `r` (R408). -/
def linkSample (s : State) (r t : Nat) : State × Int :=
  let c := (Assoc.get? r s.cas.link).getD {}
  let v := Assoc.get? t c.buffer
  let o := concealStep c 32 1 v
  let c := { c with buffer := c.buffer.filter fun e => decide (t < e.1), phase := o.2.1, recent := (o.1 :: c.recent).take 64 }
  let s : State := { s with cas := { s.cas with link := Assoc.put r c s.cas.link } }
  let s := if v.isNone then (s.count Reg.CAS_IMPORT_CONCEAL).casEvent 171 else s
  (s, s.stepShape (t / 32) (t % 32) (o.1.headD 0))

/-- Replace the value of `n` at tick `t` in a ring. -/
def patchRing (l : List (Nat × List (Nat × Int))) (t n : Nat) (v : Int) : List (Nat × List (Nat × Int)) :=
  l.map fun e => if e.1 = t then (t, (e.2.filter fun x => x.1 != n) ++ [(n, v)]) else e

/-- The link channels of sample `t`: their values, and the sums that waited for them. -/
def linkTick (s : State) (t : Nat) : State :=
  let r := s.imports.foldl (fun (a : State × List (Nat × Int)) e => let x := a.1.linkSample e.1 t; (x.1, a.2 ++ [(e.1, x.2)])) (s, [])
  let s := r.1
  let vals := r.2
  let past := vals.foldl (fun l e => if (s.xp.past.lookup t).any (·.any fun x => x.1 == e.1) then patchRing l t e.1 e.2 else l) s.xp.past
  let s : State := { s with xp := { s.xp with past := past } }
  match s.cas.sums.lookup t with
  | none => s
  | some sums =>
    let nodes := (s.nodesOf true).filter fun o => (sums.any fun e => e.1 == nodeDst o) && (vals.any fun e => e.1 == nodeSrc o) && !s.nodeInert o
    let full := sums.map fun e => (e.1, nodes.foldl (fun a o =>
      if nodeDst o = e.1 then wrap64 (a + divEven (s.nodeGain o t * (vals.lookup (nodeSrc o)).getD 0) (2 ^ 17)) else a) e.2)
    let x := s.narrowSums true full
    let s := x.1.over x.2 fun u e =>
      if 1024 ≤ e.1 then { u with xp := { u.xp with buses := patchRing u.xp.buses t (e.1 - 1024) e.2 } }
      else match Assoc.get? e.1 u.omd.input with
        | some l => { u with omd := { u.omd with input := Assoc.put e.1 (l.set (u.tick - 1 - t) e.2) u.omd.input } }
        | none => u
    s.exportObjects t (x.2.filter fun e => decide (e.1 < 1024) && s.objExported e.1)

/-- Render what waited, into the feeds of its audio block. -/
def lateRender (s : State) (j : LateJob) : State :=
  let b := j.block
  let s := s.runStageWith j.params b 0 32
  s.over (j.parts.filter fun p => !(p.factors.any (· == .silent))) fun t p =>
    let x := t.renderObject j.params.n b 0 32 0 p.plan p.factors 0 p.set.spk.length
    let m := toOutputs p.set x.1
    let t := match (t.logicalTile p.tile).host with
      | some h =>
        let t := if x.2.1 = 0 then t else t.countBy (Reg.TILE_SAT_COUNT h) x.2.1
        (t.wf (Reg.TILE_PAIRS h) 13 0 (t.rf (Reg.TILE_PAIRS h) 13 0 + x.2.2)).wf Reg.RNDR_PAIRS_LAST 31 0 (t.rf Reg.RNDR_PAIRS_LAST 31 0 + x.2.2)
      | none => t
    if p.dropped then t
    else
      let w := Mix.scale (fun i y => p.version.weigh b i y) m
      let feeds := t.rndr.feeds.map fun e => if e.1 = b then (b, Mix.sum e.2 w) else e
      let partials := match Assoc.get? p.tile t.rndr.partials with
        | some (u, q) => Assoc.put p.tile (u, Mix.sum q m) t.rndr.partials
        | none => t.rndr.partials
      { t with rndr := { t.rndr with feeds := feeds, partials := partials } }

/-- The instant of R407 for block `b`, 11 samples after the start of block b + 1. -/
def linkResolve (s : State) (b : Nat) : State :=
  let s := s.over (List.range 32) fun t i => t.linkTick (32 * b + i)
  let s := s.over (s.cas.jobs.filter fun j => j.block == b) lateRender
  { s with cas := { s.cas with jobs := [], sums := s.cas.sums.filter fun e => decide (32 * (b + 1) ≤ e.1) } }

/-! ### Exact summation: R410 to R412 -/

/-- The sum of feed `f` of block `b` over the downstream contributors: none while a term is missing, and an inner none for
ABSENT. -/
def receivedSum (s : State) (b f : Nat) : Option (Option (List Int)) :=
  ((List.range s.dev.part.casPorts).filter s.casSource).foldl (fun a n =>
    match a, s.cas.mix.find? fun m => m.port == n && m.block == b && decide (m.first ≤ f) && decide (f < m.first + m.count) with
    | some x, some m => (match x, m.words with
      | some xs, some ws => some (some (List.zipWith (fun p q => wrap64 (p + q)) xs ((ws.drop (32 * (f - m.first))).take 32)))
      | _, _ => some none)
    | _, _ => none) (some (some (List.replicate 32 0)))

/-- Feed `f` lies in the range of the device's own contribution (R395, R417). -/
def ownRange (s : State) (f : Nat) : Bool :=
  s.casMode != 2 || (decide (s.rf Reg.CAS_MIX_CFG 8 0 ≤ f) && decide (f < s.rf Reg.CAS_MIX_CFG 8 0 + s.rf Reg.CAS_MIX_CFG 25 16))

/-- The feed word a contributor sends for feed `f` of block `b`. -/
def feedSum (s : State) (b f : Nat) : Option (Option (List Int)) :=
  match s.receivedSum b f with
  | none => none
  | some none => some none
  | some (some xs) =>
    if !s.ownRange f then some (some xs)
    else if s.rndr.blockLate = some b then some none
    else if s.cas.jobs.any fun j => j.block == b then none
    else match Assoc.get? b s.rndr.feeds with
      | none => none
      | some m => some (some (match Assoc.get? f m with | some ys => List.zipWith (fun p q => wrap64 (p + q)) xs ys | none => xs))

/-- Neighbouring feeds of one kind joined into runs of at most 88. -/
def mixRuns : List (Nat × Option (List Int)) → List (Nat × Nat × Option (List Int))
  | [] => []
  | (f, w) :: r => match mixRuns r with
    | (g, n, ws) :: t =>
      if g = f + 1 ∧ n < 88 ∧ w.isSome = ws.isSome then (f, n + 1, (match w, ws with | some a, some b => some (a ++ b) | _, _ => none)) :: t
      else (f, 1, w) :: (g, n, ws) :: t
    | [] => [(f, 1, w)]

/-- Queue MIX sections for the sink: the up neighbour where it is one, and the acting master otherwise. -/
def sendMix (s : State) (b : Nat) (l : List (Nat × Option (List Int))) : State :=
  match s.upPort with
  | none => s
  | some p =>
    let port := s.casPort p
    let sink := match port.hello with | some h => if helloMode h = 0 then port.neighbour else s.actingMaster | none => s.actingMaster
    s.setCasPort p { port with out := port.out ++ (mixRuns l).map fun e => mixSection sink b e.1 e.2.1 e.2.2 }

/-- The leading feeds whose every term is present. -/
def readyFeeds (s : State) (b : Nat) : Nat → Nat → List (Nat × Option (List Int))
  | 0, _ => []
  | k + 1, f => match s.feedSum b f with | some w => (f, w) :: s.readyFeeds b k (f + 1) | none => []

/-- MIX_FORWARD (R410): the words whose terms are all present leave, in ascending feed. -/
def mixForward (s : State) : State :=
  if !s.casMember || s.isSink || s.upPort.isNone || s.block = 0 then s
  else
    let b := s.sumBlock
    let f := if s.cas.sentBlock = b then s.cas.sentFeed else 0
    let l := s.readyFeeds b (512 - f) f
    let s := s.sendMix b l
    { s with cas := { s.cas with sentBlock := b, sentFeed := f + l.length } }

/-- The end of the sums of audio block `b`, at the boundary that starts block b + 2: a contributor sends ABSENT for what it
lacks, and a sink adds what it received or misses its deadline (R410, R412). -/
def mixFinish (s : State) (b : Nat) : State :=
  if !s.casMember then s
  else
    let s := if !s.isSink then
        let f := if s.cas.sentBlock = b then s.cas.sentFeed else 0
        s.sendMix b ((List.range (512 - f)).map fun i => (f + i, none))
      else if !((List.range s.dev.part.casPorts).any s.casSource) then s
      else
        let sums := (List.range 512).map fun f => (f, s.receivedSum b f)
        if sums.any fun e => match e.2 with | some (some _) => false | _ => true then
          let s := (s.count Reg.CAS_MIX_ABSENT).casEvent 170
          let s := if concealing s.rndr.blockConceal then s else s.concealStart .blockMix b
          { s with rndr := { s.rndr with blockLate := some b } }
        else
          let m : Mix := sums.filterMap fun e => match e.2 with | some (some xs) => if xs.all (· == 0) then none else some (e.1, xs) | _ => none
          { s with rndr := { s.rndr with feeds := s.rndr.feeds.map fun e => if e.1 = b then (b, Mix.sum e.2 m) else e } }
    { s with cas := { s.cas with mix := s.cas.mix.filter fun m => decide (b < m.block), sentBlock := b + 1, sentFeed := 0 } }

/-! ### The tree, master loss and the backup: R401, R413, R414 -/

/-- Port `n` is not excluded and its HELLO of block `b` is one that offers acting master `m` (R401, R413). -/
def offers (s : State) (n b m : Nat) : Option Nat :=
  match s.helloIn n b with
  | some h =>
    if s.casEnabled n && s.casUp n && s.rf (Reg.CAS_STATUS n) 5 4 == 0 && helloMaster h == m && helloTimeValid h &&
      decide (helloHops h < s.hopLimit) && (m == s.casMaster) != helloBackup h then some (helloHops h) else none
  | none => none

/-- The candidates for acting master `m`, by port. -/
def candidates (s : State) (b m : Nat) : List (Nat × Nat) :=
  (List.range s.dev.part.casPorts).filterMap fun n => (s.offers n b m).map fun h => (n, h)

/-- The candidate with the lowest HOPS, a tie going to the lower port. -/
def bestCandidate (l : List (Nat × Nat)) : Option (Nat × Nat) :=
  l.foldl (fun b e => match b with | none => some e | some x => if e.2 < x.2 then some e else some x) none

def setCasState (s : State) (acting hops : Nat) (up : Option Nat) (master : Bool) : State :=
  let s := if s.upPort = up then s else s.event 165
  let s := ((s.wf Reg.CAS_STATE 11 0 acting).wf Reg.CAS_STATE 18 12 hops).wf Reg.CAS_STATE 21 19 (up.getD 7)
  (s.putBit Reg.CAS_STATE 22 master).putBit Reg.CAS_STATE 23 (acting != s.casMaster)

/-- A member that is not the acting master chooses its up port from the HELLOs of block `b` (R401). -/
def chooseUp (s : State) (b : Nat) : State :=
  let own := s.candidates b s.actingMaster
  let m := if !own.isEmpty then s.actingMaster
    else if !(s.candidates b s.casMaster).isEmpty then s.casMaster
    else if s.casBackup < 4096 ∧ !(s.candidates b s.casBackup).isEmpty then s.casBackup else s.actingMaster
  let cands := s.candidates b m
  let cur := match s.upPort with | some p => (if m = s.actingMaster then cands.find? fun e => e.1 == p else none) | none => none
  let better (e : Nat × Nat) : Bool := match cur with | some c => decide (e.2 < c.2) | none => false
  let s := s.over (List.range 4) fun t n =>
    let p := t.casPort n
    t.setCasPort n { p with better := if cands.any fun e => e.1 == n && better e then p.better + 1 else 0 }
  let keep := cur.isSome && !((List.range 4).any fun n => decide (16 ≤ (s.casPort n).better))
  let pick := if keep then cur else bestCandidate cands
  match pick with
  | some (p, h) =>
    let s := { s.setCasState m (h + 1) (some p) false with cas := { s.cas with lone := 0 } }
    s.clrBit Reg.CAS_STATE 24
  | none =>
    let had := s.upPort.isSome
    let s : State := { s.setCasState m 0x7F none false with cas := { s.cas with lone := s.cas.lone + 1 } }
    if had && s.linkTimed then s.sourceLost else s

/-- The tree ports (R401). -/
def markTree (s : State) (b : Nat) : State :=
  s.over (List.range s.dev.part.casPorts) fun t n =>
    let up := t.upPort == some n
    let below := match t.helloIn n b with
      | some h => t.rf (Reg.CAS_STATUS n) 5 4 == 0 && helloUpValid h && helloUpId h == t.casId && helloUpPort h == helloPort h
      | none => false
    let on := t.casMember && t.casEnabled n && t.casUp n
    (t.putBit (Reg.CAS_STATUS n) 2 (on && (up || below))).putBit (Reg.CAS_STATUS n) 3 (on && up)

/-- The cascade at the boundary that starts block `b`. -/
def casBoundary (s : State) (b : Nat) : State :=
  if !s.casMember || b = 0 then s.markTree (b - 1)
  else
    let s := if s.cas.taking then
        ({ s.setCasState s.casId 0 none true with cas := { s.cas with taking := false, offered := 0 } }).event 167
      else if s.cas.yielding then
        ({ s.setCasState s.casMaster 0x7F none false with cas := { s.cas with yielding := false, lone := 0 } }).event 168
      else s
    let s := if s.isMaster then
        let back := s.actingMaster != s.casMaster && !(s.candidates (b - 1) s.casMaster).isEmpty
        { s.setCasState s.casId 0 none true with cas := { s.cas with offered := if back then s.cas.offered + 1 else 0 } }
      else s.chooseUp (b - 1)
    s.markTree (b - 1)

/-- MASTER_LOSS (R413): no candidate for MASTER_LOSS consecutive blocks; a backup becomes acting master at the next
boundary. -/
def masterLoss (s : State) : State :=
  if s.casMember && !s.isMaster && !s.bitOf Reg.CAS_STATE 24 && decide (s.rf Reg.CAS_LOSS_CFG 7 0 ≤ s.cas.lone) then
    let s := (s.setBit Reg.CAS_STATE 24).event 166
    let s := if s.linkTimed then s.sourceLost else s
    if s.casId = s.casBackup then { s with cas := { s.cas with taking := true } } else s
  else s

/-- BACKUP_YIELD (R414): the original master has been offered for 3,000 consecutive blocks. -/
def backupYield (s : State) : State :=
  if s.isMaster && s.actingMaster != s.casMaster && decide (3000 ≤ s.cas.offered) then { s with cas := { s.cas with yielding := true } } else s

/-- The commit of CASCADE_ROLE (R395, R396): the roles, and the state before any HELLO. -/
def commitRole (s : State) (r : CascadeRole) : State :=
  let s := s.wr Reg.CAS_ROLE (BitVec.ofNat 32 (r.id + r.master * 2 ^ 12 + r.mode * 2 ^ 24 + r.ports * 2 ^ 26))
  let s := s.wr Reg.CAS_ROLE2 (BitVec.ofNat 32 (r.backup + r.hopLimit * 2 ^ 16))
  let master := r.ports != 0 && r.id == r.master
  let s := s.wr Reg.CAS_STATE 0x003FF000
  let s := s.setCasState r.master (if master then 0 else 0x7F) none master
  { s with cas := { s.cas with lone := 0, taking := false, offered := 0, yielding := false } }

end State

end Sys2Proof.Machine
end

