-- ==== Sys2Proof/Machine/Hedge.lean ====
section
/-! DEFINITION. Hedge redundant pairs: withholding (R420, R421), heartbeats and health (R422, R423), control authority (R424
to R426), handover and revert (R428), epochs (R429 to R432) and messages (R433, R434). -/

namespace Sys2Proof.Machine

/-- The rank of a BASIS: INITIAL and FALLBACK 1, VERDICT and HANDOVER 2. -/
def basisRank (b : Nat) : Nat := match b with | 1 => 1 | 3 => 1 | 2 => 2 | 4 => 2 | _ => 0

/-- An entry of EPOCH_DATA (R434). -/
def epochEntry (u : GaugeUpdate) : List Byte :=
  let head (k : Nat) : List Byte := beBytes 1 k ++ [0] ++ beBytes 2 u.out
  match u.kind with
  | .limiter v => head 0 ++ beBytes 4 (State.int32 v)
  | .mute on => head 1 ++ beBytes 4 (b2n on)
  | .invert on => head 2 ++ beBytes 4 (b2n on)
  | .topiary v => head 3 ++ ((List.range 31).map fun b => beBytes 2 (v.getD b 0 % 65536).toNat).flatten ++ [0, 0]

/-- The updates that entries spell, with target `t`; `none` for an unknown KIND or an entry cut short. -/
def parseEntries (t : Nat) : Nat → List Byte → Option (List GaugeUpdate)
  | 0, _ => none
  | _, [] => some []
  | f + 1, b =>
    let out := beNat b 2 2
    let v := State.beInt b 4
    let next (n : Nat) (k : UpdateKind) : Option (List GaugeUpdate) :=
      if b.length < n then none else (parseEntries t f (b.drop n)).map fun l => ⟨out, t, k⟩ :: l
    match byteAt b 0 with
    | 0 => next 8 (.limiter v)
    | 1 => next 8 (.mute (v != 0))
    | 2 => next 8 (.invert (v != 0))
    | 3 => next 68 (.topiary ((List.range 31).map fun i => signExt 16 (beNat b (4 + 2 * i) 2)))
    | _ => none

/-- Entries packed into parts of at most 1,400 bytes (R433, R434). -/
def packParts : List (List Byte) → List (List Byte)
  | [] => [[]]
  | e :: r => match packParts r with
    | p :: t => if e.length + p.length ≤ 1400 ∧ !p.isEmpty ∨ p.isEmpty then (e ++ p) :: t else e :: p :: t
    | [] => [e]

/-- An epoch holds a Topiary entry (R429, R430). -/
def hasTopiary (l : List GaugeUpdate) : Bool := l.any fun u => match u.kind with | .topiary _ => true | _ => false

/-- Is number `q` already accepted by a window, or acceptable to it (R102 steps 2 to 4)? -/
def SeqWindow.seenBefore (w : SeqWindow) (q : Nat) : Bool :=
  let back := (w.last + 2 ^ 32 - q) % 2 ^ 32
  decide (back < 64) && w.seen / 2 ^ back % 2 == 1

namespace State

/-! ### Fields: R436, R437 -/

def hedgeRole (s : State) : Nat := s.rf Reg.HEDGE_STATUS 1 0
def hedgePeer (s : State) : Nat := s.rf Reg.HEDGE_STATUS 3 2
def hedgeBasis (s : State) : Nat := s.rf Reg.HEDGE_STATUS 6 4
/-- The unit runs: ENABLE is 1 and a HEDGE_CONFIG is committed. -/
def hedgeOn (s : State) : Bool := s.dev.part.hasHedge && s.bitOf Reg.HEDGE_CTRL 0 && s.hedgeRole != 0
def hedgeOwn (s : State) : Nat := s.rf Reg.HEDGE_IDS 11 0
def hedgeOther (s : State) : Nat := s.rf Reg.HEDGE_IDS 27 16
def hedgePref (s : State) : Nat := s.rf Reg.HEDGE_REVERT 13 13
/-- Bit `b` of the FLAGS of the peer's last heartbeat. -/
def peerFlag (s : State) (b : Nat) : Bool := match s.hedge.peer with | some p => natField p.flags b b == 1 | none => false
def peerRole (s : State) : Nat := match s.hedge.peer with | some p => p.role | none => 0
def arbTimeout (s : State) : Nat := s.rf Reg.HEDGE_CFG 25 16 * 3145728
/-- The unit drives control outputs: a holder, or a former holder that asks (R424). -/
def hedgeDrives (s : State) : Bool := s.hedgeRole == 2 || (s.hedgeRole == 3 && s.hedge.drives)

/-- HEALTHY (R423). -/
def hedgeHealthy (s : State) : Bool :=
  let t := s.timeState
  let port (n : Nat) : Bool := s.netLinkUp n
  s.patternActive && s.todValid && (t == 1 || t == 2 || t == 3 || t == 6) && !s.bitOf Reg.HEDGE_CTRL 1 &&
  ((List.range 128).all fun i => !s.txsEnabled i ||
    (if s.net.prp then port 0 || port 1
     else match s.txsPort i with | 0 => port 0 | 1 => port 1 | _ => port 0 && port 1))

/-! ### Sending: R422, R433 -/

def hedgeKey (s : State) : Option (List Byte) := ((s.net.slots[s.rf Reg.HEDGE_CTRL 11 8]?).getD {}).key

/-- Send a message of a type to an address: once on every port whose link is up, or as one PRP frame. Nothing leaves
without a key, without PEER_ADDR or, with the root PLL unlocked, at all (R418, R514). -/
def hedgeSend (s : State) (type dst : Nat) (body : List Byte) : State :=
  match s.hedgeKey with
  | none => s
  | some key =>
    if s.addrWords (Reg.HEDGE_PEER_ADDR 0) = 0 ∨ dst = 0 ∨ s.rootUnlocked then s
    else
      let head := [0x10] ++ beBytes 1 type ++ beBytes 1 (s.rf Reg.HEDGE_CTRL 11 8) ++ [0] ++ beBytes 2 s.hedgeOwn ++
        beBytes 2 s.hedgeOther ++ beBytes 4 (s.hedge.sendSeq % 2 ^ 32) ++ beBytes 2 body.length ++ [0, 0] ++ beBytes 8 s.block
      let msg := head ++ body
      let payload := msg ++ hmacSha256 key msg
      let s : State := { s with hedge := { s.hedge with sendSeq := s.hedge.sendSeq + 1 } }
      let ports := if s.net.prp then [0] else [0, 1].filter s.netLinkUp
      s.over ports fun t n => t.sendOwn n ⟨if dst / 2 ^ 32 = 0xFFFF then t.ip4Of n else t.ip6Of n, dst, 49352, 49352, payload⟩

def sendPeer (s : State) (type : Nat) (body : List Byte) : State := s.hedgeSend type (s.addrWords (Reg.HEDGE_PEER_ADDR 0)) body
def sendArbiter (s : State) (type : Nat) (body : List Byte) : State := s.hedgeSend type (s.addrWords (Reg.HEDGE_ARB_ADDR 0)) body

/-- The body of HEARTBEAT and STATUS (R434). -/
def heartbeatBody (s : State) : List Byte :=
  let flags := s.rf Reg.HEDGE_STATUS 10 7 + b2n (s.hedgeRole != 2 && s.hedge.handover.isSome) * 16 +
    b2n (s.hedgePeer == 1) * 32 + s.hedgePref * 64
  beBytes 1 s.hedgeRole ++ beBytes 1 s.hedgeBasis ++ beBytes 2 flags ++ beBytes 4 (s.rd Reg.PAT_ACTIVE_CRC).toNat ++
    beBytes 4 (s.rd Reg.HEDGE_EPOCH_APPLIED).toNat ++ beBytes 4 (s.rd Reg.HEDGE_CHECKSUM).toNat ++
    beBytes 8 ((s.hedge.checks.head?.map (·.1)).getD 0) ++ beBytes 8 (s.hedge.handover.getD 0)

/-- RESYNC_REQUEST with a REASON (R434). -/
def sendResync (s : State) (reason : Nat) : State :=
  s.sendPeer 7 (beBytes 1 reason ++ [0, 0, 0] ++ beBytes 4 (s.rd Reg.HEDGE_EPOCH_APPLIED).toNat)

/-- QUERY with a REASON and a QUERY_ID. -/
def sendQuery (s : State) (reason id : Nat) : State :=
  (s.count Reg.HEDGE_QUERIES).sendArbiter 3 (beBytes 1 reason ++ [0, 0, 0] ++ beBytes 4 id)

/-- A fresh QUERY_ID, never 0. -/
def takeQueryId (s : State) : State × Nat :=
  let id := if s.hedge.nextQuery % 2 ^ 32 = 0 then 1 else s.hedge.nextQuery % 2 ^ 32
  ({ s with hedge := { s.hedge with nextQuery := id + 1 } }, id)

/-! ### Authority: R424, R425 -/

/-- WITHHOLDING is what the taint and the states of R423 and R431 make it. -/
def reportWithhold (s : State) : State := s.putBit Reg.HEDGE_STATUS 9 (s.hedge.holding || s.hedgeMute)

def setDiverged (s : State) (v : Bool) : State := (s.putBit Reg.HEDGE_STATUS 10 v).reportWithhold

/-- The unit becomes HOLDER with a basis, or STANDBY; events and counts tell a change of authority. -/
def setAuthority (s : State) (holder : Bool) (basis : Nat) : State :=
  let had := s.hedgeDrives
  let s := (s.wf Reg.HEDGE_STATUS 1 0 (if holder then 2 else 1)).wf Reg.HEDGE_STATUS 6 4 (if holder then basis else 0)
  let s : State := { s with hedge := { s.hedge with query := none, verdict := none, drives := false, yielding := false, noHolder := 0 } }
  let s := if holder then s.setDiverged false else s.clrBit Reg.HEDGE_STATUS 12
  let s := s.reportWithhold
  if holder && !had then (s.count Reg.HEDGE_TAKEOVERS).event 178
  else if !holder && had then (s.count Reg.HEDGE_RELEASES).event 179
  else s

/-- The unit asks the arbiter (R424). -/
def startAsking (s : State) (reason : Nat) : State :=
  let r := s.takeQueryId
  let drives := s.hedgeRole == 2
  let s := r.1.wf Reg.HEDGE_STATUS 1 0 3
  let s : State := { s with hedge := { s.hedge with query := some ⟨r.2, s.uptime, s.block⟩, drives := drives, verdict := none } }
  s.sendQuery reason r.2

/-- A partial epoch is discarded (R430). -/
def discardEpochs (s : State) (l : List EpochIn) : State :=
  if l.isEmpty then s
  else
    let s : State := { s with hedge := { s.hedge with incoming := s.hedge.incoming.filter fun e => !l.contains e } }
    (s.countBy Reg.HEDGE_EPOCHS_DISCARDED l.length).eventTimes 185 l.length

/-- PEER_LOST (R422, R424): missing heartbeats, or two that report unhealthy; with no peer since the commit the unit asks
at start-up. -/
def peerLost (s : State) : State :=
  let missing := decide (s.rf Reg.HEDGE_CFG 7 0 ≤ s.hedge.missing)
  if !s.hedgeOn then s
  else if s.hedgePeer = 1 ∧ (missing ∨ 2 ≤ s.hedge.unhealthy) then
    let s := ((s.wf Reg.HEDGE_STATUS 3 2 2).count Reg.HEDGE_PEER_LOSSES).event 176
    let s := s.discardEpochs s.hedge.incoming
    let s : State := { s with hedge := { s.hedge with handover := none, echoed := false, noHolder := 0 } }
    let s := (s.setDiverged false).clrBit Reg.HEDGE_STATUS 15
    if s.hedgeRole = 3 then s else s.startAsking 1
  else if s.hedgePeer = 0 ∧ missing ∧ s.hedgeRole ≠ 3 then s.startAsking 2
  else s

/-- QUERY_REPEAT (R424): every 3 blocks while ASKING. -/
def queryRepeat (s : State) : State :=
  match s.hedge.query with
  | some q =>
    if s.hedgeOn && s.hedgeRole == 3 && s.hedge.verdict.isNone && decide (q.last + 3 ≤ s.block) then
      { s.sendQuery (if s.hedgePeer = 0 then 2 else 1) q.id with hedge := { (s.sendQuery (if s.hedgePeer = 0 then 2 else 1) q.id).hedge with
        query := some { q with last := s.block } } }
    else s
  | none => s

/-- ARB_TIMEOUT (R424): authority by FALLBACK goes to the lower Cascade ID. -/
def arbitrationTimeout (s : State) : State :=
  match s.hedge.query with
  | some q =>
    if s.hedgeOn && s.hedgeRole == 3 && s.hedge.verdict.isNone && decide (q.since + s.arbTimeout ≤ s.uptime) then
      ((s.count Reg.HEDGE_ARB_TIMEOUTS).event 180).setAuthority (decide (s.hedgeOwn < s.hedgeOther)) 3
    else s
  | none => s

/-- VERDICT_APPLY (R424): at the later of EFFECTIVE_BLOCK and the first boundary after receipt. -/
def verdictApply (s : State) : State :=
  match s.hedge.verdict with
  | some (who, at') => if s.hedgeOn && s.hedgeRole == 3 && decide (at' ≤ s.block) then s.setAuthority (who == s.hedgeOwn) 2 else s
  | none => s

/-- A VERDICT from the arbiter. -/
def takeVerdict (s : State) (b : List Byte) : State :=
  let s := s.count Reg.HEDGE_VERDICTS
  let s : State := { s with hedge := { s.hedge with arbAt := some s.uptime } }
  let s := (s.wf Reg.HEDGE_AGES 15 8 0).clrBit Reg.HEDGE_STATUS 13 |>.level 182 false
  match s.hedge.query with
  | some q =>
    if s.hedgeRole = 3 ∧ beNat b 0 4 = q.id then
      { s with hedge := { s.hedge with verdict := some (beNat b 4 2, max (beNat b 8 8) (s.block + 1)) } }
    else s
  | none => s

/-! ### Handover: R428 -/

def startHandover (s : State) (h : Nat) : State :=
  { (s.setBit Reg.HEDGE_STATUS 15) with hedge := { s.hedge with handover := some h, echoed := false } }

def hedgeAccepted (s : State) : State := s.clrBit Reg.HEDGE_STATUS 16
def hedgeRefused (s : State) : State := s.setBit Reg.HEDGE_STATUS 16

/-- HEDGE.CMD.TRANSFER. -/
def hedgeTransfer (s : State) : State :=
  let v := s.rd64 Reg.HEDGE_HANDOVER_BLOCK_LO
  if s.hedgeOn && s.hedgeRole == 2 && s.hedgePeer == 1 && s.peerFlag 0 && s.rf Reg.HEDGE_STATUS 10 9 == 0 && !s.peerFlag 2 && !s.peerFlag 3 &&
    (v == 0 || decide (s.block + 6 ≤ v)) then
    s.hedgeAccepted.startHandover (if v = 0 then s.block + 12 else v)
  else if s.dev.part.hasHedge then s.hedgeRefused else s

/-- The revert condition of R428. -/
def mayRevert (s : State) : Bool :=
  s.hedgeOn && s.bitOf Reg.HEDGE_REVERT 12 && s.hedgePref == 1 && s.hedgeRole == 2 && s.hedgePeer == 1 && s.peerFlag 0 &&
  !s.peerFlag 2 && !s.peerFlag 6 && decide (0 < s.hedge.matching)

/-- REVERT_TIMER (R428): the condition has held for REVERT_HOLD seconds without a break. -/
def revertTimer (s : State) : State :=
  match s.hedge.revertSince with
  | some t =>
    if s.mayRevert && s.hedge.handover.isNone && decide (t + s.rf Reg.HEDGE_REVERT 11 0 * countsPerSecond ≤ s.uptime) then
      (s.startHandover (s.block + 12) : State)
    else s
  | none => s

/-- HEDGE.CMD.RESYNC and QUERY (R434), and CLEAR_COUNTS (R436). -/
def hedgeResync (s : State) : State := if s.hedgeOn then (s.hedgeAccepted).sendResync 4 else if s.dev.part.hasHedge then s.hedgeRefused else s
def hedgeQuery (s : State) : State :=
  if s.hedgeOn then
    let r := s.hedgeAccepted.takeQueryId
    r.1.sendQuery 3 r.2
  else if s.dev.part.hasHedge then s.hedgeRefused else s
def hedgeClearCounts (s : State) : State :=
  if s.dev.part.hasHedge then s.hedgeAccepted.resetRegs ((List.range 13).map fun k => Reg.HEDGE_PEER_LOSSES + 4 * k) else s

def hedgeCommand (s : State) (v : Word) : State :=
  let s := if bitAt v 0 then s.hedgeClearCounts else s
  let s := if bitAt v 1 then s.hedgeTransfer else s
  let s := if bitAt v 2 then s.hedgeResync else s
  if bitAt v 3 then s.hedgeQuery else s

/-! ### Epochs: R429 to R432 -/

/-- Send an epoch: its parts, then the commit. -/
def sendEpoch (s : State) (n target : Nat) (full : Bool) (us : List GaugeUpdate) : State :=
  let parts := packParts (us.map epochEntry)
  let s := s.over parts.zipIdx fun t p =>
    t.sendPeer 5 (beBytes 4 n ++ beBytes 2 p.2 ++ beBytes 2 parts.length ++ beBytes 8 target ++ p.1)
  let s := s.sendPeer 6 (beBytes 4 n ++ beBytes 2 parts.length ++ beBytes 2 (b2n full) ++ beBytes 8 target ++
    beBytes 4 (crc32c parts.flatten) ++ [0, 0, 0, 0])
  let s := s.wr Reg.HEDGE_EPOCH_ISSUED (BitVec.ofNat 32 n)
  { s with hedge := { s.hedge with epochs := s.hedge.epochs ++ [(n, target)] } }

/-- What a FULL epoch carries (R432). -/
def fullState (s : State) (target : Nat) : List GaugeUpdate :=
  let outs := (s.pat.versions.map fun v => v.region.policies.map fun p => (List.range p.count).map (p.first + ·)).flatten.flatten.eraseDups
  (outs.map fun j => [⟨j, target, .limiter (s.rd (Reg.SPK_LIM_OFFSET j)).toInt⟩, ⟨j, target, .mute (s.bitOf (Reg.SPK_STATUS j) 7)⟩,
    ⟨j, target, .invert (s.bitOf (Reg.SPK_STATUS j) 8)⟩, ⟨j, target, .topiary (s.corrVector j)⟩]).flatten

/-- EPOCH_ISSUE (R429, R432): the epoch of the earliest target among the updates decided and not yet sent, or the FULL
epoch that a RESYNC_REQUEST asked for. -/
def epochIssue (s : State) : State :=
  if !(s.hedgeOn && s.hedgeRole == 2) then s
  else
    let n := (s.rd Reg.HEDGE_EPOCH_ISSUED).toNat + 1
    match s.hedge.unsent with
    | u :: r =>
      let t := r.foldl (fun a x => min a x.target) u.target
      let mine := s.hedge.unsent.filter fun x => x.target == t
      { s.sendEpoch n t false mine with hedge := { (s.sendEpoch n t false mine).hedge with unsent := s.hedge.unsent.filter fun x => x.target != t } }
    | [] =>
      if s.hedge.fullAsked then
        let t := s.block + max 48 (s.af Reg.GAUGE_EPOCH_CFG 25 16)
        { s.sendEpoch n t true (s.fullState t) with hedge := { (s.sendEpoch n t true (s.fullState t)).hedge with fullAsked := false } }
      else s

/-- The last epoch applied or accepted. -/
def lastEpoch (s : State) : Nat := s.hedge.epochs.foldl (fun a e => max a e.1) (s.rd Reg.HEDGE_EPOCH_APPLIED).toNat

/-- A complete epoch whose CRC matches and whose commit came in time acts at its target; a complete one that does not is
discarded whole (R430). -/
def tryEpoch (s : State) (n : Nat) : State :=
  match s.hedge.incoming.find? fun e => e.number == n with
  | none => s
  | some e =>
    match e.commit with
    | none => s
    | some (parts, full, crc) =>
      let got := (List.range parts).map fun k => Assoc.get? k e.parts
      if got.any Option.isNone then s
      else
        let bytes := (got.map fun p => p.getD []).flatten
        let us := parseEntries e.target (bytes.length + 1) bytes
        let late : Bool := match us with | some l => decide (e.target ≤ e.commitAt + (if hasTopiary l then 32 else 1)) | none => true
        if crc ≠ crc32c bytes ∨ late then s.discardEpochs [e]
        else
          let l := us.getD []
          let s : State := { s with gauge := { s.gauge with updates := s.gauge.updates ++ l }
                                    hedge := { s.hedge with incoming := s.hedge.incoming.filter fun x => x.number != n
                                                            epochs := s.hedge.epochs ++ [(n, e.target)]
                                                            fullAt := if full then some e.target else s.hedge.fullAt } }
          s.over l fun t u => match u.kind with | .topiary v => t.prepareTopiary u.out v | _ => t

/-- The epoch with a number, entered when it is new; a gap in the numbers asks for a FULL epoch (R430). -/
def openEpoch (s : State) (n target : Nat) (full : Bool) : State × EpochIn :=
  match s.hedge.incoming.find? fun e => e.number == n with
  | some e => (s, e)
  | none =>
    let e : EpochIn := { number := n, target := target }
    let gap := !full && n != s.lastEpoch + 1
    let s : State := { s with hedge := { s.hedge with incoming := s.hedge.incoming ++ [e] } }
    (if gap then s.sendResync 2 else s, e)

def putEpoch (s : State) (e : EpochIn) : State :=
  { s with hedge := { s.hedge with incoming := s.hedge.incoming.map fun x => if x.number = e.number then e else x } }

/-- EPOCH_DATA and EPOCH_COMMIT at a unit that is not the holder. -/
def takeEpochData (s : State) (b : List Byte) : State :=
  let r := s.openEpoch (beNat b 0 4) (beNat b 8 8) false
  (r.1.putEpoch { r.2 with parts := Assoc.put (beNat b 4 2) (b.drop 16) r.2.parts }).tryEpoch (beNat b 0 4)

def takeEpochCommit (s : State) (b : List Byte) : State :=
  let full := beNat b 6 2 % 2 == 1
  let r := s.openEpoch (beNat b 0 4) (beNat b 8 8) full
  (r.1.putEpoch { r.2 with target := beNat b 8 8, commit := some (beNat b 4 2, full, beNat b 16 4), commitAt := s.block }).tryEpoch (beNat b 0 4)

/-! ### Checksums: R431 -/

/-- The checksum of audio block `a`, whose samples are those of OXP ticks 32 (a + 2) on. -/
def blockChecksum (s : State) (a : Nat) : Nat :=
  let rows := (List.range 32).map fun i => (s.net.sendRing.lookup (32 * (a + 2) + i)).getD []
  Nat.xor ((List.range 640).foldl (fun c ch => rows.foldl (fun c row => (leBytes 4 (int32 ((row.lookup ch).getD 0))).foldl crcByte c) c) 0xFFFFFFFF) 0xFFFFFFFF

/-- Compare the peer's checksum with the unit's own for the same block, once. -/
def compareChecks (s : State) : State :=
  match s.hedge.peer with
  | none => s
  | some p =>
    match s.hedge.checks.lookup p.chkBlock with
    | none => s
    | some own =>
      if p.chkBlock < s.hedge.compared then s
      else
        let ok := own == p.checksum
        let s : State := { s with hedge := { s.hedge with compared := p.chkBlock + 1, matching := if ok then s.hedge.matching + 1 else 0 } }
        let s := (s.wr Reg.HEDGE_PEER_CHECKSUM (BitVec.ofNat 32 p.checksum))
        if ok then (if 4 ≤ s.hedge.matching then s.setDiverged false else s)
        else if s.bitOf Reg.HEDGE_STATUS 8 || s.peerFlag 1 then s
        else
          let s := s.count Reg.HEDGE_MISMATCHES
          if s.hedgeRole = 2 then s else (((s.setDiverged true).sendResync 1).count Reg.HEDGE_RESYNCS).event 183

/-! ### Taint and withholding: R420, R421 -/

/-- Counters whose growth is a taint cause. -/
def taintCounts (s : State) : List Nat :=
  let sum (l : List Nat) : Nat := l.foldl (fun a o => a + (s.rd o).toNat) 0
  let ports := List.range s.dev.part.casPorts
  [sum [Reg.CAS_IMPORT_CONCEAL], sum [Reg.CAS_MIX_ABSENT], sum (s.store.stems.map fun e => Reg.STEM_UNDERRUNS e.1),
   sum (s.tdm.map fun e => Reg.TDM_SLIPS_RX e.1), sum (s.tdm.map fun e => Reg.TDM_SLIPS_TX e.1), s.hedge.zeroBlocks,
   sum ((List.range s.dev.part.dramChannels).map Reg.DRAM_MIGRATE_UE),
   if s.imports.isEmpty && !(ports.any s.casSource) then 0 else sum (ports.map Reg.CAS_CRC_ERRORS)]

/-- A cause of R420 is active, or has occurred since the last boundary. -/
def taintCause (s : State) : Bool :=
  s.bitOf Reg.SCHED_STATUS 0 || (s.rndr.logical.any fun e => e.2.fault.isSome) || (s.omd.obj.any fun e => e.2.needleOut.isSome) ||
  s.rd Reg.SKEIN_STARVED_NOW != 0 || (s.tdm.any fun e => s.tdmEnabled e.1 && (s.tdmState e.1 == 3 || s.tdmState e.1 == 4)) ||
  (s.net.rx.any fun e => s.rxsEnabled e.1 && s.bitOf (Reg.RXS_STATUS e.1) 1) ||
  ((s.taintCounts.zip s.hedge.counts).any fun e => decide (e.2 < e.1))

/-- The unit is tainted from here on. The first audio block touched is taken as the one that the output stage has in hand. -/
def markTaint (s : State) : State :=
  if s.hedgeOn && s.taintCause && !s.bitOf Reg.HEDGE_STATUS 8 then
    { (s.setBit Reg.HEDGE_STATUS 8) with hedge := { s.hedge with taintFrom := some (s.block - 2) } }
  else s

/-- R421: a tainted unit may withhold. -/
def mayWithhold (s : State) : Bool :=
  s.bitOf Reg.HEDGE_CTRL 2 && s.hedgePeer == 1 && s.peerFlag 0 && !(s.hedgeRole == 2 && s.peerFlag 2)

/-- WITHHOLD_START (R420). -/
def withholdStart (s : State) : State :=
  let s := s.markTaint
  if s.hedgeOn && s.bitOf Reg.HEDGE_STATUS 8 && !s.hedge.holding && s.mayWithhold then
    let s : State := { s with hedge := { s.hedge with holding := true } }
    s.reportWithhold.event 186
  else s

/-- Taint and withholding at a block boundary. -/
def taintBoundary (s : State) : State :=
  let s := s.markTaint
  let ends := s.bitOf Reg.HEDGE_STATUS 8 && !s.taintCause && decide (4 ≤ s.hedge.matching)
  let s := if ends then { (s.clrBit Reg.HEDGE_STATUS 8) with hedge := { s.hedge with taintFrom := none, holding := false } } else s
  let s : State := { s with hedge := { s.hedge with holding := s.hedge.holding && s.mayWithhold, counts := s.taintCounts } }
  s.reportWithhold

/-! ### Heartbeats: R422, R423, R425, R428, R431 -/

/-- The peer is present again, or for the first time (R422, R424, R431). -/
def peerPresent (s : State) : State :=
  let joining := s.hedgePeer == 0 && s.peerRole == 2 && s.hedgeRole != 2
  let s := (s.wf Reg.HEDGE_STATUS 3 2 1).event 177
  let s := if s.hedgeRole = 3 then
      let s := s.wf Reg.HEDGE_STATUS 1 0 (if s.hedge.drives then 2 else 1)
      { s with hedge := { s.hedge with query := none, verdict := none, drives := false } }
    else s
  if joining then (s.setDiverged true).sendResync 3 else s

def takeHeartbeat (s : State) (b : List Byte) : State :=
  let p : PeerReport := ⟨beNat b 0 1, beNat b 1 1, beNat b 2 2, beNat b 4 4, beNat b 8 4, beNat b 12 4, beNat b 16 8, beNat b 24 8⟩
  let healthy := p.flags % 2 == 1
  let s : State := { s with hedge := { s.hedge with peer := some p, heard := true, unhealthy := if healthy then 0 else s.hedge.unhealthy + 1 } }
  let s := (s.wr Reg.HEDGE_PEER_EPOCH (BitVec.ofNat 32 p.epoch)).wf Reg.HEDGE_AGES 7 0 0
  let s := s.putBit Reg.HEDGE_STATUS 11 (natField p.flags 2 2 == 1)
  let s := if s.hedgePeer ≠ 1 ∧ (healthy ∨ s.hedgePeer = 0) then s.peerPresent else s
  let same := natField p.flags 6 6 == s.hedgePref
  let s := if same then s else s.clrBit Reg.HEDGE_STATUS 17
  let differs := p.crc != (s.rd Reg.PAT_ACTIVE_CRC).toNat
  let rose := differs && !s.bitOf Reg.HEDGE_STATUS 14
  let s := (s.putBit Reg.HEDGE_STATUS 14 differs).reportWithhold
  let s := if rose then s.event 187 else s
  -- Dual control (R425).
  let dual := s.hedgeRole == 2 && p.role == 2
  let s := if dual && !s.hedge.dualRaised then { s.event 181 with hedge := { (s.event 181).hedge with dualRaised := true } }
    else if dual then s else { s with hedge := { s.hedge with dualRaised := false } }
  let yields := dual && (decide (basisRank s.hedgeBasis < basisRank p.basis) ||
    (basisRank p.basis == basisRank s.hedgeBasis && decide (s.hedgeOther < s.hedgeOwn)))
  let s := s.putBit Reg.HEDGE_STATUS 12 dual
  let s : State := { s with hedge := { s.hedge with yielding := s.hedge.yielding || yields } }
  -- Handover (R428): the peer of a holder echoes H, and a cancellation ends it.
  let s := if s.hedgeRole = 2 then
      (if natField p.flags 4 4 = 1 ∧ s.hedge.handover = some p.handover then { s with hedge := { s.hedge with echoed := true } } else s)
    else if p.role = 2 then
      (if 0 < p.handover then (s.startHandover p.handover : State)
       else { (s.clrBit Reg.HEDGE_STATUS 15) with hedge := { s.hedge with handover := none } })
    else s
  s.compareChecks

/-- HEDGE_MESSAGE (R433): the payload of a datagram on port 49352. -/
def hedgeMessage (s : State) (m : List Byte) : State :=
  if !s.hedgeOn then s
  else
    let n := beNat m 12 2
    let drop (t : State) : State :=
      let t := t.count Reg.HEDGE_AUTH_FAILS
      if t.hedge.authRaised then t else { t.event 189 with hedge := { (t.event 189).hedge with authRaised := true } }
    let key := ((s.net.slots[beNat m 2 1]?).getD {}).key
    let sender := beNat m 4 2
    let arbiter := sender == 0xFFFF
    let type := beNat m 1 1
    let tagOk := match key with
      | some k => decide (m.length = 56 + n) && decide (n ≤ 1416) && decide (beNat m 2 1 < 16) && hmacSha256 k (m.take (24 + n)) == m.drop (24 + n)
      | none => false
    let formOk := byteAt m 0 / 16 == 1 && decide (1 ≤ type) && decide (type ≤ 7) && beNat m 6 2 == s.hedgeOwn && (arbiter || sender == s.hedgeOther)
    if !tagOk || !formOk then drop s
    else
      let q := beNat m 8 4
      let old := if arbiter then s.hedge.arbWin else s.hedge.peerWin
      let put (w : SeqWindow) : State :=
        if arbiter then { s with hedge := { s.hedge with arbWin := some w } } else { s with hedge := { s.hedge with peerWin := some w } }
      let act (t : State) : State :=
        let b := (m.drop 24).take n
        match type with
        | 1 => if arbiter then t else t.takeHeartbeat b
        | 4 => if arbiter then t.takeVerdict b else t
        | 5 => if arbiter || t.hedgeRole == 2 then t else t.takeEpochData b
        | 6 => if arbiter || t.hedgeRole == 2 then t else t.takeEpochCommit b
        | 7 => if !arbiter && t.hedgeRole == 2 then { t with hedge := { t.hedge with fullAsked := true } } else t
        | _ => t
      match old with
      | none => act (put { last := q, seen := 1 })
      | some w =>
        if w.seenBefore q then s.count Reg.HEDGE_DUPLICATES
        else match w.take q with
          | (some w', true) => act (put w')
          | _ => drop s

/-- Authority changes that a boundary brings: a yield, a handover, and the first holder (R424, R425, R428). -/
def authorityBoundary (s : State) (b : Nat) : State :=
  let s := if s.hedge.yielding && s.hedgeRole == 2 then s.setAuthority false 0 else { s with hedge := { s.hedge with yielding := false } }
  let s := match s.hedge.handover with
    | none => s
    | some h =>
      let clear (t : State) : State := { (t.clrBit Reg.HEDGE_STATUS 15) with hedge := { t.hedge with handover := none, echoed := false } }
      if s.hedgeRole = 2 then
        if !s.hedge.echoed ∧ h ≤ b + 2 then { clear s with hedge := { (clear s).hedge with revertSince := some s.uptime } }
        else if h ≤ b then ((clear s).setAuthority false 0).event 188
        else s
      else if h ≤ b then ((clear s).setAuthority true 4).event 188
      else s
  let none' := s.hedgePeer == 1 && s.hedgeRole == 1 && s.peerRole != 2
  let s : State := { s with hedge := { s.hedge with noHolder := if none' then s.hedge.noHolder + 1 else 0 } }
  if s.hedge.noHolder < 2 then s
  else
    let conflict := s.peerFlag 6 == (s.hedgePref == 1)
    let s := if conflict then s.setBit Reg.HEDGE_STATUS 17 else s
    let wins := if conflict then decide (s.hedgeOwn < s.hedgeOther) else s.hedgePref == 0
    if wins then s.setAuthority true 1 else s

/-- The Hedge unit at the boundary that starts block `b`: authority, epochs due, the checksum, health, and the messages of
the block. -/
def hedgeBoundary (s : State) (b : Nat) : State :=
  if !s.hedgeOn then s
  else
    let h := s.hedge
    let s : State := { s with hedge := { h with missing := if h.heard then 0 else h.missing + 1, heard := false, authRaised := false } }
    let s := s.wf Reg.HEDGE_AGES 7 0 (min 255 s.hedge.missing)
    let s := s.wf Reg.HEDGE_AGES 15 8 (match s.hedge.arbAt with | some t => min 255 ((s.uptime - t) / 1048576) | none => 255)
    let lone := s.hedgePeer == 2 && (match s.hedge.arbAt with | some t => decide (s.arbTimeout ≤ s.uptime - t) | none => true)
    let s := (s.putBit Reg.HEDGE_STATUS 13 lone).level 182 lone
    let s := s.authorityBoundary b
    let s := if s.hedgeDrives && s.peerRole == 2 then s.count Reg.HEDGE_DUAL_BLOCKS else s
    -- Epochs whose target has come, and incomplete ones whose target has passed.
    let due := s.hedge.epochs.filter fun e => decide (e.2 ≤ b)
    let s : State := { s with hedge := { s.hedge with epochs := s.hedge.epochs.filter fun e => decide (b < e.2) } }
    let s := due.foldl (fun (t : State) e => t.wr Reg.HEDGE_EPOCH_APPLIED (BitVec.ofNat 32 e.1)) s
    let s := s.discardEpochs (s.hedge.incoming.filter fun e => decide (e.target ≤ b))
    let s := if b < 3 then s else
      let c := s.blockChecksum (b - 3)
      { (s.wr Reg.HEDGE_CHECKSUM (BitVec.ofNat 32 c)) with hedge := { s.hedge with checks := ((b - 3, c) :: s.hedge.checks).take 64 } }
    let s := (s.compareChecks).taintBoundary
    let s : State := { s with hedge := { s.hedge with revertSince := if s.mayRevert then (match s.hedge.revertSince with | some t => some t | none => some s.uptime) else none } }
    let s := s.putBit Reg.HEDGE_STATUS 7 s.hedgeHealthy
    let s := s.sendPeer 1 s.heartbeatBody
    if s.addrWords (Reg.HEDGE_ARB_ADDR 0) = 0 then s else s.sendArbiter 2 s.heartbeatBody

/-- DIVERGENCE_PERSISTS (R432): the settling time past the last FULL epoch has run out. -/
def divergencePersists (s : State) : State :=
  match s.hedge.fullAt with
  | some t => if s.hedgeOn && s.bitOf Reg.HEDGE_STATUS 10 && decide (t + 4 ≤ s.block) then { s.event 184 with hedge := { (s.event 184).hedge with fullAt := none } } else s
  | none => s

/-- The commit of HEDGE_CONFIG (R418), or its absence in a full load. -/
def commitHedge (s : State) (own : Nat) (c : Option HedgeCfg) : State :=
  if !s.dev.part.hasHedge then s
  else
    let s : State := { s with hedge := { s.hedge with peer := none, heard := false, missing := 0, unhealthy := 0, noHolder := 0, query := none, drives := false, verdict := none, yielding := false, handover := none, echoed := false, revertSince := none, matching := 0, taintFrom := none, holding := false, unsent := [], fullAsked := false, incoming := [], epochs := [], fullAt := none } }
    let s := s.wr Reg.HEDGE_STATUS 0
    match c with
    | none => s
    | some c =>
      let s := s.wf Reg.HEDGE_CFG 25 16 (if c.arbTimeout = 0 then 20 else c.arbTimeout)
      let s := s.wr Reg.HEDGE_REVERT (BitVec.ofNat 32 (c.revertHold + b2n c.autoRevert * 2 ^ 12 + b2n c.secondary * 2 ^ 13))
      let s := s.wr Reg.HEDGE_IDS (BitVec.ofNat 32 (own + c.peer * 65536))
      let s := s.over (List.range 4) fun t k => t.wr (Reg.HEDGE_ARB_ADDR k) (BitVec.ofNat 32 (c.arbiter / 2 ^ (32 * (3 - k))))
      ((s.setBit Reg.HEDGE_CTRL 0).wf Reg.HEDGE_STATUS 1 0 1).reportWithhold

end State

end Sys2Proof.Machine
end

