-- ==== Sys2Proof/Machine/PatParse.lean ====
section
/-! DEFINITION. The Pattern container: header (R28 to R30), region table (R31, R32) and records (R37 to R57), parsed from a byte
image with the rejection codes of R72. The bytes that an image lacks read as zero. -/

namespace Sys2Proof.Machine

/-- A rejection: CODE, REGION, RECORD_TYPE and REJECT_OFFSET (R65). -/
structure Reject where
  code : Nat
  region : Nat := 0x7F
  rtype : Nat := 0
  off : Nat := 0
  deriving DecidableEq, Repr

abbrev Check := Except Reject

/-- The check fails with `r` unless `ok`. -/
def need (ok : Bool) (r : Reject) : Check Unit := if ok then .ok () else .error r

/-- Every element passes, in order. -/
def each {α : Type} (f : α → Check Unit) : List α → Check Unit
  | [] => .ok ()
  | a :: l => match f a with | .error r => .error r | .ok _ => each f l

def parseAll {α β : Type} (f : α → Check β) : List α → Check (List β)
  | [] => .ok []
  | a :: l => match f a with
    | .error r => .error r
    | .ok b => match parseAll f l with | .error r => .error r | .ok bs => .ok (b :: bs)

/-- `n` bytes from offset `o`. -/
def slice (b : List Byte) (o n : Nat) : List Byte := (b.drop o).take n

/-- A number has no bit set outside the low `w`. -/
def fits (w n : Nat) : Bool := decide (n < 2 ^ w)

/-! ### Header and signature: steps 2 to 5 of R71 -/

structure Header where
  total : Nat
  caps : Nat
  build : Nat
  count : Nat
  flags : Nat
  time : Nat
  crc : Nat
  base : Nat
  deriving DecidableEq, Repr

def readHeader (b : List Byte) : Header :=
  { total := leNat b 0x08 4, caps := leNat b 0x0C 4, build := leNat b 0x10 4, count := leNat b 0x14 2, flags := leNat b 0x16 2,
    time := leNat b 0x18 8, crc := leNat b 0x20 4, base := leNat b 0x28 4 }

def Header.key (h : Header) : Nat := h.flags % 4
def Header.update (h : Header) : Bool := h.flags / 4 % 2 == 1
def Header.boot (h : Header) : Bool := h.flags / 8 % 2 == 1

/-- Step 2: the header form; `lengthOk` is what the source demands of TOTAL_LENGTH (code 0x04). -/
def checkForm (b : List Byte) (lengthOk : Nat → Bool) : Check Header :=
  let h := readHeader b
  match need (beNat b 0 4 == 0x46524E50) ⟨0x01, 0x7F, 0, 0x00⟩ with
  | .error r => .error r
  | .ok _ =>
  match need (byteAt b 5 == 3) ⟨0x02, 0x7F, 0, 0x04⟩ with
  | .error r => .error r
  | .ok _ =>
  match need (leNat b 6 2 == 64) ⟨0x03, 0x7F, 0, 0x06⟩ with
  | .error r => .error r
  | .ok _ =>
  match need (decide (h.total ≤ 0x10000000) && lengthOk h.total && decide (h.total ≤ b.length) && decide (64 + 32 * h.count + 192 ≤ h.total))
    ⟨0x04, 0x7F, 0, 0x08⟩ with
  | .error r => .error r
  | .ok _ =>
  match need (leNat b 0x24 4 == h.total - 96) ⟨0x05, 0x7F, 0, 0x24⟩ with
  | .error r => .error r
  | .ok _ =>
  match need (fits 4 h.flags) ⟨0x06, 0x7F, 0, 0x16⟩ with
  | .error r => .error r
  | .ok _ =>
  match need (leNat b 0x2C 20 == 0) ⟨0x06, 0x7F, 0, 0x2C⟩ with
  | .error r => .error r
  | .ok _ => .ok h

/-- The CRC-32C of the header, its CRC field taken as zero, and the region table (R30). -/
def containerCrc (b : List Byte) (count : Nat) : Nat :=
  crc32c (slice b 0 0x20 ++ leBytes 4 0 ++ slice b 0x24 (0x1C + 32 * count))

/-- Key slot, revocation, key hash and signature (R62): the codes of the first condition that fails. -/
def checkSignature (d : Device) (revoked key : Nat) (b : List Byte) (total : Nat) : Check Unit :=
  let slot := d.keyHash.getD key 0
  let block := slice b (total - 192) 96
  if slot = 0 then .error ⟨0x10, 0x7F, 0, 0x16⟩
  else if revoked / 2 ^ key % 2 = 1 then .error ⟨0x11, 0x7F, 0, 0x16⟩
  else if beNat (sha384 block) 0 48 ≠ slot then .error ⟨0x12, 0x7F, 0, total - 192⟩
  else need (ecdsaP384 (beNat block 0 48) (beNat block 48 48) (beNat b (total - 96) 48) (beNat b (total - 48) 48)
    (beNat (sha384 (slice b 0 (total - 96))) 0 48)) ⟨0x13, 0x7F, 0, total - 96⟩

/-- Steps 2 to 5 of R71. -/
def checkOuter (d : Device) (revoked : Nat) (b : List Byte) (lengthOk : Nat → Bool) : Check Header :=
  match checkForm b lengthOk with
  | .error r => .error r
  | .ok h =>
    if containerCrc b h.count ≠ h.crc then .error ⟨0x08, 0x7F, 0, 0x20⟩
    else match checkSignature d revoked h.key b h.total with | .error r => .error r | .ok _ => .ok h

/-! ### Region table: R31 -/

structure TableEntry where
  index : Nat
  id : Nat
  kind : Nat
  priority : Nat
  rflags : Nat
  off : Nat
  len : Nat
  deps : Nat
  tiles : Nat
  needles : Nat
  pages : Nat
  dram : Nat
  reserved : Nat
  crc : Nat
  deriving DecidableEq, Repr

def tableEntry (b : List Byte) (i : Nat) : TableEntry :=
  let e := slice b (64 + 32 * i) 32
  { index := i, id := byteAt e 0, kind := byteAt e 1, priority := byteAt e 2, rflags := byteAt e 3, off := leNat e 4 4, len := leNat e 8 4,
    deps := leNat e 0x0C 8, tiles := byteAt e 0x14, needles := byteAt e 0x15, pages := leNat e 0x16 2, dram := leNat e 0x18 2,
    reserved := leNat e 0x1A 2, crc := leNat e 0x1C 4 }

def TableEntry.no (e : TableEntry) (code o : Nat) : Reject := ⟨code, if e.id < 64 then e.id else 0x7F, 0, 64 + 32 * e.index + o⟩

def maskList (m : Nat) : List Nat := (List.range 64).filter fun k => m / 2 ^ k % 2 == 1

/-- Step 8: count, IDs, kinds, extents and the rule of region 0 (R31, R32, R58). -/
def checkTable (h : Header) (l : List TableEntry) : Check Unit :=
  let before (e : TableEntry) := l.take e.index
  match need (decide (1 ≤ h.count) && decide (h.count ≤ 64)) ⟨0x30, 0x7F, 0, 0x14⟩ with
  | .error r => .error r
  | .ok _ =>
  match each (fun e => need (decide (e.id < 64) && (before e).all fun x => x.id != e.id) (e.no 0x31 0)) l with
  | .error r => .error r
  | .ok _ =>
  match each (fun (e : TableEntry) => each (fun (c : Bool × Nat) => need c.1 (e.no 0x39 c.2))
      [(decide (e.kind < 6) && (e.kind == 0) == (e.id == 0), 1), (e.id != 0 || e.priority == 255, 2), (fits 1 e.rflags, 3), (e.reserved == 0, 0x1A)]) l with
  | .error r => .error r
  | .ok _ =>
  match each (fun e => need (e.off % 64 == 0 && e.len % 8 == 0 && decide (64 + 32 * h.count ≤ e.off) && decide (e.off + e.len ≤ h.total - 192) &&
      (before e).all fun x => !State.overlap e.off e.len x.off x.len) (e.no 0x33 4)) l with
  | .error r => .error r
  | .ok _ => need ((l.any fun e => e.id == 0) != h.update) ⟨0x32, 0x7F, 0, 64⟩

/-! ### Records: R37 to R39 -/

/-- A record, or an entry of one: its region, type, place in the image and bytes. -/
structure Rec where
  rid : Nat
  type : Nat
  pos : Nat
  v : List Byte

def Rec.no (r : Rec) (code o : Nat) : Reject := ⟨code, r.rid, r.type, r.pos + o⟩
def Rec.need (r : Rec) (ok : Bool) (o : Nat) (code : Nat := 0x43) : Check Unit := Machine.need ok (r.no code o)
def Rec.u8 (r : Rec) (o : Nat) : Nat := byteAt r.v o
def Rec.u16 (r : Rec) (o : Nat) : Nat := leNat r.v o 2
def Rec.u32 (r : Rec) (o : Nat) : Nat := leNat r.v o 4
def Rec.s32 (r : Rec) (o : Nat) : Int := signExt 32 (leNat r.v o 4)
def Rec.word (r : Rec) (o : Nat) : Word := BitVec.ofNat 32 (leNat r.v o 4)
def Rec.point (r : Rec) (o : Nat) : Pos := ⟨r.s32 o, r.s32 (o + 4), r.s32 (o + 8)⟩

/-- `n` entries of `size` bytes from offset `o`. -/
def Rec.items (r : Rec) (o size n : Nat) : List Rec :=
  (List.range n).map fun i => { r with pos := r.pos + o + size * i, v := slice r.v (o + size * i) size }

/-- The conditions of a list of (condition, offset) pairs, with one code. -/
def Rec.all (r : Rec) (code : Nat) (l : List (Bool × Nat)) : Check Unit := each (fun (c : Bool × Nat) => r.need c.1 c.2 code) l

/-- The entries of a record that is a sequence of `size`-byte entries. -/
def Rec.sequence (r : Rec) (size : Nat) : Check (List Rec) :=
  if r.v.length % size = 0 then .ok (r.items 0 size (r.v.length / size)) else .error (r.no 0x43 (r.v.length / size * size))

/-- Kinds in which a record type may appear (R38): all for an unknown type. -/
def recordKinds (t : Nat) : List Nat :=
  match t with
  | 0x0010 => [0, 1] | 0x0011 => [0, 1] | 0x0020 => [0, 1] | 0x0040 => [0, 1]
  | 0x0050 => [0, 1, 2, 3] | 0x0051 => [0, 1, 2, 3]
  | 0x0060 => [0, 2] | 0x0070 => [0, 2] | 0x0080 => [0] | 0x0081 => [0, 3] | 0x0090 => [0, 4] | 0x00A0 => [0, 5]
  | 0x00B0 => [0] | 0x00C0 => [0] | _ => [0, 1, 2, 3, 4, 5]

def recordKnown (t : Nat) : Bool :=
  [0x0001, 0x0010, 0x0011, 0x0020, 0x0030, 0x0031, 0x0040, 0x0050, 0x0051, 0x0060, 0x0070, 0x0080, 0x0081, 0x0090, 0x00A0, 0x00B0, 0x00C0,
    0x00F0, 0xFFFF].contains t

/-- Types of which a region holds at most one (R38). -/
def recordOnce (t : Nat) : Bool := [0x0001, 0x0030, 0x0031, 0x0040, 0x0080, 0x00B0, 0x00C0].contains t

/-- The records of a body at image offset `pos`, END left out; unknown OPTIONAL records are skipped. -/
def splitRecords (rid kind : Nat) : Nat → Nat → List Byte → List Nat → Check (List Rec)
  | 0, pos, _, _ => .error ⟨0x40, rid, 0, pos⟩
  | fuel + 1, pos, b, seen =>
    let t := leNat b 0 2
    let rfl := leNat b 2 2
    let len := leNat b 4 4
    let pad := (len + 7) / 8 * 8
    let r : Rec := { rid := rid, type := t, pos := pos, v := slice b 8 len }
    if b.length < 8 ∨ b.length < 8 + pad then .error ⟨0x40, rid, if b.length < 8 then 0 else t, pos⟩
    else if (seen.isEmpty && t != 1) || leNat b (8 + len) (pad - len) != 0 || (t == 0xFFFF && (len != 0 || b.length != 8)) then .error (r.no 0x40 0)
    else if !fits 1 rfl then .error (r.no 0x43 2)
    else if !recordKnown t && rfl == 0 then .error (r.no 0x41 0)
    else if !(recordKinds t).contains kind || (recordOnce t && seen.contains t) then .error (r.no 0x42 0)
    else if t = 0xFFFF then .ok []
    else match splitRecords rid kind fuel (pos + 8 + pad) (b.drop (8 + pad)) (t :: seen) with
      | .error e => .error e
      | .ok l => .ok (if recordKnown t then { r with pos := pos + 8 } :: l else l)

/-! ### Record layouts: R40 to R56 -/

/-- A unit number within its family range, or the code; absent on the device, 0x21 (R36). -/
def Rec.unit (r : Rec) (inFamily present : Bool) (o : Nat) (code : Nat := 0x43) : Check Unit :=
  if !inFamily then .error (r.no code o) else r.need present o 0x21

/-- R40. -/
def parseInfo (e : TableEntry) (g : Region) (r : Rec) : Check Region :=
  let x := r.u16 4
  match r.all 0x43 [(r.v.length == 32, 0), (r.u8 0 == e.id, 0), (r.u8 1 == e.kind, 1), (r.u16 2 == 0, 2),
      (x == 0 || (decide (64 ≤ x) && decide (x ≤ 1024)), 4), (r.u16 6 == 0, 6), (e.id == 0 || leNat r.v 0x10 12 == 0, 0x10)] with
  | .error x => .error x
  | .ok _ => .ok { g with xfade := if x = 0 then 256 else x, loads := [r.u16 8, r.u16 10, r.u16 12, r.u16 14], origin := r.point 0x10, version := r.u32 0x1C }

/-- R41. -/
def parseZone (r : Rec) : Check Zone :=
  let law := r.u8 1
  let x := r.u16 4
  match r.all 0x43 [(decide (r.u8 0 < 64), 0), (decide (law < 3), 1), (r.u8 3 == 0, 3),
      (if law = 2 then decide (200 ≤ x) && decide (x ≤ 2000) else x == 0, 4), (r.u16 6 == 0, 6),
      (decide (300 * 65536 ≤ r.u32 8) && decide (r.u32 8 ≤ 380 * 65536), 8), (decide (r.u32 12 ≤ 18432000), 12)] with
  | .error x => .error x
  | .ok _ => .ok ⟨r.u8 0, law, r.u8 2, x, r.u32 8, r.u32 12⟩

/-- A speaker entry of R42. -/
def parseSpeaker (p : Part) (r : Rec) : Check (Nat × Pos) :=
  match r.unit (decide (r.u16 0 < 512)) (decide (r.u16 0 < p.speakers)) 0 with
  | .error x => .error x
  | .ok _ => if r.u16 2 = 0 then .ok (r.u16 0, r.point 4) else .error (r.no 0x43 2)

/-- A triangle entry of R42, checked under R133. -/
def parseTriangle (spk : List (Nat × Pos)) (r : Rec) : Check (Nat × Nat × Nat) :=
  match spk[r.u16 0]?, spk[r.u16 2]?, spk[r.u16 4]? with
  | some a, some b, some c => if r.u16 6 = 0 ∧ triangleBad a.2 b.2 c.2 = false then .ok (r.u16 0, r.u16 2, r.u16 4) else .error (r.no 0x43 0)
  | _, _, _ => .error (r.no 0x43 0)

/-- R42. -/
def parseSet (p : Part) (r : Rec) : Check SpeakerSet :=
  let n := r.u16 2
  let t := r.u16 4
  match r.all 0x43 [(decide (r.u8 0 < 64), 0), (r.u8 1 == 0, 1), (decide (1 ≤ n) && decide (n ≤ 512), 2), (decide (t ≤ 1020), 4), (r.u16 6 == 0, 6),
      (r.v.length == 8 + 16 * n + 8 * t, 0)] with
  | .error x => .error x
  | .ok _ =>
    match parseAll (parseSpeaker p) (r.items 8 16 n) with
    | .error x => .error x
    | .ok spk => match parseAll (parseTriangle spk) (r.items (8 + 16 * n) 8 t) with
      | .error x => .error x
      | .ok tri => .ok ⟨r.u8 0, spk, tri⟩

/-- R43. -/
def parseGroup (p : Part) (r : Rec) : Check ObjGroup :=
  match r.all 0x43 [(r.v.length == 8, 0), (decide (r.u8 0 < 64), 0), (fits 1 (r.u8 1), 1), (fits 1 (r.u8 2), 2), (r.u8 3 == 0, 3), (decide (1 ≤ r.u16 6), 6)] with
  | .error x => .error x
  | .ok _ =>
    match r.unit (decide (r.u16 4 + r.u16 6 ≤ 1024)) (decide (r.u16 4 + r.u16 6 ≤ p.objects)) 6 with
    | .error x => .error x
    | .ok _ => .ok ⟨r.u8 0, r.u8 1 == 1, r.u8 2 == 1, r.u16 4, r.u16 6⟩

/-- The OPERAND of a node names present units (R36, R45, R247). -/
def operandCheck (p : Part) (r : Rec) : Check Unit :=
  let x := r.u32 12
  match r.u8 2 with
  | 0 => r.unit (decide (x < 1024)) (decide (x < p.objects)) 12
  | 1 => r.unit (decide (x < 1024)) (decide (x < p.objects)) 12
  | 2 => r.unit (decide (x < 1024)) (decide (x < p.objects)) 12
  | 4 => r.unit (decide (x < 0x90000) && decide (x % 65536 < 512)) (decide (x % 65536 < p.speakers)) 12
  | 5 => r.unit (decide (x < 640)) (p.hasOutput x) 12
  | 6 => r.need (decide (x < 128)) 12
  | 7 => r.need p.hasGauge 3 0x21
  | _ => .ok ()

/-- R45. -/
def parseNode (p : Part) (r : Rec) : Check GNode :=
  match r.all 0x43 [(decide (r.u16 0 < 4096), 0), (decide (r.u8 2 < 8), 2), (decide (r.u8 3 < 6), 3),
      (decide (r.u16 4 < 1024) || r.u16 4 == 0xFFFF, 4), (decide (1 ≤ r.u16 6) && decide (r.u16 6 ≤ 8191), 6)] with
  | .error x => .error x
  | .ok _ =>
    match operandCheck p r with
    | .error x => .error x
    | .ok _ => if r.u8 3 = 5 ∧ p.hasGauge = false then .error (r.no 0x21 3) else .ok ⟨r.u16 0, r.u8 2, r.u8 3, r.u16 4, r.u16 6, r.u32 8, r.u32 12⟩

def parseEdge (r : Rec) : Check GEdge :=
  match r.all 0x43 [(decide (r.u16 0 < 4096), 0), (decide (r.u16 2 < 4096), 2), (decide (r.u8 4 < 64), 4), (fits 1 (r.u8 5), 5), (r.u16 6 == 0, 6)] with
  | .error x => .error x
  | .ok _ => .ok ⟨r.u16 0, r.u16 2, r.u8 4, r.u8 5 == 1⟩

/-- R47. -/
def parseTile (p : Part) (r : Rec) : Check TileEntry :=
  match r.unit (decide (r.u8 0 < 64)) (decide (r.u8 0 < p.activeTiles)) 0 with
  | .error x => .error x
  | .ok _ =>
    match r.all 0x43 [(decide (1 ≤ r.u8 1) && decide (r.u8 1 ≤ 16), 1), (r.u16 6 == 0, 6)] with
    | .error x => .error x
    | .ok _ => .ok ⟨r.u8 0, r.u8 1, r.u16 2, r.u16 4⟩

/-- R48. -/
def parseXp (p : Part) (ixp : Bool) (r : Rec) : Check XpEntry :=
  let d := r.u16 0
  let u := r.u16 2
  match r.unit (if ixp then decide (d < 1088) && decide (u < 1824) else decide (d < 640) && decide (u < 640))
      (if ixp then p.hasIxpNode u d else p.hasOxpNode u d) 0 0x49 with
  | .error x => .error x
  | .ok _ => .ok ⟨ixp, d, u, r.word 4⟩

/-- An operand marked "—" is zero, and the others lie in range (R240, R241). -/
def rowOperands (i : RowInstr) (slots first n : Nat) : Bool :=
  let a0 := i.a == 0
  let b0 := i.b == 0
  let slot := decide (i.b + rowSlots i.op ≤ slots)
  match i.op with
  | 0 => a0 && b0
  | 1 => (decide (i.a < 640) || i.a == 0x3FF) && b0
  | 2 => (decide (i.a < 640) || i.a == 0x3FF) && slot
  | 3 => a0 && b0
  | 4 => a0 && b0
  | 5 => decide (i.a < (if 512 < first + n then 8 else 16)) && slot
  | 6 => a0 && slot
  | 7 => a0 && slot
  | 8 => a0 && slot
  | 9 => a0 && b0
  | 10 => a0 && b0
  | 11 => decide (i.a + n ≤ 640) && b0
  | 12 => a0 && b0
  | 13 => a0 && b0
  | 0x3F => a0 && b0
  | _ => false

/-- The index of an opcode's first appearance. -/
def rowIndex (l : List RowInstr) (op : Nat) : Option Nat := l.findIdx? fun i => i.op == op

/-- R241 for the instruction list of a program: the index of the word at fault, or none. -/
def rowFault (l : List RowInstr) (slots first n : Nat) : Option Nat :=
  let times (op : Nat) : Nat := (l.filter fun i => i.op == op).length
  let before (a b : Nat) : Bool := match rowIndex l a, rowIndex l b with | some x, some y => decide (x < y) | none, some _ => false | _, none => true
  let states := (l.filter fun i => i.op == 5).map (·.a)
  match l.findIdx? fun i => !rowOperands i slots first n with
  | some k => some k
  | none =>
    if (l.getLast?.map (·.op)) ≠ some 0x3F then some (l.length - 1)
    else if (l.dropLast.any fun i => i.op == 0x3F) || times 10 != 1 || [3, 4, 6, 7, 9, 13, 12].any (fun op => decide (1 < times op)) ||
        !before 3 4 || !decide states.Nodup || (decide (0 < times 7) && !(before 7 13 && before 7 12)) ||
        (decide (512 < first + n) && [3, 4, 6, 13, 12].any fun op => decide (0 < times op)) then some 0
    else none

/-- R49, R241 to R243. -/
def parseProgram (p : Part) (r : Rec) : Check RowProgram :=
  let first := r.u16 2
  let n := r.u16 4
  let ni := r.u16 6
  let np := r.u16 8
  match r.all 0x43 [(decide (12 ≤ r.v.length), 0), (decide (1 ≤ n), 4), (r.u16 10 == 0, 10)] with
  | .error x => .error x
  | .ok _ =>
    match r.unit (decide (first + n ≤ 640)) ((List.range n).all fun i => p.hasOutput (first + i)) 2 with
    | .error x => .error x
    | .ok _ =>
      match r.all 0x47 [(decide (1 ≤ ni) && decide (ni ≤ 64), 6), (np % n == 0 && decide (np / n ≤ 256), 8)] with
      | .error x => .error x
      | .ok _ =>
        if r.v.length ≠ 12 + 4 * ni + 4 * np then .error (r.no 0x43 6)
        else
          let instr := (List.range ni).map fun i => r.u32 (12 + 4 * i)
          let prog : RowProgram := { id := r.u16 0, first := first, n := n, instr := instr, params := (List.range np).map fun i => r.word (12 + 4 * ni + 4 * i) }
          let l := instr.map rowInstr
          match rowFault l (np / n) first n with
          | some k => .error (r.no 0x47 (12 + 4 * k))
          | none =>
            if (l.any fun i => i.op == 12 || i.op == 13) && !p.hasGauge then .error (r.no 0x21 12)
            else
              let slot (o k : Nat) : Word := prog.params.getD (o * (np / n) + k) 0
              let bad := (List.range np).find? fun x =>
                let o := x / (np / n)
                let k := x % (np / n)
                match slotRange prog k (match capacitySlot prog k with | some c => (slot o c).toNat | none => 65535) with
                | none => false
                | some (lo, hi) => let v := slotValue prog k (slot o k); decide (v < lo) || decide (hi < v)
              match bad with
              | some x => .error (r.no 0x43 (12 + 4 * ni + 4 * x))
              | none => .ok prog

/-- A 32-bit sample list of an object, little-endian. -/
def leInts (b : List Byte) : List Int := (State.wordsOf b).map (·.toInt)

/-- R50, R241, R463. -/
def parseFilter (s : State) (r : Rec) : Check FilterSet :=
  let p := s.dev.part
  let first := r.u16 2
  let n := r.u16 4
  let src := r.u8 6
  let taps := r.u32 8
  let ref := r.u32 12
  let set (c : List Int) : FilterSet := ⟨r.u16 0, first, n, src, taps, ref, c⟩
  match r.all 0x43 [(decide (16 ≤ r.v.length), 0), (decide (1 ≤ n), 4), (decide (first + n ≤ 512), 2), (fits 1 src, 6), (r.u8 7 == 0, 7),
      (decide (64 ≤ taps) && decide (taps ≤ 32768), 8), (src == 1 || ref == 0, 12)] with
  | .error x => .error x
  | .ok _ =>
    match r.all 0x21 [(decide (first + n ≤ p.speakers), 2), (src == 0 || p.hasStore, 6)] with
    | .error x => .error x
    | .ok _ =>
      if src = 0 then
        if r.v.length = 16 + 4 * taps * n then .ok (set (leInts (r.v.drop 16))) else .error (r.no 0x43 8)
      else if r.v.length ≠ 16 then .error (r.no 0x43 12)
      else match Assoc.get? ref s.nand.objects with
        | none => .error (r.no 0x43 12)
        | some o =>
          if o.kind ≠ 2 ∨ o.bytes.length ≠ 4 * taps * n then .error (r.no 0x43 12)
          else if o.lost ≠ [] then .error (r.no 0x07 12)
          else .ok (set (leInts o.bytes))

/-- R51. -/
def parsePort (p : Part) (r : Rec) : Check PortCfg :=
  let c := r.u8 0
  let i := r.u8 1
  match r.all 0x43 [(decide (c < 4), 0), (r.u16 2 == 0, 2)] with
  | .error x => .error x
  | .ok _ =>
    match r.unit (match c with | 0 => decide (i < 2) | 1 => decide (i < 32) | 2 => decide (i < 4) | _ => decide (i < 16))
        (match c with | 2 => decide (i < p.casPorts) | 3 => decide (i < p.measInputs) | _ => true) 1 with
    | .error x => .error x
    | .ok _ => .ok ⟨c, i, [r.word 4, r.word 8, r.word 12]⟩

/-- R52. The rules of R353 that concern several streams are checked with the whole container. -/
def parseStream (r : Rec) : Check StreamCfg :=
  let tx := r.u8 0 == 1
  let rate := r.u8 4
  match r.all 0x43 [(fits 1 (r.u8 0), 0), (decide (r.u8 1 < 128), 1), (decide (1 ≤ r.u8 2) && decide (r.u8 2 ≤ 64), 2), (decide (r.u8 3 < 3), 3),
      (if tx then decide (rate < 2) else decide (rate < 5), 4), (decide (r.u8 5 < 4), 5),
      (decide (r.u16 6 + r.u8 2 ≤ (if tx then 640 else 1024)), 6),
      (if tx then r.u32 8 == 0 else decide (r.u32 8 * streamHz rate + packetFrames rate (r.u8 5) * 1000000000 ≤ 20000000 * streamHz rate), 8),
      (r.u16 0x1E == 0, 0x1E)] with
  | .error x => .error x
  | .ok _ => .ok ⟨tx, r.u8 1, r.u8 2, r.u8 3, rate, r.u8 5, r.u16 6, r.u32 8, beNat r.v 12 16, r.u16 0x1C⟩

/-- An entry of R53 with the payload area `area`, checked under R332. -/
def parseAction (area : List Byte) (r : Rec) : Check ActionCfg :=
  let kind := r.u8 1
  let packet := kind == 2 || kind == 3
  let off := r.u32 0x14
  let len := r.u16 0x18
  let pay := slice area off len
  match r.all 0x43 [(decide (kind < 5), 1), (fits 1 (r.u8 2), 2), (decide (r.u8 3 < (if packet then 2 else 16)), 3), (decide (r.u32 8 < 1000000000), 8),
      (if kind = 1 then decide (100 ≤ r.u32 12) else r.u32 12 == 0, 12),
      (decide (len ≤ 1472) && (if packet then decide (20 ≤ len) && decide (off + len ≤ area.length) else len == 0), 0x18),
      (decide (off + len ≤ 32768), 0x14), (kind != 2 || decide (135 ≤ len) || !(pay.take 16).all (· == 0), 0x18), (leNat r.v 0x1A 6 == 0, 0x1A)] with
  | .error x => .error x
  | .ok _ => .ok ⟨r.u8 0, kind, r.u8 2, r.u8 3, r.u32 4, r.u32 8, r.u32 12, r.u32 16, off, pay⟩

/-- R53. -/
def parseActions (r : Rec) : Check (List ActionCfg) :=
  let n := r.u16 0
  let area := r.v.drop (8 + 32 * n)
  match r.all 0x43 [(leNat r.v 2 6 == 0, 2), (decide (8 + 32 * n ≤ r.v.length), 0), (decide (area.length ≤ 32768), 8 + 32 * n)] with
  | .error x => .error x
  | .ok _ => parseAll (parseAction area) (r.items 8 32 n)

/-- R54, R289. -/
def parsePolicy (p : Part) (r : Rec) : Check GaugePolicy :=
  let lo := r.s32 8
  let hi := r.s32 12
  let k := r.u8 4
  let within (a b x : Int) : Bool := decide (a ≤ x) && decide (x ≤ b)
  match r.all 0x21 [(p.hasGauge, 0)] with
  | .error x => .error x
  | .ok _ =>
    match r.all 0x43 [(decide (k < 4), 4), (fits 1 (r.u8 5), 5), (r.u16 6 == 0, 6), (decide (1 ≤ r.u16 2), 2),
        (match k with
         | 0 => within (-2400) 0 lo && within 0 1200 hi
         | 1 => within (-2400) 0 lo && within 0 600 hi
         | 2 => decide (lo = 0) && within 0 1 hi
         | _ => within (-4000) 30000 lo && within (-4000) 30000 hi && decide (lo < hi), 8)] with
    | .error x => .error x
    | .ok _ =>
      match r.unit (decide (r.u16 0 + r.u16 2 ≤ 640)) ((List.range (r.u16 2)).all fun i => p.hasOutput (r.u16 0 + i)) 0 with
      | .error x => .error x
      | .ok _ => .ok ⟨r.u16 0, r.u16 2, k, r.u8 5 == 1, lo, hi⟩

/-- R55, R396. -/
def parseRole (p : Part) (r : Rec) : Check CascadeRole :=
  let ports := r.u8 7
  match r.all 0x43 [(r.v.length == 16, 0), (decide (r.u16 0 < 4096), 0), (decide (r.u16 2 < 4096), 2), (decide (r.u16 4 < 4096) || r.u16 4 == 0xFFFF, 4),
      (decide (r.u8 6 < 3), 6), (fits 4 ports, 7), (decide (1 ≤ r.u8 8) && decide (r.u8 8 ≤ 64), 8), (leNat r.v 9 7 == 0, 9)] with
  | .error x => .error x
  | .ok _ => match r.need (fits p.casPorts ports) 7 0x21 with
    | .error x => .error x
    | .ok _ => .ok ⟨r.u16 0, r.u16 2, r.u16 4, r.u8 6, ports, r.u8 8⟩

/-- R55. -/
def parseHedge (p : Part) (r : Rec) : Check HedgeCfg :=
  let t := r.u16 4
  match r.need p.hasHedge 0 0x21 with
  | .error x => .error x
  | .ok _ =>
    match r.all 0x43 [(r.v.length == 32, 0), (decide (r.u16 0 < 4096), 0), (fits 1 (r.u8 2), 2), (fits 1 (r.u8 3), 3), (decide (t ≤ 1000), 4),
        (decide (1 ≤ r.u16 6) && decide (r.u16 6 ≤ 3600), 6), (leNat r.v 0x18 8 == 0, 0x18)] with
    | .error x => .error x
    | .ok _ => .ok ⟨r.u16 0, r.u8 2 == 1, r.u8 3 == 1, if t = 0 then 20 else t, r.u16 6, beNat r.v 8 16⟩

/-- Blocks that a REGISTER_PRESET may address (R56). -/
def presetBlock (b : Block) : Bool :=
  [Block.ta, .cond, .net, .obj, .spk, .rxs, .txs, .tdm, .meas, .gauge, .cas].contains b

/-- R56, R36. -/
def parsePreset (p : Part) (r : Rec) : Check Preset :=
  let o := r.u32 0
  let pre : Preset := ⟨o, r.word 4, r.word 8⟩
  if o % 4 ≠ 0 then .error (r.no 0x48 0)
  else match place o with
    | .reg b i w =>
      if !presetBlock b then .error (r.no 0x48 0)
      else if !p.has b i || (b == .spk && decide (0x100 ≤ w) && !p.hasGauge) then .error (r.no 0x21 0)
      else .ok pre
    | .ixpNode u d => if u < 1824 ∧ p.hasIxpNode u d = false then .error (r.no 0x21 0) else .ok pre
    | .oxpNode u d => if p.hasOxpNode u d then .ok pre else .error (r.no 0x21 0)
    | _ => .error (r.no 0x48 0)

/-- What a record adds to a region. -/
def applyRecord (s : State) (e : TableEntry) (g : Region) (r : Rec) : Check Region :=
  let p := s.dev.part
  let many {α : Type} (size : Nat) (f : Rec → Check α) (k : List α → Region) : Check Region :=
    match r.sequence size with
    | .error x => .error x
    | .ok l => (parseAll f l).map k
  match r.type with
  | 0x0001 => parseInfo e g r
  | 0x0010 => many 16 parseZone fun l => { g with zones := g.zones ++ l }
  | 0x0011 => (parseSet p r).map fun x => { g with sets := g.sets ++ [x] }
  | 0x0020 => (parseGroup p r).map fun x => { g with groups := g.groups ++ [x] }
  | 0x0030 => many 16 (parseNode p) fun l => { g with nodes := l }
  | 0x0031 => many 8 parseEdge fun l => { g with edges := l }
  | 0x0040 => many 8 (parseTile p) fun l => { g with tileMap := l }
  | 0x0050 => many 8 (parseXp p true) fun l => { g with xp := g.xp ++ l }
  | 0x0051 => many 8 (parseXp p false) fun l => { g with xp := g.xp ++ l }
  | 0x0060 => (parseProgram p r).map fun x => { g with programs := g.programs ++ [x] }
  | 0x0070 => (parseFilter s r).map fun x => { g with filters := g.filters ++ [x] }
  | 0x0080 => many 16 (parsePort p) fun l => { g with ports := l }
  | 0x0081 => many 32 parseStream fun l => { g with streams := g.streams ++ l }
  | 0x0090 => (parseActions r).map fun l => { g with actions := g.actions ++ l }
  | 0x00A0 => many 16 (parsePolicy p) fun l => { g with policies := g.policies ++ l }
  | 0x00B0 => (parseRole p r).map fun x => { g with cascade := some x }
  | 0x00C0 => (parseHedge p r).map fun x => { g with hedge := some x }
  | 0x00F0 => many 12 (parsePreset p) fun l => { g with presets := g.presets ++ l }
  | _ => .ok g

def foldRecords (s : State) (e : TableEntry) : Region → List Rec → Check Region
  | g, [] => .ok g
  | g, r :: l => match applyRecord s e g r with | .error x => .error x | .ok h => foldRecords s e h l

/-- A region of a container with the place of its records: type, offset of the value and length. -/
structure Parsed where
  region : Region
  index : Nat
  recs : List (Nat × Nat × Nat)

/-- Step 11 for the fields of one region. -/
def parseRegion (s : State) (b : List Byte) (e : TableEntry) : Check Parsed :=
  let blank : Region := { id := e.id, kind := e.kind, priority := e.priority, parallel := e.rflags == 1,
                          deps := maskList e.deps, tiles := e.tiles, needles := e.needles, pages := e.pages, dramMiB := e.dram }
  match splitRecords e.id e.kind (e.len / 8 + 1) e.off (slice b e.off e.len) [] with
  | .error x => .error x
  | .ok l => (foldRecords s e blank l).map fun g => ⟨g, e.index, l.map fun r => (r.type, r.pos, r.v.length)⟩

/-- Image offset of item `i` of the records of a type, each a header of `h` bytes and entries of `size` bytes; with `size` 0
each record is one item. -/
def itemOff (size h : Nat) : List (Nat × Nat × Nat) → Nat → Nat
  | [], _ => 0
  | (_, o, len) :: l, i =>
    let n := if size = 0 then 1 else (len - h) / size
    if i < n then o + h + size * i else itemOff size h l (i - n)

/-- A rejection at item `i` of a record type of a region. -/
def Parsed.no (p : Parsed) (code t size h i : Nat) (o : Nat := 0) : Reject :=
  ⟨code, p.region.id, t, itemOff size h (p.recs.filter fun r => r.1 == t) i + o⟩

end Sys2Proof.Machine
end

