-- ==== Sys2Proof/Machine/Pattern.lean ====
section
/-! DEFINITION. The Pattern loader: dependencies (R33), capabilities (R35), cross-region checks (R44 to R50, R160, R194, R230,
R289, R353, R411), resources and headroom (R73, R74), the order of verification (R71) and the commands of PAT up to the shadow
(R66 to R70). -/

namespace Sys2Proof.Machine

/-! ### Capabilities and dependencies: R35, R33 -/

/-- The capability that a bit of CAP_MASK requires (R35). -/
def Part.capability (p : Part) : Nat → Bool
  | 0 => p.hasGauge
  | 1 => p.hasStore
  | 2 => decide (1 ≤ p.casPorts)
  | 3 => p.hasHedge
  | 4 => decide (512 ≤ p.objects)
  | 5 => decide (1024 ≤ p.objects)
  | 6 => decide (512 ≤ p.speakers)
  | 7 => decide (32 ≤ p.activeTiles)
  | 8 => decide (64 ≤ p.activeTiles)
  | 9 => decide (8 ≤ p.needles)
  | 10 => decide (16 ≤ p.needles)
  | 11 => decide (4 ≤ p.dramChannels)
  | 12 => decide (16 ≤ p.measInputs)
  | 13 => decide (4 ≤ p.casPorts)
  | _ => false

def Part.hasCaps (p : Part) (m : Nat) : Bool := (maskList m).all p.capability

/-- Remove, round by round, the regions whose dependencies are all removed: what is left lies on or behind a cycle. -/
def cyclic : Nat → List (Nat × List Nat) → List (Nat × List Nat)
  | 0, l => l
  | n + 1, l => cyclic n (l.filter fun e => e.2.any fun k => l.any fun x => x.1 == k)

/-- Step 9 (R33): the committed regions that stay, with their dependencies. -/
def checkDeps (stay : List (Nat × List Nat)) (l : List TableEntry) : Check Unit :=
  let known (k : Nat) : Bool := (l.any fun e => e.id == k) || stay.any fun e => e.1 == k
  match each (fun (e : TableEntry) =>
      let m := maskList e.deps
      match need (!m.contains e.id && (if e.id = 0 then m.isEmpty else m.contains 0)) (e.no 0x35 0x0C) with
      | .error r => .error r
      | .ok _ => need (m.all known) (e.no 0x36 0x0C)) l with
  | .error r => .error r
  | .ok _ =>
    let left := cyclic 64 (stay ++ l.map fun e => (e.id, maskList e.deps))
    match l.find? fun e => left.any fun x => x.1 == e.id with
    | some e => .error (e.no 0x35 0x0C)
    | none => .ok ()

/-! ### The regions a commit would leave -/

/-- The container's regions, those that failed to parse, the committed regions that stay, and the versions replaced. -/
structure Scene where
  full : Bool
  new : List Parsed
  failed : List Nat := []
  stay : List Region
  old : List Region

def Scene.after (sc : Scene) : List Region := sc.stay ++ sc.new.map (·.region)

/-- The regions whose sets and zones a region may use (R33), itself first. -/
def Scene.sees (sc : Scene) (g : Region) : List Region := g :: (sc.after.filter fun x => x.id != g.id && g.deps.contains x.id)

/-- A region that it depends on did not parse, so that what is missing may lie there. -/
def Scene.blind (sc : Scene) (g : Region) : Bool := g.deps.any sc.failed.contains

def Scene.set? (sc : Scene) (g : Region) (k : Nat) : Option SpeakerSet := (sc.sees g).findSome? fun x => x.sets.find? fun e => e.id == k
def Scene.zone? (sc : Scene) (g : Region) (z : Nat) : Option Zone := (sc.sees g).findSome? fun x => x.zones.find? fun e => e.id == z

/-- Objects of a group. -/
def ObjGroup.has (g : ObjGroup) (n : Nat) : Bool := decide (g.first ≤ n) && decide (n < g.first + g.count)
def Region.group? (r : Region) (n : Nat) : Option ObjGroup := r.groups.find? fun g => g.has n
def TileEntry.has (e : TileEntry) (n : Nat) : Bool := decide (e.first ≤ n) && decide (n < e.first + e.count)

/-- History channels of an object: two in a HYBRID zone (R165). -/
def Scene.channels (sc : Scene) (g : Region) (n : Nat) : Nat :=
  match g.group? n with
  | none => 1
  | some o => match sc.zone? g o.zone with | some z => if z.law = 2 then 2 else 1 | none => 1

/-- The value a register would have after the presets of the container, from a base value (R56). -/
def presetOver (base : Word) (off : Nat) (l : List Region) : Word :=
  l.foldl (fun a g => g.presets.foldl (fun a p => if p.off = off then (a &&& ~~~p.mask) ||| (p.val &&& p.mask) else a) a) base

/-- Zones, groups and the tile map of a region (R41, R43, R47, R133, R160). -/
def checkZones (sc : Scene) (p : Parsed) : Check Unit :=
  let g := p.region
  let tilePages (e : TileEntry) : Nat := (List.range e.count).foldl (fun a i => a + 3 * sc.channels g (e.first + i)) 0
  match each (fun (z : Zone × Nat) => match sc.set? g z.1.set with
      | none => need (sc.blind g) (p.no 0x43 0x10 16 0 z.2 2)
      | some k => need (z.1.law == 0 || !k.tri.isEmpty) (p.no 0x43 0x10 16 0 z.2 2)) g.zones.zipIdx with
  | .error r => .error r
  | .ok _ =>
  match each (fun (o : ObjGroup × Nat) => need ((sc.zone? g o.1.zone).isSome || sc.blind g) (p.no 0x43 0x20 8 0 o.2 0)) g.groups.zipIdx with
  | .error r => .error r
  | .ok _ =>
  match each (fun (e : TileEntry × Nat) => need
      (((List.range e.1.count).all fun i => (g.group? (e.1.first + i)).isSome) && decide (tilePages e.1 ≤ e.1.pages)) (p.no 0x43 0x40 8 0 e.2 0)) g.tileMap.zipIdx with
  | .error r => .error r
  | .ok _ =>
  match need (decide (g.tileMap.foldl (fun a e => a + e.pages) 0 ≤ g.pages)) (p.no 0x43 0x40 8 0 0 4) with
  | .error r => .error r
  | .ok _ => each (fun (o : ObjGroup × Nat) => need (o.1.foreground || (List.range o.1.count).all fun i =>
      (g.tileMap.filter fun e => e.has (o.1.first + i)).length == 1) (p.no 0x43 0x20 8 0 o.2 4)) g.groups.zipIdx

/-- GAUGE_POLICY across regions: outputs with a program, once for a parameter (R289). -/
def checkPolicies (sc : Scene) (p : Parsed) : Check Unit :=
  let programmed (j : Nat) : Bool := sc.after.any fun x => x.programs.any fun q => decide (q.first ≤ j) && decide (j < q.first + q.n)
  let covers (x : GaugePolicy) (k j : Nat) : Bool := x.param == k && decide (x.first ≤ j) && decide (j < x.first + x.count)
  each (fun (x : GaugePolicy × Nat) => need ((List.range x.1.count).all fun i =>
      let j := x.1.first + i
      (programmed j || !sc.failed.isEmpty) && decide ((sc.after.foldl (fun a r => a + (r.policies.filter fun y => covers y x.1.param j).length) 0) ≤ 1))
    (p.no 0x43 0xA0 16 0 x.2 0)) p.region.policies.zipIdx

namespace State

/-- CFG0 of a network port as the commit block will find it (R353). -/
def cfgAtCommit (s : State) (sc : Scene) (n : Nat) : Word :=
  let entry := (sc.new.flatMap fun p => p.region.ports).reverse.find? fun c => c.cls == 0 && c.inst == n
  presetOver (match entry with | some c => c.vals.headD 0 | none => s.rd (Reg.NET_CFG0 n)) (Reg.NET_CFG0 n) (sc.new.map (·.region))

/-- A register of a stream as the commit will leave it: from its present value, or from its reset value at a full load. -/
def presetAtCommit (s : State) (sc : Scene) (o : Nat) : Word :=
  presetOver (if sc.full then resetValue s.dev o else s.rd o) o (sc.new.map (·.region))

/-- The rules of R353 for the streams of a region. -/
def checkStreams (s : State) (sc : Scene) (p : Parsed) : Check Unit :=
  let entries : List StreamCfg := sc.new.flatMap fun q => q.region.streams.filter fun c => !c.transmit
  let owned : List Nat := entries.map (·.stream) ++ sc.old.flatMap fun r => (r.streams.filter fun c => !c.transmit).map (·.stream)
  let live : List Nat := if sc.full then [] else (List.range 128).filter fun i => s.rxsEnabled i && !owned.contains i
  let jumbo (port : Nat) : Bool :=
    let j (n : Nat) := bitAt (s.cfgAtCommit sc n) 4
    if s.net.prp || port == 2 then j 0 && j 1 else j port
  let filt (ctrl : Word) (base : Nat) (rd : Nat → Word) : Nat :=
    if bitAt ctrl 3 then (List.range 4).foldl (fun a k => a * 2 ^ 32 + (rd (base + 4 * k)).toNat) 1 else 0
  let filtOf (i : Nat) : Nat := filt (s.presetAtCommit sc (Reg.RXS_CTRL i)) (Reg.RXS_SRC i 0) (s.presetAtCommit sc)
  each (fun (c : StreamCfg × Nat) =>
    let x := c.1
    let i := x.stream
    let port := if x.transmit then fld (s.presetAtCommit sc (Reg.TXS_CTRL i)) 4 3 else fld (s.presetAtCommit sc (Reg.RXS_CTRL i)) 2 1
    let pays := decide (x.channels * packetFrames x.rate x.ptime * encodingBytes x.encoding ≤ (if jumbo port then 8960 else 1440))
    let others := entries.filter fun y => y.stream != i
    need (pays && (x.transmit ||
      ((others.all fun y => !overlap x.firstCh x.channels y.firstCh y.channels && !(y.address == x.address && y.port == x.port && filtOf y.stream == filtOf i)) &&
       live.all fun j => !overlap x.firstCh x.channels (s.rxsFirst j) (s.rxsChannels j) &&
         !(s.addrWords (Reg.RXS_ADDR j 0) == x.address && s.rf (Reg.RXS_UDP_PORT j) 15 0 == x.port &&
           filt (s.rd (Reg.RXS_CTRL j)) (Reg.RXS_SRC j 0) s.rd == filtOf i))))
      (p.no 0x43 0x81 32 0 c.2 0)) p.region.streams.zipIdx

/-- The rule of R376 for the TDM entries of a PORT_CONFIG, each port as the whole record leaves it. -/
def checkPorts (s : State) (p : Parsed) : Check Unit :=
  let cfg (n : Nat) : Word := match p.region.ports.reverse.find? fun c => c.cls == 1 && c.inst == n with
    | some c => c.vals.headD 0
    | none => resetValue s.dev (Reg.TDM_CFG0 n)
  each (fun (c : PortCfg × Nat) => need (c.1.cls != 1 || !bitAt (cfg c.1.inst) 0 || !tdmCfgBad cfg c.1.inst) (p.no 0x43 0x80 16 0 c.2 4)) p.region.ports.zipIdx

/-- Step 11 for one region: its records, then what they refer to. -/
def checkRegion (s : State) (sc : Scene) (x : Check Parsed) : Check Unit :=
  match x with
  | .error r => .error r
  | .ok p =>
    match checkZones sc p with
    | .error r => .error r
    | .ok _ => match checkPolicies sc p with
      | .error r => .error r
      | .ok _ => match s.checkStreams sc p with
        | .error r => .error r
        | .ok _ => s.checkPorts p

end State

/-! ### Step 12: claims, defaults, graph, Foreground count -/

/-- The first item whose key an earlier item holds. -/
def firstTwice (seen : List Nat) : List (Nat × Reject) → Option Reject
  | [] => none
  | (k, r) :: l => if seen.contains k then some r else firstTwice (k :: seen) l

/-- The keys of the staying regions and the items of the container, in order. -/
def claimOnce (stay : List Nat) (new : List (Nat × Reject)) : Check Unit := match firstTwice stay new with | some r => .error r | none => .ok ()

def rangeFrom (a n : Nat) : List Nat := (List.range n).map (a + ·)

/-- The transmit channels that the SEND instructions of a program write, one for each output (R241). -/
def sendKeys (q : RowProgram) : List Nat :=
  (List.range q.n).flatMap fun r => ((q.instr.map rowInstr).filter fun i => i.op == 11).foldl (fun l i => if l.contains (i.a + r) then l else l ++ [i.a + r]) []

/-- Objects, tiles, zones, sets, time actions, programs and filter sets claimed once (0x44), outputs once (0x45), and transmit
channels written from one output (0x47). -/
def checkClaims (sc : Scene) : Check Unit :=
  let stayKeys (f : Region → List Nat) : List Nat := sc.stay.flatMap f
  let items {α : Type} (get : Region → List α) (t size h code : Nat) (keys : α → List Nat) : List (Nat × Reject) :=
    sc.new.flatMap fun p => (get p.region).zipIdx.flatMap fun x => (keys x.1).map fun k => (k, p.no code t size h x.2 0)
  let once {α : Type} (get : Region → List α) (t size h code : Nat) (keys : α → List Nat) : Check Unit :=
    claimOnce (stayKeys fun r => (get r).flatMap keys) (items get t size h code keys)
  match once (·.groups) 0x20 8 0 0x44 (fun g => rangeFrom g.first g.count) with
  | .error r => .error r
  | .ok _ =>
  match once (·.tileMap) 0x40 8 0 0x44 (fun e => [e.tile]) with
  | .error r => .error r
  | .ok _ =>
  match once (·.zones) 0x10 16 0 0x44 (fun z => [z.id]) with
  | .error r => .error r
  | .ok _ =>
  match once (·.sets) 0x11 0 0 0x44 (fun k => [k.id]) with
  | .error r => .error r
  | .ok _ =>
  match once (·.actions) 0x90 32 8 0x44 (fun a => [a.ta]) with
  | .error r => .error r
  | .ok _ =>
  match once (·.programs) 0x60 0 0 0x44 (fun q => [q.id]) with
  | .error r => .error r
  | .ok _ =>
  match once (·.filters) 0x70 0 0 0x44 (fun f => [f.id]) with
  | .error r => .error r
  | .ok _ =>
  match once (·.programs) 0x60 0 0 0x45 (fun q => rangeFrom q.first q.n) with
  | .error r => .error r
  | .ok _ =>
  match once (·.filters) 0x70 0 0 0x45 (fun f => rangeFrom f.first f.n) with
  | .error r => .error r
  | .ok _ => once (·.programs) 0x60 0 0 0x47 sendKeys

/-- The nodes that the defaults leave non-zero, the last entry of each (R48), without those into objects outside every group. -/
def activeDefaults (sc : Scene) (ixp : Bool) : List (Nat × Nat) :=
  let grouped (n : Nat) : Bool := sc.after.any fun r => (r.group? n).isSome
  let l := (sc.after.flatMap (·.xp)).filter fun e => e.ixp == ixp
  let last : List ((Nat × Nat) × Word) := l.foldl (fun a e => (a.filter fun x => x.1 != (e.dst, e.src)) ++ [((e.dst, e.src), e.gain)]) []
  (last.filter fun x => x.2 != 0 && (!ixp || decide (1024 ≤ x.1.1) || grouped x.1.1)).map (·.1)

/-- The limits of R230 for one crosspoint. -/
def checkNodes (sc : Scene) (ixp : Bool) (each' total : Nat) : Check Unit :=
  let t := if ixp then 0x50 else 0x51
  let l := activeDefaults sc ixp
  match l.find? fun e => decide (each' < (l.filter fun x => x.1 == e.1).length) with
  | some e =>
    (match sc.new.find? fun p => p.region.xp.any fun x => x.ixp == ixp && x.dst == e.1 with
     | some p => .error (p.no 0x49 t 0 0 0)
     | none => .error ⟨0x49, 0x7F, t, 0⟩)
  | none => need (decide (l.length ≤ total)) ⟨0x49, 0x7F, t, 0⟩

/-- R193: the engine a kind may use and the largest DEADLINE. -/
def nodeAllowed (n : GNode) : Bool :=
  match n.nkind, n.engine with
  | 0, 0 => true
  | 0, 1 => true
  | 1, 0 => decide (n.deadline ≤ 6144)
  | 1, 1 => decide (n.deadline ≤ 6144)
  | 2, 0 => true
  | 2, 1 => true
  | 3, 0 => true
  | 4, 2 => decide (n.deadline ≤ 2048)
  | 5, 3 => decide (n.deadline ≤ 2048)
  | 6, 4 => true
  | 7, 5 => true
  | _, _ => false

/-- Instances a node may have in a block (R194). -/
def nodeCount (n : GNode) : Nat := match n.nkind, n.engine with | 1, 0 => 2 | 2, 1 => 8 | _, _ => 1

/-- Nodes that lie on or behind a cycle of edges without PREV_BLOCK. -/
def graphCycle : Nat → List ((Nat × Nat) × List (Nat × Nat)) → List ((Nat × Nat) × List (Nat × Nat))
  | 0, l => l
  | n + 1, l =>
    let k := l.filter fun e => e.2.any fun x => l.any fun y => y.1 == x
    if k.length = l.length then k else graphCycle n k

/-- An edge of a region names nodes of the state after the commit, in the region itself or one it depends on (R46). -/
def edgeOk (sc : Scene) (g : Region) (e : GEdge) : Bool :=
  (g.nodes.any fun n => n.node == e.dst) && (e.region == g.id || g.deps.contains e.region) &&
  sc.after.any fun r => r.id == e.region && r.nodes.any fun n => n.node == e.src

/-- R46, R193, R194 and R411. -/
def checkGraph (sc : Scene) (role : Option CascadeRole) : Check Unit :=
  let all := sc.after ++ sc.old
  let sum (f : Region → Nat) : Nat := all.foldl (fun a r => a + f r) 0
  let limit : Nat := match role with
    | some c => if (c.mode = 1 ∨ c.mode = 2) ∧ c.ports ≠ 0 ∧ c.id ≠ c.master then 6400 - 37 * c.hopLimit else 8191
    | none => 8191
  match each (fun (p : Parsed) =>
      match each (fun (x : GNode × Nat) => need (nodeAllowed x.1 && ((p.region.nodes.take x.2).all fun y => y.node != x.1.node) &&
          (x.1.nkind != 3 || decide (x.1.deadline ≤ limit))) (p.no 0x46 0x30 16 0 x.2 0)) p.region.nodes.zipIdx with
      | .error r => .error r
      | .ok _ => each (fun (x : GEdge × Nat) => need (edgeOk sc p.region x.1) (p.no 0x46 0x31 8 0 x.2 0)) p.region.edges.zipIdx) sc.new with
  | .error r => .error r
  | .ok _ =>
  match each (fun (r : Region) => need ((r.edges.all fun e => edgeOk sc r e) && r.nodes.all fun x => x.nkind != 3 || decide (x.deadline ≤ limit))
      ⟨0x46, r.id, 0x31, 0⟩) sc.stay with
  | .error r => .error r
  | .ok _ =>
  match need (decide (sum (·.nodes.length) ≤ 32768) && decide (sum (·.edges.length) ≤ 65536) &&
      decide (sum (fun r => r.nodes.foldl (fun a n => a + nodeCount n) 0) ≤ 65536)) ⟨0x46, 0x7F, 0x30, 0⟩ with
  | .error r => .error r
  | .ok _ =>
    let graph := sc.after.flatMap fun r => r.nodes.map fun n =>
      ((r.id, n.node), (r.edges.filter fun e => e.dst == n.node && !e.prev).map fun e => (e.region, e.src))
    let left := graphCycle 32768 graph
    match sc.new.find? fun p => left.any fun x => x.1.1 == p.region.id with
    | some p => .error (p.no 0x46 0x31 0 0 0)
    | none => need left.isEmpty ⟨0x46, 0x7F, 0x31, 0⟩

/-! ### Resources and headroom: R73, R74, R318 -/

/-- The regions that count: what stays, the container's, and the old version beside a PARALLEL new one (R73). -/
def Scene.counted (sc : Scene) : List Region :=
  sc.after ++ sc.old.filter fun r => sc.new.any fun p => p.region.id == r.id && p.region.parallel

def sumOf (f : Region → Nat) (l : List Region) : Nat := l.foldl (fun a r => a + f r) 0

/-- LOAD sums of the four engine classes. -/
def loadSums (l : List Region) : List Nat := (List.range 4).map fun k => sumOf (fun r => r.loads.getD k 0) l

namespace State

/-- Logical tiles that have a host (R318). -/
def hostedTiles (s : State) : Nat := ((List.range s.dev.part.activeTiles).filter fun l => (s.logicalTile l).host.isSome).length

/-- R73. -/
def resourcesFit (s : State) (l : List Region) : Bool :=
  let needles := sumOf (·.needles) l
  decide (sumOf (·.tiles) l ≤ s.hostedTiles) && decide (needles ≤ s.dev.part.needles) &&
  decide ((sumOf (·.pages) l : Int) ≤ (s.rf Reg.SKEIN_TOTAL 15 0 : Int) - s.rf Reg.SKEIN_OUTSIDE 15 0 - s.rf Reg.SKEIN_NEEDLE_TIER 15 0 + 64 * needles) &&
  decide (16 * sumOf (·.dramMiB) l + s.loaderFrames + s.rxFrames ≤ s.capacityFrames)

/-- R74. The assignment of R244 always exists: 640 outputs in two versions, each below 752 cycles, fit 16 sequencers of 49,152. -/
def headroomFits (l : List Region) : Bool := (loadSums l).all fun x => decide (x ≤ 750)

/-- The committed regions beside a container: those it does not replace, and those it replaces. A full load keeps none (R59). -/
def sceneOf (s : State) (full : Bool) (new : List Parsed) (failed ids : List Nat) : Scene :=
  let live := s.live.map (·.region)
  { full := full, new := new, failed := failed,
    stay := if full then [] else live.filter fun r => !ids.contains r.id,
    old := if full then [] else live.filter fun r => ids.contains r.id }

/-- Steps 12 and 13: claims, defaults, graph, Foreground count, capability and resources, headroom. -/
def checkWhole (s : State) (sc : Scene) : Check Unit :=
  let fg := sumOf (fun r => (r.groups.filter (·.foreground)).foldl (fun a g => a + g.count) 0) sc.after
  let firstFg : Nat := ((sc.new.find? fun p => p.region.groups.any (·.foreground)).map (·.region.id)).getD 0x7F
  let own := sc.new.map (·.region)
  let role := if sc.full then own.findSome? (·.cascade) else s.cascadeRole
  match checkClaims sc with
  | .error r => .error r
  | .ok _ =>
  match checkNodes sc true 64 16384 with
  | .error r => .error r
  | .ok _ =>
  match checkNodes sc false 16 2048 with
  | .error r => .error r
  | .ok _ =>
  match checkGraph sc role with
  | .error r => .error r
  | .ok _ =>
  match need (decide (fg ≤ 64)) ⟨0x4A, firstFg, 0x20, 0⟩ with
  | .error r => .error r
  | .ok _ =>
  match need (decide (fg ≤ s.foregroundLimit)) ⟨0x21, firstFg, 0x20, 0⟩ with
  | .error r => .error r
  | .ok _ =>
  match each (fun (p : Parsed) => each (fun (e : TileEntry × Nat) => need (s.logicalTile e.1.tile).host.isSome (p.no 0x23 0x40 8 0 e.2 0)) p.region.tileMap.zipIdx) sc.new with
  | .error r => .error r
  | .ok _ =>
  match need (decide (sumOf (·.tiles) own ≤ s.dev.part.activeTiles) && decide (sumOf (·.needles) own ≤ s.dev.part.needles)) ⟨0x21, 0x7F, 0, 0⟩ with
  | .error r => .error r
  | .ok _ =>
  match need (s.resourcesFit sc.counted) ⟨0x23, 0x7F, 0, 0⟩ with
  | .error r => .error r
  | .ok _ => need (headroomFits sc.counted) ⟨0x24, 0x7F, 0, 0⟩

/-! ### Verification: R71 -/

/-- The length the source of a load demands of TOTAL_LENGTH (R72, 0x04). -/
def sourceLength (s : State) (total : Nat) : Bool :=
  match s.rf Reg.PAT_SOURCE 1 0 with
  | 0 => total == (s.rd Reg.PAT_STAGE_LEN).toNat
  | 1 => (match Assoc.get? (s.rf Reg.PAT_SOURCE 15 8) s.nand.objects with | some o => decide (total ≤ o.bytes.length) | none => false)
  | _ => decide (total ≤ 0x2000000)

/-- Insert by ascending region ID. -/
def insertEntry (e : TableEntry) : List TableEntry → List TableEntry
  | [] => [e]
  | x :: l => if e.id < x.id then e :: x :: l else x :: insertEntry e l

/-- Steps 2 to 13 of R71 on the loader's copy, with the revoke bits sampled for step 4. -/
def verifyImage (s : State) (b : List Byte) (revoked : Nat) : Check Shadow :=
  match checkOuter s.dev revoked b s.sourceLength with
  | .error r => .error r
  | .ok h =>
  match need (fits 14 h.caps) ⟨0x22, 0x7F, 0, 0x0C⟩ with
  | .error r => .error r
  | .ok _ =>
  match need (s.dev.part.hasCaps h.caps) ⟨0x21, 0x7F, 0, 0x0C⟩ with
  | .error r => .error r
  | .ok _ =>
  match need (if h.update then s.patternActive && h.base == (s.rd Reg.PAT_ACTIVE_CRC).toNat else h.base == 0) ⟨0x37, 0x7F, 0, 0x28⟩ with
  | .error r => .error r
  | .ok _ =>
    let table := (List.range h.count).map (tableEntry b)
    match checkTable h table with
    | .error r => .error r
    | .ok _ =>
      let live := (s.sceneOf (!h.update) [] [] (table.map (·.id))).stay.map fun r => (r.id, r.deps)
      match checkDeps live table with
      | .error r => .error r
      | .ok _ =>
      match each (fun (e : TableEntry) => need (crc32c (slice b e.off e.len) == e.crc) (e.no 0x34 0x1C)) table with
      | .error r => .error r
      | .ok _ =>
        let parsed := (table.foldl (fun l e => insertEntry e l) []).map fun e => (e.id, parseRegion s b e)
        let ok : List Parsed := parsed.filterMap fun x => match x.2 with | .ok p => some p | .error _ => none
        let failed : List Nat := parsed.filterMap fun x => match x.2 with | .ok _ => none | .error _ => some x.1
        let sc := s.sceneOf (!h.update) ok failed (table.map (·.id))
        match each (fun (x : Nat × Check Parsed) => s.checkRegion sc x.2) parsed with
        | .error r => .error r
        | .ok _ => match s.checkWhole sc with
          | .error r => .error r
          | .ok _ => .ok { regions := ok.map (·.region), full := !h.update, crc := h.crc, build := h.build, time := h.time, key := h.key, caps := h.caps, boot := h.boot }

/-! ### The loader's registers: R64 to R69 -/

/-- STATE of PAT.STATUS: 0 IDLE, 1 READING, 2 VERIFYING, 3 SHADOW_READY, 4 COMMIT_PENDING, 5 APPLYING, 6 REJECTED. -/
def patState (s : State) : Nat := s.rf Reg.PAT_STATUS 2 0
def setPatState (s : State) (n : Nat) : State := s.wf Reg.PAT_STATUS 2 0 n
def patRefused (s : State) : State := s.setBit Reg.PAT_STATUS 4
def patAccepted (s : State) : State := s.clrBit Reg.PAT_STATUS 4

/-- LOAD_SUM0 and LOAD_SUM1 over the committed versions (R64, R74). -/
def reportLoads (s : State) : State :=
  match loadSums (s.live.map (·.region)) with
  | [t, n, f, r] => (s.wr Reg.PAT_LOAD_SUM0 (BitVec.ofNat 32 (t % 1024 + n % 1024 * 65536))).wr Reg.PAT_LOAD_SUM1 (BitVec.ofNat 32 (f % 1024 + r % 1024 * 65536))
  | _ => s

/-- REGION[k] of every region, from the committed versions and the shadow (R65). The kind and priority are those of the newest committed
version, or of the shadow when none is committed. -/
def regionWord (s : State) (k : Nat) : Word :=
  let live := s.live.filter fun v => v.region.id == k
  let shadow : Option Region := match s.pat.shadow with | some x => x.regions.find? fun r => r.id == k | none => none
  let newest : Option Region := match live.getLast? with | some v => some v.region | none => shadow
  match newest with
  | none => 0
  | some r =>
    let cross := live.any fun v => match v.leave with | some (.cross _ _) => true | _ => false
    BitVec.ofNat 32 (b2n (!live.isEmpty) + 2 * b2n shadow.isSome + 4 * b2n cross + 8 * b2n (!live.isEmpty && r.parallel) +
      r.kind % 256 * 256 + r.priority % 256 * 65536)
def reportRegions (s : State) : State := (s.over (List.range 64) fun t k => t.wr (Reg.PAT_REGION k) (t.regionWord k)).reportLoads

/-- A rejection leaves its code and raises event 17 (R71). -/
def putReject (s : State) (r : Reject) : State :=
  ((s.wr Reg.PAT_REJECT (BitVec.ofNat 32 (r.code % 256 + r.region % 128 * 256 + r.rtype % 65536 * 65536))).wr Reg.PAT_REJECT_OFFSET (BitVec.ofNat 32 r.off)).event 17

/-- The loader area and the copy in it are given up. -/
def dropImage (s : State) : State := ({ s with pat := { s.pat with image := [], sampled := none } }).releaseFrames .loader

/-- A load ends in REJECTED. -/
def rejectLoad (s : State) (r : Reject) : State := (s.dropImage.putReject r).setPatState 6

/-- The bytes of the source of a load; none where the read fails at once (0x07). -/
def loadSource (s : State) : State × Option (List Byte) :=
  match s.rf Reg.PAT_SOURCE 1 0 with
  | 0 =>
    let n := (s.rd Reg.PAT_STAGE_LEN).toNat
    s.masterRead 3 (s.rd64 Reg.PAT_STAGE_ADDR_LO) (if 0x10000000 < n then 64 else n)
  | 1 => (s, match Assoc.get? (s.rf Reg.PAT_SOURCE 15 8) s.nand.objects with
    | some o => if o.lost = [] then some o.bytes else none
    | none => some [])
  | _ =>
    let a := 0x2000000 * (1 + s.rf Reg.PAT_SOURCE 15 8)
    let head := Memory.read 0xFF s.flash a 64
    (s, some (Memory.read 0xFF s.flash a (min 0x2000000 (max 64 (leNat head 8 4)))))

/-- A source that does not exist refuses the LOAD: KIND 3, a slot the source lacks, an absent store, and a store that mounts (R472). -/
def loadRefused (s : State) : Bool :=
  !(s.patState == 0 || s.patState == 6) ||
  match s.rf Reg.PAT_SOURCE 1 0 with
  | 0 => false
  | 1 => !s.dev.part.hasStore || decide (63 < s.rf Reg.PAT_SOURCE 15 8) || s.rf Reg.STORE_STATUS 2 0 == 1
  | 2 => decide (1 < s.rf Reg.PAT_SOURCE 15 8)
  | _ => true

/-- LOAD (R66, R68): the image is copied at its acceptance, so that nothing done later to the source has an effect; the empty
shadow goes. -/
def patLoad (s : State) : State :=
  if s.loadRefused then s.patRefused
  else
    let s := s.patAccepted
    let s := (s.wf Reg.PAT_STATUS 14 8 0).clrBit Reg.PAT_STATUS 3
    match s.loadSource with
    | (s, none) => s.rejectLoad ⟨0x07, 0x7F, 0, 0⟩
    | (s, some b) =>
      let frames := (b.length + 65535) / 65536
      if s.freeDramFrames < frames then s.rejectLoad ⟨0x60, 0x7F, 0, 0⟩
      else ({ s with pat := { s.pat with image := b } }.allocFrames .loader frames).setPatState 1

/-- The copy is complete at the next sample tick: VERIFYING, with the revoke bits sampled (R63). -/
def patRead (s : State) : State :=
  if s.patState = 1 then { s.setPatState 2 with pat := { s.pat with sampled := some s.dev.revoked } } else s

/-- The verification ends (R70, R71). `bad` is the image offset of a read error that the copy met, and none without one. -/
def patVerifyDone (s : State) (bad : Option Nat) : State :=
  if s.patState ≠ 1 ∧ s.patState ≠ 2 then s
  else match bad with
    | some o => (s.wf Reg.PAT_STATUS 14 8 ((s.freeWord).toNat % 101)).bumpFree.rejectLoad ⟨0x07, 0x7F, 0, o⟩
    | none => match s.verifyImage s.pat.image (s.pat.sampled.getD s.dev.revoked) with
      | .error r => (s.wf Reg.PAT_STATUS 14 8 ((s.freeWord).toNat % 101)).bumpFree.rejectLoad r
      | .ok sh =>
        let s : State := { s with pat := { s.pat with shadow := some sh } }
        ((s.wf Reg.PAT_STATUS 14 8 100).putBit Reg.PAT_STATUS 3 sh.full).setPatState 3 |>.reportRegions

/-- ABORT (R66). -/
def patAbort (s : State) : State :=
  if s.patState = 1 ∨ s.patState = 2 then s.patAccepted.rejectLoad ⟨0xFF, 0x7F, 0, 0⟩ else s.patRefused

/-- The shadow is emptied. -/
def emptyShadow (s : State) : State := ({ s with pat := { s.pat with shadow := none } }.clrBit Reg.PAT_STATUS 3).dropImage.reportRegions

/-- DISCARD (R66). -/
def patDiscard (s : State) : State := if s.patState = 3 ∨ s.patState = 6 then (s.patAccepted.emptyShadow).setPatState 0 else s.patRefused

/-- What a COMMIT of the shadow would leave. -/
def shadowScene (s : State) (sh : Shadow) : Scene := s.sceneOf sh.full (sh.regions.map fun r => ⟨r, 0, []⟩) [] (sh.regions.map (·.id))

/-- A commit that the resources refuse: the shadow is kept (R69, R302). -/
def commitFails (s : State) (code : Nat) : State :=
  (({ s with pat := { s.pat with commitAt := none } }.setPatState 3).patRefused).putReject ⟨code, 0x7F, 0, 0⟩

/-- COMMIT (R66, R69): the checks of steps 12 and 13 that resources decide are repeated. -/
def patCommit (s : State) : State :=
  match s.pat.shadow with
  | none => s.patRefused
  | some sh =>
    if s.patState ≠ 3 then s.patRefused
    else match s.targetBlock Reg.PAT_COMMIT_BLOCK_LO with
      | none => s.patRefused
      | some c =>
        let sc := s.shadowScene sh
        if !s.resourcesFit sc.counted then s.commitFails 0x23
        else if !headroomFits sc.counted then s.commitFails 0x24
        else { (s.patAccepted).setPatState 4 with pat := { s.pat with commitAt := some c } }

/-- The regions named by BINDOFF_MASK. -/
def bindMask (s : State) : List Nat := maskList (s.rd64 Reg.PAT_BINDOFF_MASK_LO)

/-- The lowest region, committed or in the shadow, that a bind-off would leave without a region it depends on. -/
def orphaned (s : State) (gone : List Nat) : Option Nat :=
  let staying := (s.pat.versions.filter fun v => v.leave.isNone && !gone.contains v.region.id).map (·.region)
  let regions := staying ++ (match s.pat.shadow with | some sh => sh.regions | none => [])
  (List.range 64).find? fun k => regions.any fun r => r.id == k && r.deps.any gone.contains

/-- BIND_OFF (R310). -/
def patBindOff (s : State) : State :=
  let l := s.bindMask
  let st := s.patState
  if !(st == 0 || st == 3 || st == 6) then s.patRefused
  else match s.targetBlock Reg.PAT_COMMIT_BLOCK_LO with
    | none => s.patRefused
    | some c =>
      if l.isEmpty || !(l.all fun k => (s.version? k).isSome && !(s.pat.bindOff.any fun e => e.1 == k)) || l.any (fun k => s.bitOf (Reg.PAT_REGION k) 2) then s.patRefused
      else match s.orphaned l with
        | some k => (s.patRefused).putReject ⟨0x38, k, 0, 0⟩
        | none => { s.patAccepted with pat := { s.pat with bindOff := s.pat.bindOff ++ l.map fun k => (k, c) } }

/-- A write of PAT.CMD (R65, R66). OP 0 does nothing, and a reserved OP is refused. -/
def patCommand (s : State) (v : Word) : State :=
  match fld v 3 0 with
  | 0 => s
  | 1 => s.patLoad
  | 2 => s.patCommit
  | 3 => s.patBindOff
  | 4 => s.patDiscard
  | 5 => s.patAbort
  | _ => s.patRefused

/-- A write of KEY_REVOKE (R63): refused if it would leave no slot both present and unrevoked. -/
def keyRevoke (s : State) (v : Word) : State :=
  let m := Nat.lor s.dev.revoked (fld v 3 0)
  if fld v 3 0 = 0 then s
  else if (List.range 4).any fun k => s.dev.keyHash.getD k 0 != 0 && m / 2 ^ k % 2 == 0 then { s with dev := { s.dev with revoked := m } }
  else s.patRefused

end State

end Sys2Proof.Machine
end

