-- ==== Sys2Proof/Machine/Store.lean ====
section
/-! DEFINITION. The show store (R461 to R472), playback stems (R475 to R478), the boot flash (R479 to R481) and the choice of
the boot Pattern (R473, R474). -/

namespace Sys2Proof.Machine

/-- Logical sectors of 4 KiB. -/
def sectorsOf (bytes : Nat) : Nat := (bytes + 4095) / 4096

/-- Sectors of the first `n` bytes that NAND has lost. -/
def StoreObject.lostIn (o : StoreObject) (n : Nat) : Bool := o.lost.any fun k => decide (k < sectorsOf n)

/-- Sample `i` of a stem; none in a lost sector, which holds 1,024 samples (R468). -/
def StoreObject.sample (o : StoreObject) (i : Nat) : Option Int :=
  if o.lost.contains (i / 1024) then none else some (signExt 32 (leNat o.bytes (4 * i) 4))
def StoreObject.samples (o : StoreObject) : Nat := o.bytes.length / 4

namespace State

/-! ### The array: R461, R467, R469 -/

/-- STATE of STORE.STATUS: 0 INIT, 1 MOUNTING, 2 READY, 3 READ_ONLY, 4 FAILED. -/
def storeState (s : State) : Nat := s.rf Reg.STORE_STATUS 2 0
def storeHeld (s : State) : Bool := s.bitOf Reg.STORE_STATUS 5
/-- The store can be read. -/
def storeUp (s : State) : Bool := s.storeState == 2 || s.storeState == 3

def storeObject (s : State) (n : Nat) : Option StoreObject := Assoc.get? n s.nand.objects
def usedSectors (s : State) : Nat := s.nand.objects.foldl (fun a e => a + sectorsOf e.2.bytes.length) 0

/-- Erase count of a block, and the good blocks' lowest and highest (R467). -/
def eraseCount (s : State) (b : Nat) : Nat := (Assoc.get? b s.nand.erases).getD 0
def goodErases (s : State) : List (Nat × Nat) := s.nand.erases.filter fun e => !s.nand.bad.contains e.1
def lowestErase (s : State) : Nat :=
  if s.goodErases.length + s.nand.bad.length < s.nand.blocks then 0 else s.goodErases.foldl (fun a e => min a e.2) ((s.goodErases.map (·.2)).headD 0)
def highestErase (s : State) : Nat := s.goodErases.foldl (fun a e => max a e.2) 0

/-- CAPACITY, FREE, SPARE and ERASE_SPAN (R483). -/
def reportStore (s : State) : State :=
  let s := s.wr Reg.STORE_CAPACITY (BitVec.ofNat 32 s.nand.capacityMiB)
  let s := s.wr Reg.STORE_FREE (BitVec.ofNat 32 ((s.nand.capacityMiB * 256 - s.usedSectors) / 256))
  let s := s.wr Reg.STORE_SPARE (BitVec.ofNat 32 (min s.nand.spareLeft 65535 + min s.nand.spareInitial 65535 * 65536))
  s.wr Reg.STORE_ERASE_SPAN (BitVec.ofNat 32 (min s.lowestErase 65535 + min s.highestErase 65535 * 65536))

/-- One erase of a block. -/
def eraseBlock (s : State) (b : Nat) : State :=
  ({ s with nand := { s.nand with erases := Assoc.put b (s.eraseCount b + 1) s.nand.erases } }).reportStore

/-- A read that corrected `n` bits in a codeword (R467). -/
def noteCorrected (s : State) (n : Nat) : State :=
  let s := if 100 < n then s.count Reg.STORE_RETRIES else s
  s.wf Reg.STORE_CORR_MAX 7 0 (min 255 (max n (s.rf Reg.STORE_CORR_MAX 7 0)))

/-- A block exists, is good, and maintenance may erase it now (R467, R471). -/
def mayErase (s : State) (b : Nat) : Bool := s.storeUp && !s.storeHeld && decide (b < s.nand.blocks) && !s.nand.bad.contains b

/-- BLOCK_REFRESH (R467): a read that corrected bits, or the reads since its erase, have a block refreshed. -/
def blockRefresh (s : State) (b corrected reads : Nat) : State :=
  if !s.storeUp then s
  else
    let s := if corrected = 0 then s else s.noteCorrected corrected
    let due := decide (s.rf Reg.STORE_MAINT_CFG 31 24 ≤ corrected) || decide (s.rf Reg.STORE_MAINT_CFG 23 16 * 1000 ≤ reads)
    if due && s.mayErase b then (s.eraseBlock b).count Reg.STORE_REFRESHES else s

/-- The least-worn good block, the lowest of several. -/
def leastWorn (s : State) : Option Nat :=
  (List.range s.nand.blocks).find? fun b => !s.nand.bad.contains b && s.eraseCount b == s.lowestErase

/-- WEAR_MOVE (R467): the data of the least-worn block moves, so that it can serve writes. -/
def wearMove (s : State) : State :=
  match s.leastWorn with
  | none => s
  | some b =>
    if s.mayErase b && decide (s.rf Reg.STORE_MAINT_CFG 15 0 < s.highestErase - s.lowestErase) then (s.eraseBlock b).count Reg.STORE_WEAR_MOVES else s

/-- GROWN_BAD (R467, R469): the block is retired and a spare takes its place. -/
def grownBad (s : State) (b : Nat) : State :=
  if !s.storeUp || decide (s.nand.blocks ≤ b) || s.nand.bad.contains b then s
  else
    let left := s.nand.spareLeft - 1
    let s : State := { s with nand := { s.nand with bad := b :: s.nand.bad, spareLeft := left } }
    let s := ((s.count Reg.STORE_GROWN_BAD).event 66).reportStore
    let s := if 4 * left < s.nand.spareInitial ∧ s.bitOf Reg.STORE_STATUS 6 = false then (s.setBit Reg.STORE_STATUS 6).event 67 else s
    if left = 0 ∧ s.storeState = 2 then (s.wf Reg.STORE_STATUS 2 0 3).event 68 else s

/-- NAND_UNCORRECTABLE (R467, R468): the sector of an object is lost, for every reader of this version of the object. -/
def nandUncorrectable (s : State) (obj sector : Nat) : State :=
  match s.storeObject obj with
  | none => s
  | some o =>
    if !s.storeUp || decide (sectorsOf o.bytes.length ≤ sector) || o.lost.contains sector then s
    else
      let s : State := { s with nand := { s.nand with objects := Assoc.put obj { o with lost := sector :: o.lost } s.nand.objects } }
      let stems := s.store.stems.map fun e => if e.2.content = o then (e.1, { e.2 with content := { o with lost := sector :: o.lost } }) else e
      (({ s with store := { s.store with stems := stems } }.count Reg.STORE_RETRIES).count Reg.STORE_UNCORRECTABLE).event 69

/-- STORE_SCRUB (R467): every DAYS days of running each block is read; `found` gives the blocks with corrected bits. -/
def storeScrub (s : State) (found : List (Nat × Nat)) : State :=
  if !s.storeUp || decide (s.uptime < s.store.scrubFrom + s.rf Reg.STORE_SCRUB_CFG 7 0 * 86400 * countsPerSecond) then s
  else
    let s := s.over found fun t e => t.blockRefresh e.1 e.2 0
    { s with store := { s.store with scrubFrom := s.uptime } }

/-- STORE_MOUNT_DONE (R461, R469, R472): the map is rebuilt, or the geometries differ. -/
def storeMountDone (s : State) (ok : Bool) : State :=
  if s.storeState ≠ 1 then s
  else if !ok then s.wf Reg.STORE_STATUS 2 0 4
  else
    let spares := (s.nand.blocks - s.nand.bad.length) * 4 / 100
    let n : NandArray := if s.nand.mounted then s.nand else { s.nand with mounted := true, spareInitial := spares, spareLeft := spares }
    let s : State := { s with nand := n, store := { s.store with scrubFrom := s.uptime } }
    let s := ((s.wf Reg.STORE_STATUS 15 8 n.channels).putBit Reg.STORE_STATUS 6 (decide (4 * n.spareLeft < n.spareInitial))).reportStore
    if n.spareLeft = 0 then s.wf Reg.STORE_STATUS 2 0 3 else (s.wf Reg.STORE_STATUS 2 0 2).event 72

/-! ### Object commands: R464, R465 -/

def storeAccepted (s : State) : State := s.clrBit Reg.STORE_STATUS 4
def storeRefused (s : State) : State := s.setBit Reg.STORE_STATUS 4
/-- A command ends: RESULT, and event 64 or 65. -/
def storeEnd (s : State) (code detail : Nat) : State :=
  (s.wr Reg.STORE_RESULT (BitVec.ofNat 32 (code + 256 * detail))).event (if code = 0 then 64 else 65)
/-- A refusal with a code. -/
def storeDeny (s : State) (code : Nat) : State := s.storeRefused.storeEnd code 0
def storeStart (s : State) (c : StoreCmd) : State :=
  ({ s with store := { s.store with cmd := some c } }.storeAccepted.setBit Reg.STORE_STATUS 3).wr Reg.STORE_RESULT 0

/-- A stem is ARMED or PLAYING on an object. -/
def stemUses (s : State) (n : Nat) : Bool := s.store.stems.any fun e => s.stemActive e.1 && s.rf (Reg.STEM_OBJECT e.1) 15 0 == n

/-- A command is accepted at all: none runs, and the array is mounted. -/
def storeReady (s : State) : Bool := !s.bitOf Reg.STORE_STATUS 3 && s.storeUp

def storeStage (s : State) : Nat := s.rd64 Reg.STORE_STAGE_ADDR_LO

/-- STORE_WRITE (R464): the staged bytes are taken at the acceptance. -/
def storeWrite (s : State) : State :=
  let n := s.rf Reg.STORE_OBJECT 15 0
  let kind := s.rf Reg.STORE_OBJECT 17 16
  let len := s.rd64 Reg.STORE_LEN_LO
  if !s.storeReady then s.storeRefused
  else if (kind == 1) != decide (n < 64) then s.storeDeny 0x02
  else if s.stemUses n then s.storeDeny 0x03
  else if s.nand.capacityMiB * 256 < s.usedSectors + sectorsOf len then s.storeDeny 0x04
  else if s.storeState = 3 then s.storeDeny 0x05
  else
    let r := s.masterRead 12 s.storeStage len
    let c : StoreCmd := { op := 1, object := n, kind := kind, stage := s.storeStage, bytes := r.2.getD [], code := if r.2.isNone then 0x07 else 0 }
    r.1.storeStart c

/-- STORE_READ (R464, R468): the version of the moment is copied. -/
def storeRead (s : State) : State :=
  let n := s.rf Reg.STORE_OBJECT 15 0
  if !s.storeReady then s.storeRefused
  else match s.storeObject n with
    | none => s.storeDeny 0x01
    | some o =>
      let len := min (s.rd64 Reg.STORE_LEN_LO) o.bytes.length
      s.storeStart { op := 2, object := n, kind := o.kind, stage := s.storeStage, bytes := o.bytes.take len, code := if o.lostIn len then 0x06 else 0 }

/-- STORE_DELETE (R464). -/
def storeDelete (s : State) : State :=
  let n := s.rf Reg.STORE_OBJECT 15 0
  if !s.storeReady then s.storeRefused
  else if (s.storeObject n).isNone then s.storeDeny 0x01
  else if s.stemUses n then s.storeDeny 0x03
  else if s.storeState = 3 then s.storeDeny 0x05
  else s.storeStart { op := 3, object := n, kind := 0, stage := 0 }

/-- STORE_INFO (R464) ends at once. -/
def storeInfo (s : State) : State :=
  if !s.storeReady then s.storeRefused
  else
    let o := s.storeObject (s.rf Reg.STORE_OBJECT 15 0)
    let s := s.storeAccepted.wr64 Reg.STORE_INFO_LEN_LO (match o with | some x => x.bytes.length | none => 0)
    (s.wr Reg.STORE_INFO_KIND (match o with | some x => BitVec.ofNat 32 (x.kind + 4) | none => 0)).storeEnd 0 0

/-- STORE_CLEAR_COUNTS (R483, R484). -/
def storeClearCounts (s : State) : State :=
  if s.bitOf Reg.STORE_STATUS 3 then s.storeRefused
  else s.storeAccepted.resetRegs ([Reg.STORE_CORR_MAX, Reg.STORE_RETRIES, Reg.STORE_UNCORRECTABLE, Reg.STORE_REFRESHES, Reg.STORE_WEAR_MOVES,
    Reg.STORE_GROWN_BAD, Reg.STORE_HOLDS] ++ (List.range 256).map fun k => Reg.STEM_UNDERRUNS k)

/-- A write of STORE.CMD (R483). -/
def storeCommand (s : State) (v : Word) : State :=
  match fld v 2 0 with
  | 0 => s
  | 1 => s.storeWrite
  | 2 => s.storeRead
  | 3 => s.storeDelete
  | 4 => s.storeInfo
  | 5 => s.storeClearCounts
  | _ => s.storeRefused

/-- STORE_CMD_DONE (R464, R465, R471): the journal record commits, or the command fails. A WRITE waits while the supply holds it;
a WRITE to a Pattern slot has passed steps 2 to 5 of R71. -/
def storeCmdDone (s : State) : State :=
  match s.store.cmd with
  | none => s
  | some c =>
    if c.op = 1 ∧ s.storeHeld = true then s
    else
      let s : State := { s with store := { s.store with cmd := none } }.clrBit Reg.STORE_STATUS 3
      if c.code ≠ 0 then s.storeEnd c.code 0
      else match c.op with
        | 1 =>
          let check : Check Unit := if c.object < 64 then (checkOuter s.dev s.dev.revoked c.bytes fun n => n == c.bytes.length).map fun _ => () else .ok ()
          (match check with
           | .error r => s.storeEnd 0x08 r.code
           | .ok _ =>
             ({ s with nand := { s.nand with objects := Assoc.put c.object { kind := c.kind, bytes := c.bytes } s.nand.objects } }.reportStore).storeEnd 0 0)
        | 2 =>
          let r := s.masterWrite 12 c.stage c.bytes
          r.1.storeEnd (if r.2 then 0 else 0x07) 0
        | _ => ({ s with nand := { s.nand with objects := Assoc.del c.object s.nand.objects } }.reportStore).storeEnd 0 0

/-! ### Stems: R475 to R478 -/

def stem (s : State) (k : Nat) : StemState := (Assoc.get? k s.store.stems).getD {}
def setStem (s : State) (k : Nat) (x : StemState) : State := { s with store := { s.store with stems := Assoc.put k x s.store.stems } }
def stemRefused (s : State) (k : Nat) : State := s.setBit (Reg.STEM_STATUS k) 4
def setStemState (s : State) (k n : Nat) : State := s.wf (Reg.STEM_STATUS k) 1 0 n

/-- A stem stops delivering: its state, and nothing preloaded or concealed. -/
def endStem (s : State) (k n : Nat) : State := ((s.setStemState k n).clrBit (Reg.STEM_STATUS k) 3).clrBit (Reg.STEM_STATUS k) 5

/-- START_BLOCK and its bound of 30 blocks (R476). -/
def stemStart (s : State) (k : Nat) : Option Nat :=
  let v := s.rd64 (Reg.STEM_START_BLOCK_LO k)
  if v = 0 then some (s.block + 30) else if v < s.block + 30 then none else some v

/-- PLAY (R476). -/
def stemPlay (s : State) (k : Nat) : State :=
  let first := s.rd64 (Reg.STEM_START_SAMPLE_LO k)
  let caps := s.patternActive && s.pat.caps / 2 % 2 == 1
  match s.storeObject (s.rf (Reg.STEM_OBJECT k) 15 0), s.stemStart k with
  | some o, some b =>
    if !caps || !s.storeUp || s.stemActive k || o.kind != 3 || decide (o.bytes.length ≤ 4 * first) then s.stemRefused k
    else
      let s := ((s.clrBit (Reg.STEM_STATUS k) 4).endStem k 1).setStem k { first := first, start := b, pos := first, content := o }
      let s := s.setChan (1536 + k) { s.chan (1536 + k) with gateOut := none, gateIn := none }
      s.restartChannel (1536 + k)
  | _, _ => s.stemRefused k

/-- STOP (R478). -/
def stemStop (s : State) (k : Nat) : State :=
  match s.stemState k with
  | 1 => (s.clrBit (Reg.STEM_STATUS k) 4).endStem k 0
  | 2 => (match s.targetBlock (Reg.STEM_STOP_BLOCK_LO k) with
    | none => s.stemRefused k
    | some b =>
      let s := (s.clrBit (Reg.STEM_STATUS k) 4).setStem k { s.stem k with stop := some b }
      s.setChan (1536 + k) { s.chan (1536 + k) with gateOut := some b, gateIn := none })
  | _ => s.stemRefused k

/-- A write of STEM[k].CMD: a PLAY written with a STOP is refused, and the STOP acts (R476). -/
def stemCommand (s : State) (k : Nat) (v : Word) : State :=
  let s := if bitAt v 1 then s.stemStop k else s
  if bitAt v 0 then (if bitAt v 1 then s.stemRefused k else s.stemPlay k) else s

/-- STEM_PRELOADED (R476). -/
def stemPreloaded (s : State) (k : Nat) : State := if s.stemActive k && s.storeUp then s.setBit (Reg.STEM_STATUS k) 3 else s

/-- The sample a stem delivers at tick `n` (R475, R477): before its first and after its last it is zero; one that is not in the ring
is missing. -/
def stemDeliver (s : State) (k n : Nat) : State :=
  let x := s.stem k
  if n + 16 < 32 * x.start ∨ x.ended = true then s.pushSource (1536 + k) n 0 0 0
  else
    let v : Option Int := if s.bitOf (Reg.STEM_STATUS k) 3 then x.content.sample x.pos else none
    let o := concealStep x.conceal 32 1 (v.map fun y => [y])
    let r : RxStream := { x.conceal with phase := o.2.1, recent := (o.1 :: x.conceal.recent).take 64 }
    let last := decide (x.content.samples ≤ x.pos + 1)
    let loop := s.bitOf (Reg.STEM_CTRL k) 0
    let s := s.setStem k { x with conceal := r, pos := if last && loop then 0 else x.pos + 1, ended := last && !loop }
    let s := if v.isSome then s
      else
        let t := s.count (Reg.STEM_UNDERRUNS k)
        if t.store.underrun then t else { t.event 70 with store := { t.store with underrun := true } }
    let s := s.putBit (Reg.STEM_STATUS k) 5 (match o.2.1 with | .fade _ => true | .silent => true | _ => false)
    s.pushSource (1536 + k) n (o.1.headD 0) 0 0

/-- The stems at tick `n`. -/
def stemTick (s : State) (n : Nat) : State := s.over (s.store.stems.map (·.1)) fun t k => if t.stemActive k then t.stemDeliver k n else t

/-- STEM_END (R475): the sample after the last has been passed. -/
def stemEnd (s : State) (k : Nat) : State := if s.stemActive k && (s.stem k).ended then (s.endStem k 3).event 71 else s

/-- At the boundary that starts block `b` a stem starts to play, or a STOP has ramped it out (R475, R478). -/
def stemBoundary (s : State) (b : Nat) : State :=
  let s := s.over s.store.stems fun t e =>
    let t := if t.stemState e.1 = 1 ∧ e.2.start ≤ b then t.setStemState e.1 2 else t
    match e.2.stop with
    | some k => if t.stemActive e.1 && decide (k < b) then ((t.endStem e.1 3).setStem e.1 { e.2 with stop := none }).event 71 else t
    | none => t
  { s with store := { s.store with underrun := false } }

/-- A full load stops every stem (R478). -/
def stopStems (s : State) : State :=
  s.over (s.store.stems.map (·.1)) fun t k =>
    match t.stemState k with | 1 => t.endStem k 0 | 2 => (t.endStem k 3).event 71 | _ => t

/-! ### Boot flash: R479 to R481 -/

def bootAccepted (s : State) : State := s.clrBit Reg.BOOTF_STATUS 1
def bootRefused (s : State) : State := s.setBit Reg.BOOTF_STATUS 1

/-- Where a slot lies, and its size (R479). -/
def fwSlot (k : Nat) : Nat := 0x1000000 + 0x800000 * k
def patSlot (k : Nat) : Nat := 0x2000000 + 0x2000000 * k
/-- Bytes of the boot flash: the least that R479 allows. -/
def flashSize : Nat := 0x8000000

def flashBytes (s : State) (a n : Nat) : List Byte := Memory.read 0xFF s.flash a n
/-- Erase flash bytes. -/
def flashErase (s : State) (a n : Nat) : State := { s with flash := s.flash.filter fun e => decide (e.1 < a) || decide (a + n ≤ e.1) }
/-- Program flash bytes: a program clears bits. -/
def flashProgram (s : State) (a : Nat) (l : List Byte) : State :=
  { s with flash := Memory.write 0xFF s.flash a (l.zipIdx.map fun e => some (e.1 &&& Memory.get 0xFF s.flash (a + e.2))) }

/-- A firmware image (R480), verified under R62: its FW_VERSION, or the code of R72. -/
def checkFirmware (s : State) (b : List Byte) (lengthOk : Nat → Bool) : Check Nat :=
  let total := leNat b 8 4
  if beNat b 0 4 ≠ 0x46524E57 then .error ⟨0x01, 0x7F, 0, 0⟩
  else if leNat b 4 2 ≠ 0x0100 then .error ⟨0x02, 0x7F, 0, 4⟩
  else if leNat b 6 2 ≠ 64 then .error ⟨0x03, 0x7F, 0, 6⟩
  else if total < 256 ∨ b.length < total ∨ lengthOk total = false then .error ⟨0x04, 0x7F, 0, 8⟩
  else if leNat b 0x24 4 ≠ total - 96 then .error ⟨0x05, 0x7F, 0, 0x24⟩
  else if leNat b 0x0C 4 ≠ 0 ∨ leNat b 0x14 2 ≠ 0 ∨ fits 2 (leNat b 0x16 2) = false ∨ leNat b 0x18 8 ≠ 0 ∨ leNat b 0x28 24 ≠ 0 then .error ⟨0x06, 0x7F, 0, 0x0C⟩
  else if containerCrc b 0 ≠ leNat b 0x20 4 then .error ⟨0x08, 0x7F, 0, 0x20⟩
  else match checkSignature s.dev s.dev.revoked (leNat b 0x16 2) b total with
    | .error r => .error r
    | .ok _ => .ok (leNat b 0x10 4)

/-- The firmware image of a boot-flash slot: as many bytes as its header gives, or the header alone where that is more than a
slot holds, which the check refuses. -/
def slotFirmware (s : State) (k : Nat) : Check Nat :=
  let head := s.flashBytes (fwSlot k) 64
  let n := leNat head 8 4
  s.checkFirmware (if 0x800000 < n then head else s.flashBytes (fwSlot k) (max 64 n)) fun n => decide (n ≤ 0x800000)

/-- FW_VERSION0 and FW_VERSION1 (R485). -/
def reportVersions (s : State) : State :=
  s.over [0, 1] fun t k => t.wr (if k = 0 then Reg.BOOTF_FW_VERSION0 else Reg.BOOTF_FW_VERSION1)
    (match t.slotFirmware k with | .ok v => BitVec.ofNat 32 v | .error _ => 0)

/-- The descriptor in force: of the copy with the higher sequence number (R479). -/
def descriptor (s : State) : Option BootDescriptor :=
  match s.bootCopies with
  | [some a, some b] => some (if a.seq < b.seq then b else a)
  | [some a, none] => some a
  | [none, some b] => some b
  | _ => none
def bootCfg (s : State) : Word := match s.descriptor with | some d => d.cfg | none => 0

/-- The bytes of a boot source: kind 1 a show-store slot, 2 a boot-flash slot. -/
def bootSource (s : State) (kind slot : Nat) : Option (List Byte) :=
  match kind with
  | 1 => if s.dev.part.hasStore && s.storeUp then (s.storeObject slot).map (·.bytes) else none
  | 2 => if slot < 2 then some (s.flashBytes (patSlot slot) 64) else none
  | _ => none

/-- SET_BOOT may name the source (R474). -/
def bootNameable (s : State) (kind slot : Nat) : Bool :=
  kind == 0 || match s.bootSource kind slot with | some b => beNat b 0 4 == 0x46524E50 && (readHeader b).boot | none => false

def bootStart (s : State) (op slot addr len : Nat) (staged : Bool) : State :=
  let stage := s.rd64 Reg.BOOTF_STAGE_ADDR_LO
  let r := if staged then s.masterRead 2 stage len else (s, some [])
  let c : BootCmd := { op := op, slot := slot, addr := addr, stage := stage, len := len, bytes := r.2.getD [], failed := r.2.isNone }
  (({ r.1 with bootf := { r.1.bootf with cmd := some c } }).bootAccepted.setBit Reg.BOOTF_STATUS 0)

def bootBusy (s : State) : Bool := s.bitOf Reg.BOOTF_STATUS 0

/-- INSTALL_FW (R481): refused for the slot of the running firmware. The slot is erased first, once the supply allows it. -/
def installFw (s : State) (slot : Nat) : State :=
  let len := (s.rd Reg.BOOTF_LEN).toNat
  if s.bootBusy || s.host.runningSlot == some slot || decide (0x800000 < len) then s.bootRefused
  else
    let s := s.bootStart 1 slot (fwSlot slot) len true
    if s.storeHeld then s else s.flashErase (fwSlot slot) 0x800000

/-- INSTALL_PAT (R481). -/
def installPat (s : State) (slot : Nat) : State :=
  let len := (s.rd Reg.BOOTF_LEN).toNat
  if s.bootBusy || decide (0x2000000 < len) then s.bootRefused
  else
    let s := s.bootStart 2 slot (patSlot slot) len true
    if s.storeHeld then s else s.flashErase (patSlot slot) 0x2000000

/-- SET_BOOT (R474). -/
def setBoot (s : State) : State :=
  let c := s.bootf.cfg
  if s.bootBusy || !s.bootNameable (fld c 1 0) (fld c 7 2) || !s.bootNameable (fld c 9 8) (fld c 15 10) then s.bootRefused
  else s.bootStart 3 0 0 0 false

/-- A range of the user area (R481). -/
def inUserArea (a n : Nat) : Bool := decide (0x6000000 ≤ a) && decide (a + n ≤ flashSize)

/-- READ, PROGRAM and ERASE of the user area (R481). -/
def bootUser (s : State) (op : Nat) : State :=
  let a := (s.rd Reg.BOOTF_FLASH_ADDR).toNat
  let len := (s.rd Reg.BOOTF_LEN).toNat
  if s.bootBusy || !inUserArea a len then s.bootRefused else s.bootStart op 0 a len (op == 5)

/-- A write of BOOTF.CMD (R485). -/
def bootCommand (s : State) (v : Word) : State :=
  match fld v 2 0 with
  | 0 => s
  | 1 => s.installFw (fld v 3 3)
  | 2 => s.installPat (fld v 3 3)
  | 3 => s.setBoot
  | 4 => s.bootUser 4
  | 5 => s.bootUser 5
  | 6 => s.bootUser 6
  | _ => s.bootRefused

/-- A command ends: RESULT and event 212. -/
def bootEnd (s : State) (code : Nat) : State := (s.wf Reg.BOOTF_STATUS 15 8 code).event 212

/-- Write the descriptor: the copy with the lower sequence number takes it, above the other's (R479). -/
def writeDescriptor (s : State) : State :=
  let seq (k : Nat) : Nat := match s.bootCopies.getD k none with | some d => d.seq | none => 0
  let k := if seq 1 < seq 0 ∨ (s.bootCopies.getD 1 none).isNone ∧ (s.bootCopies.getD 0 none).isSome then 1 else 0
  { s with bootCopies := s.bootCopies.set k (some ⟨max (seq 0) (seq 1) + 1, s.bootf.cfg⟩) }

/-- BOOTF_CMD_DONE (R481): what programs or erases waits while the supply holds it (R471). -/
def bootCmdDone (s : State) : State :=
  match s.bootf.cmd with
  | none => s
  | some c =>
    if c.op ≠ 4 ∧ s.storeHeld = true then s
    else
      let s : State := { s with bootf := { s.bootf with cmd := none } }.clrBit Reg.BOOTF_STATUS 0
      match c.op with
      | 1 =>
        let s := s.flashErase c.addr 0x800000
        if c.failed then (s.bootEnd 0x07).reportVersions
        else (match s.checkFirmware c.bytes (fun n => n == c.bytes.length) with
          | .error r => (s.bootEnd r.code).reportVersions
          | .ok _ => ((s.flashProgram c.addr c.bytes).bootEnd 0).reportVersions)
      | 2 =>
        let s := s.flashErase c.addr 0x2000000
        if c.failed then s.bootEnd 0x07
        else (match checkOuter s.dev s.dev.revoked c.bytes (fun n => n == c.bytes.length) with
          | .error r => s.bootEnd r.code
          | .ok _ => (s.flashProgram c.addr c.bytes).bootEnd 0)
      | 3 => s.writeDescriptor.bootEnd 0
      | 4 =>
        let r := s.masterWrite 2 c.stage (s.flashBytes c.addr c.len)
        r.1.bootEnd (if r.2 then 0 else 0x07)
      | 5 => if c.failed then s.bootEnd 0x07 else (s.flashProgram c.addr c.bytes).bootEnd 0
      | _ =>
        let first := c.addr / 65536 * 65536
        let last := if c.len = 0 then first else (c.addr + c.len + 65535) / 65536 * 65536
        (s.flashErase first (last - first)).bootEnd 0

/-! ### The boot Pattern: R473 -/

/-- Load one boot source through PAT and commit it: the code of its rejection, 0 once its commit is scheduled. -/
def bootLoad (s : State) (kind slot : Nat) : State × Nat × Bool :=
  if kind = 0 then (s, 0, false)
  else
    let s := ((s.wr Reg.PAT_SOURCE (BitVec.ofNat 32 (kind + slot * 256))).wr64 Reg.PAT_COMMIT_BLOCK_LO 0).patLoad.patVerifyDone none
    match s.pat.shadow with
    | none => (s, s.rf Reg.PAT_REJECT 7 0, false)
    | some sh =>
      if !sh.boot || !sh.full then (s.bumpFree.patDiscard, s.freeWord.toNat % 256, false)
      else
        let s := s.patCommit
        if s.patState = 4 then (s, 0, true) else (s.patDiscard, s.rf Reg.PAT_REJECT 7 0, false)

/-- BOOT_PATTERN_SELECT (R473): with the firmware running and the sources readable, A is loaded and committed, or B. -/
def bootPatternSelect (s : State) : State :=
  let c := s.bootCfg
  let waits (kind : Nat) : Bool := kind == 1 && s.storeState == 1
  if s.rf Reg.HOST_STATUS 1 0 ≠ 2 ∨ s.patternActive = true ∨ s.patState ≠ 0 ∨ (waits (fld c 1 0) || waits (fld c 9 8)) = true then s
  else
    let a := s.bootLoad (fld c 1 0) (fld c 7 2)
    let s := (a.1.clrBit Reg.BOOTF_STATUS 3).wr Reg.BOOTF_PAT_REJECT (BitVec.ofNat 32 a.2.1)
    if a.2.2 then s
    else
      let b := (s.setPatState 0).bootLoad (fld c 9 8) (fld c 15 10)
      let s := b.1.wf Reg.BOOTF_PAT_REJECT 15 8 b.2.1
      if b.2.2 then s.setBit Reg.BOOTF_STATUS 3 else s.setPatState 0

end State

end Sys2Proof.Machine
end

