-- ==== Sys2Proof/Machine/Host.lean ====
section
/-! DEFINITION. The host interface: PCIe link and power state (R486, R488, R502, R511), event and vector commands
(R493 to R503, R508), the mailbox and its services (R504 to R507). -/

namespace Sys2Proof.Machine

namespace State

/-! ### Transactions of a master that is reset: R446 -/

/-- The outstanding transactions of a master that is reset still execute, and their responses are discarded. -/
def orphanMaster (s : State) (m : Nat) : State :=
  { s with mtx := { s.mtx with txns := s.mtx.txns.map fun t => if t.burst.master = m then { t with orphan := true } else t } }

/-! ### Event sources and vectors -/

/-- EVENT_ASSERT: `pulses` occurrences of an edge source, or an assertion of a level source. Pulses that come through a pulse
crossing (by its bit of CLK.CROSS_OVF) saturate at 255 (R517). -/
def assertSource (s : State) (n pulses : Nat) (crossing : Option Nat) : State :=
  let lost := decide (255 < pulses) && crossing.isSome
  let s := match crossing with
    | some c => if lost && decide (c < 7) then s.setBit Reg.CLK_CROSS_OVF c else s
    | none => s
  if sourceIsLevel n then s.levelAssert n else s.eventTimes n (if lost then 255 else pulses)

/-- PENDING_CLEAR (R493, R494), and an edge source that asserts in the same cycle: its bit stays set. -/
def pendingClear (s : State) (w : Nat) (v : Word) (same : Option Nat) : State :=
  if 8 ≤ w then s
  else
    let s := s.clearPending w v
    match same with
    | some n => if n / 32 = w ∧ sourceIsLevel n = false then s.event n else s
    | none => s

/-- VEC_CFG_WRITE (R497, R509): a field written outside its range keeps its value; a condition met by the write raises the
vector in the next cycle. -/
def vecCfgWrite (s : State) (k : Nat) (v : Word) : State :=
  if 8 ≤ k then s
  else
    let o := Reg.VEC_CFG k
    let s := if 1 ≤ fld v 10 0 ∧ fld v 10 0 ≤ 1024 then s.wf o 10 0 (fld v 10 0) else s
    let s := if 1 ≤ fld v 29 16 ∧ fld v 29 16 ≤ 10000 then s.wf o 29 16 (fld v 29 16) else s
    s.raiseIfMet k

/-- VEC_ACK (R498). -/
def vecAck (s : State) (k : Nat) : State := if 8 ≤ k then s else s.ackVector k

/-- VECTOR_TIMER (R497): the running timer of vector k reaches TIME. -/
def vectorTimer (s : State) (k : Nat) : State :=
  match s.vecTimer k with
  | some t => (s.setTimer k (some (max t ((s.rf (Reg.VEC_CFG k) 29 16 * 3145728 + 999) / 1000)))).raiseIfMet k
  | none => s

/-- EVT.DOORBELL (R495). -/
def doorbell (s : State) (v : Word) : State :=
  s.over (List.range 32) fun t d => if bitAt v d then t.event (224 + d) else t

/-- EVT.CMD.CLEAR_COUNTS (R508, R509). -/
def evtClearCounts (s : State) : State :=
  s.resetRegs ([Reg.EVT_LATE_DELIVERY, Reg.EVT_MERGED, Reg.EVT_PME_COUNT] ++ (List.range 8).map Reg.VEC_RAISES)

def hostClearCounts (s : State) : State := s.resetRegs [Reg.HOST_PARTIAL_WRITES, Reg.HOST_LINK_DOWNS]

/-! ### Link and power state: R502, R511 -/

/-- The messages that waited for L0 leave (R502). -/
def wakeDone (s : State) : State :=
  s.over (List.range 8) fun t k =>
    if t.wakeWait k then
      let t := t.clrBit (Reg.VEC_STATUS k) 1
      if !t.evt.msixEnable then t else if t.vectorMasked k then t.setBit 0x270800 k else t.sendVector k
    else t

/-- The messages of raises in D3hot leave once the function is in D0 with MSI-X enabled (R502). -/
def releaseHeld (s : State) : State :=
  if s.inD3 || !s.evt.msixEnable then s
  else s.over (List.range 8) fun t k =>
    if (t.evt.d3Held.getD k false) then
      let t : State := { t with evt := { t.evt with d3Held := t.evt.d3Held.set k false } }
      if t.linkPm = 1 ∨ t.linkPm = 2 then t.deliverVector k else (t.count Reg.EVT_LATE_DELIVERY).deliverVector k
    else t

/-- LINK_WAKE_DONE (R502): the link reaches L0. -/
def linkWakeDone (s : State) : State := (s.wf Reg.HOST_STATUS 10 9 0).wakeDone

/-- PCIE_LINK_CHANGE (R511): the link's state, speed, width and power state. -/
def pcieLinkChange (s : State) (up : Bool) (speed width pm : Nat) : State :=
  let speed := if up then speed else 0
  let width := if up then width else 0
  let was := (s.bitOf Reg.HOST_STATUS 2, s.rf Reg.HOST_STATUS 5 3, s.rf Reg.HOST_STATUS 8 6)
  let s := if was.1 && !up then s.count Reg.HOST_LINK_DOWNS else s
  let s := ((((s.putBit Reg.HOST_STATUS 2 up).wf Reg.HOST_STATUS 5 3 speed).wf Reg.HOST_STATUS 8 6 width).wf Reg.HOST_STATUS 10 9 pm)
  let s := if was = (up, speed, width) then s else s.event 208
  if s.linkPm = 0 then s.wakeDone else s

/-- D3HOT_CHANGE (R511). -/
def d3hotChange (s : State) (d3 : Bool) : State :=
  if s.inD3 = d3 then s else ((s.putBit Reg.HOST_STATUS 11 d3).event 209).releaseHeld

/-- A write of the MSI-X Message Control bits in configuration space (R501). -/
def msixControl (s : State) (enable mask : Bool) : State :=
  let s : State := { s with evt := { s.evt with msixEnable := enable, functionMask := mask } }
  ((s.putBit Reg.HOST_STATUS 12 enable).releaseMasked).releaseHeld

/-- FUNCTION_RESET (R488). -/
def functionReset (s : State) : State :=
  let s := s.orphanMaster 0
  let s := if s.inD3 then (s.clrBit Reg.HOST_STATUS 11).event 209 else s
  let s := (s.clrBit Reg.HOST_STATUS 12).resetRegs ((List.range 32).map (fun k => 0x270000 + 4 * k) ++ [0x270800])
  let s := s.resetRegs ((List.range 8).flatMap (fun k => [Reg.VEC_CFG k, Reg.VEC_STATUS k, Reg.VEC_RAISES k]) ++
    (List.range 8).map Reg.EVT_ENABLE ++ [Reg.EVT_CTRL])
  let s : State := { s with evt := {} }
  let s : State := if s.bitOf Reg.HOST_MB_STATUS 0 then { s with host := { s.host with discardReply := true } } else s
  s.event 214

/-- PARTIAL_WRITE_DISCARD (R487). -/
def partialWrite (s : State) : State := (s.count Reg.HOST_PARTIAL_WRITES).event 210

/-! ### The mailbox: R504 to R507 -/

/-- FW_STATE: 0 ROM, 1 ROM_WAIT, 2 RUNNING, 3 FAULT. Every change raises event 213. -/
def fwState (s : State) : Nat := s.rf Reg.HOST_STATUS 1 0
def setFwState (s : State) (n : Nat) : State := if s.fwState = n then s else (s.wf Reg.HOST_STATUS 1 0 n).event 213

def mbBusy (s : State) : Bool := s.bitOf Reg.HOST_MB_STATUS 0
def mbService (s : State) : Nat := s.rf (Reg.HOST_MB_REQ 0) 15 0
def mbLength (s : State) : Nat := s.rf (Reg.HOST_MB_REQ 0) 31 16
/-- Payload word i of the request, and a 64-bit address from payload word i. -/
def mbWord (s : State) (i : Nat) : Nat := (s.rd (Reg.HOST_MB_REQ (2 + i))).toNat
def mbAddress (s : State) (i : Nat) : Nat := s.mbWord i + s.mbWord (i + 1) * 2 ^ 32

/-- A write of MB_DOORBELL (R504). -/
def mbDoorbell (s : State) : State :=
  let o := Reg.HOST_MB_STATUS
  if s.mbBusy then s.setBit o 2
  else
    let s : State := { s with host := { s.host with reply := none, discardReply := false } }
    ((s.setBit o 0).clrBit o 1).clrBit o 2

/-- The firmware has formed a reply. -/
def mbForm (s : State) (result : Nat) (payload : List Word) : State :=
  { s with host := { s.host with reply := some ⟨result, payload⟩ } }

/-- A service runs for the request in progress: not before the last reply has gone, nor in a firmware state in which nothing
serves the mailbox. The payload length is that of the service, or RESULT is 0x02; the boot ROM answers the services it does
not have with 0x03 (R504 to R506). -/
def mbServe (s : State) (service length : Nat) (rom : Bool) (f : State → State) : State :=
  if !s.mbBusy || s.host.reply.isSome || s.mbService != service || s.fwState == 0 || s.fwState == 3 then s
  else if s.mbLength ≠ length then s.mbForm 0x02 []
  else if s.fwState = 1 ∧ rom = false then s.mbForm 0x03 []
  else f s

/-- GET_INFO (R505). The boot ROM's version, and the slot of an image that came through FW_LOAD, are free values. -/
def getInfo (s : State) : State :=
  s.mbServe 0x0001 0 true fun s =>
    let slot := match s.host.runningSlot with | some k => BitVec.ofNat 32 k | none => s.freeWord
    let s := s.bumpFree
    (s.mbForm 0 [s.rd Reg.HOST_FW_VERSION, slot, s.freeWord, BitVec.ofNat 32 (s.uptime / 3145728000)]).bumpFree

/-- FW_LOAD (R505): the staged image is verified and runs from DRAM. -/
def fwLoad (s : State) : State :=
  s.mbServe 0x0002 12 true fun s =>
    if s.fwState ≠ 1 then s.mbForm 0x03 []
    else
      let r := s.masterRead 2 (s.mbAddress 0) (s.mbWord 2)
      match r.2 with
      | none => r.1.mbForm 0x04 []
      | some b => match s.checkFirmware b (fun n => n == b.length) with
        | .error e => r.1.mbForm 0x05 [BitVec.ofNat 32 e.code]
        | .ok v =>
          let s := (r.1.wr Reg.HOST_FW_VERSION (BitVec.ofNat 32 v)).setFwState 2
          ({ s with host := { s.host with runningSlot := none } }).mbForm 0 []

/-- SDP_TO_RXS (R505): the firmware's reading of the text is a free function of it; the words go to RXS[s] without ENABLE. -/
def sdpToRxs (s : State) : State :=
  s.mbServe 0x0010 16 false fun s =>
    let i := s.mbWord 0
    let n := s.mbWord 3
    if 128 ≤ i ∨ 16384 < n then s.mbForm 0x02 []
    else if s.bitOf (Reg.RXS_CTRL i) 0 then s.mbForm 0x03 []
    else
      let r := s.masterRead 2 (s.mbAddress 1) n
      match r.2 with
      | none => r.1.mbForm 0x04 []
      | some b => match Config.sdpParse b with
        | none => r.1.mbForm 0x04 []
        | some f =>
          let vals : List (Nat × Word) := (List.range 13).map fun k =>
            let o := 0x190004 + 0x100 * i + 4 * k
            (o, f k &&& (regSpec s.dev o).rw &&& (if k = 0 then 0xFFFFFFFE else 0xFFFFFFFF))
          (r.1.over vals fun t e => t.wr e.1 e.2).mbForm 0 (vals.map (·.2))

/-- TXS_TO_SDP (R505): the text is a free function of the block's words. -/
def txsToSdp (s : State) : State :=
  s.mbServe 0x0011 16 false fun s =>
    let i := s.mbWord 0
    if 128 ≤ i then s.mbForm 0x02 []
    else
      let text := Config.sdpText ((List.range 11).map fun k => s.rd (0x198004 + 0x100 * i + 4 * k))
      if s.mbWord 3 < text.length then s.mbForm 0x04 []
      else
        let r := s.masterWrite 2 (s.mbAddress 1) text
        r.1.mbForm (if r.2 then 0 else 0x04) (if r.2 then [BitVec.ofNat 32 text.length] else [])

/-- PTP_STATUS (R505): the words in the order in which R505 names the items. -/
def ptpStatus (s : State) : State :=
  s.mbServe 0x0020 0 false fun s =>
    let p := s.time.ptp
    s.mbForm 0 (p.portState.map (BitVec.ofNat 32) ++ [s.rd Reg.TIME_GM_ID_LO, s.rd Reg.TIME_GM_ID_HI, BitVec.ofNat 32 p.priorities,
      BitVec.ofNat 32 p.stepsRemoved] ++ p.pathDelay.map wordOfInt)

/-- LOG_READ (R505): the log's content is the firmware's own, so the reply is free words, as many as a reply holds at most. -/
def logRead (s : State) : State :=
  s.mbServe 0x0030 8 false fun s =>
    let n := s.freeWord.toNat % 254
    let l := (List.range n).map fun k => Config.freeWord (s.freeIdx + 1 + k)
    ({ s with freeIdx := s.freeIdx + 1 + n }).mbForm 0 l

/-- A service number outside R505. -/
def mbUnknown (n : Nat) : Bool := !([0x0001, 0x0002, 0x0010, 0x0011, 0x0020, 0x0030, 0x0040].contains n)

/-- MAILBOX_REPLY (R504): the reply formed is written, or after a function reset discarded (R488). -/
def mailboxReply (s : State) : State :=
  let s := if s.mbBusy && s.host.reply.isNone && mbUnknown s.mbService && (s.fwState == 1 || s.fwState == 2) then s.mbForm 0x01 [] else s
  match s.mbBusy, s.host.reply with
  | true, some r =>
    let drop := s.host.discardReply
    let s := ({ s with host := { s.host with reply := none, discardReply := false } }).clrBit Reg.HOST_MB_STATUS 0
    if drop then s
    else
      let words : List Word := [BitVec.ofNat 32 (s.mbService + 4 * r.payload.length * 65536), s.rd (Reg.HOST_MB_REQ 1),
        BitVec.ofNat 32 r.result] ++ r.payload
      let s := s.over words.zipIdx fun t e => t.wr (Reg.HOST_MB_REPLY e.2) e.1
      (s.setBit Reg.HOST_MB_STATUS 1).event 211
  | _, _ => s

/-- MAILBOX_RESET (R505, R526): the reply leaves at once, and the reset acts 1 ms (96 ticks) later. -/
def mailboxReset (s : State) : State :=
  s.mbServe 0x0040 4 false fun s =>
    if 3 ≤ s.mbWord 0 then s.mbForm 0x02 []
    else
      let t := s.mbWord 0
      ({ s with host := { s.host with resetDue := some (t, 96) } }.mbForm 0 []).mailboxReply

/-- FW_HEARTBEAT_STALL (R507). -/
def heartbeatStall (s : State) : State :=
  if s.fwState = 2 then ({ s with host := { s.host with faultTicks := 0 } }).setFwState 3 else s

end State

end Sys2Proof.Machine
end

