-- ==== Sys2Proof/Machine/Clock.lean ====
section
/-! DEFINITION. Clocks, crossings, power and reset: the root PLL and the references (R512 to R514), FIFO crossings (R519),
supply dips (R523), the thermal monitor (R525), the resets (R524, R526 to R528) and the start-up (R529). -/

namespace Sys2Proof.Machine

namespace State

/-! ### References and the root PLL -/

/-- REFCLK_CHANGE (R513): REFCLK_25 or REFCLK_10 becomes present or absent. -/
def refclkChange (s : State) (ref25 : Bool) (present : Bool) : State := s.putBit Reg.CLK_CLK_STATUS (if ref25 then 1 else 2) present

/-- PLL_UNLOCK (R514). TDM, the streams, the links and the heartbeats stop while source 4 is live. -/
def pllUnlock (s : State) : State :=
  if s.bitOf Reg.CLK_CLK_STATUS 0 then ((s.clrBit Reg.CLK_CLK_STATUS 0).count Reg.CLK_PLL_UNLOCKS).level 4 true else s

/-! ### Resets: R526 -/

/-- A reset of everything outside the always-on domain: OTP, NAND, boot flash, RST_CAUSE and RESETS stay; DRAM contents are
not preserved (R520). A reset is held until RESET_RELEASE. -/
def deviceReset (s : State) (cause rails : Nat) : State :=
  let t : State := { dev := s.dev, nand := s.nand, bootCopies := s.bootCopies, flash := s.flash, freeIdx := s.freeIdx,
                     outbox := s.outbox, readData := s.readData, pending := s.pending }
  (t.wr Reg.CLK_RESETS (s.rd Reg.CLK_RESETS)).wr Reg.CLK_RST_CAUSE (BitVec.ofNat 32 (cause + rails % 2048 * 16))

/-- POR clears RESETS as well. -/
def powerOnReset (s : State) : State := (s.deviceReset 0 0).wr Reg.CLK_RESETS 0

/-- A BROWNOUT: rails other than VDD_AON (bit 0) below their reset level (R524). -/
def brownout (s : State) (rails : Nat) : State := let r := rails % 2048 / 2 * 2; if r = 0 then s else s.deviceReset 1 r

/-- Ticks of the 100 ms in which a FIRMWARE reset has the firmware back (R526). -/
def firmwareTicks : Nat := 9600

/-- A FIRMWARE reset (R526): the firmware, the mailbox, the tunnel's key slots and its TCP sessions. -/
def firmwareReset (s : State) : State :=
  let s := s.orphanMaster 2
  let s := s.resetRegs ([Reg.HOST_MB_STATUS] ++ (List.range 256).map Reg.HOST_MB_REQ ++ (List.range 256).map Reg.HOST_MB_REPLY ++
    (List.range 16).map Reg.NETC_KEY_CTRL ++ (List.range 16).map Reg.NETC_LAST_SEQ)
  let s : State := { s with net := { s.net with slots := List.replicate 17 {}, tunnel := s.net.tunnel.filter fun r => !r.tcp } }
  let s := s.setFwState 0
  { s with host := { s.host with reply := none, discardReply := false, heartbeatTicks := 0, faultTicks := 0, resetDue := none,
                                 fwRestart := some firmwareTicks } }

/-- The reset types of the mailbox RESET (R526). -/
def resetType (s : State) (t : Nat) : State := if t = 0 then s.deviceReset 4 0 else if t = 1 then s.firmwareReset else s.functionReset

/-- PERST (R526). -/
def perst (s : State) : State := if s.bitOf Reg.CLK_RST_CFG 0 then s.deviceReset 6 0 else s.functionReset

/-- WATCHDOG (R528): FAULT has lasted WDOG_TIME × 100 ms. -/
def watchdog (s : State) : State :=
  if s.bitOf Reg.CLK_RST_CFG 1 ∧ s.fwState = 3 ∧ s.rf Reg.CLK_RST_CFG 15 8 * 9600 ≤ s.host.faultTicks then s.deviceReset 5 0 else s

/-- PLL_RELOCK (R514). -/
def pllRelock (s : State) : State := if s.rootUnlocked then s.deviceReset 7 0 else s

/-- CMD.CLEAR_COUNTS (R530): TJ_MAX starts again at the present reading. -/
def clkClearCounts (s : State) : State :=
  (s.resetRegs [Reg.CLK_DIPS, Reg.CLK_CROSS_RESYNCS, Reg.CLK_FIFO_DROPS, Reg.CLK_PLL_UNLOCKS]).wr Reg.CLK_TJ_MAX (s.rd Reg.CLK_TJ)

/-- A write of RST.CMD acts only with its KEY (R527). -/
def keyed (s : State) (key : Nat) (f : State → State) : State := if key = 0xA5C3 then f s else s

def clkCommand (s : State) (v : Word) : State :=
  s.keyed (fld v 31 16) fun s =>
    let s := if bitAt v 0 then s.clkClearCounts else s
    if bitAt v 1 then s.deviceReset 3 0 else if bitAt v 2 then s.firmwareReset else s

/-! ### Supply and temperature -/

/-- PWR_STATUS and source 0 for the rails now below warning. -/
def reportRails (s : State) (rails : Nat) : State :=
  ((s.putBit Reg.CLK_PWR_STATUS 0 (decide (0 < rails % 2048))).wf Reg.CLK_PWR_STATUS 18 8 rails).level 0 (decide (0 < rails % 2048))

/-- SUPPLY_WARN (R471, R523): the rails that are below their warning level from time `t` (µs) on. The first of a dip starts the
hold of NAND and boot flash; a later one extends the dip. -/
def supplyWarn (s : State) (rails t : Nat) : State :=
  let open_ := s.bitOf Reg.CLK_PWR_STATUS 1
  if rails % 2048 = 0 ∧ open_ = false then s
  else
    let s := s.reportRails rails
    if open_ then { s with clk := { s.clk with dipLast := max s.clk.dipLast t } }
    else
      let s : State := { s with clk := { s.clk with dipFirst := t, dipLast := t } }
      (((s.setBit Reg.CLK_PWR_STATUS 1).setBit Reg.STORE_STATUS 5).when s.dev.part.hasStore (·.count Reg.STORE_HOLDS))

/-- DIP_END (R523): every rail has stayed above warning for 1 ms since time `last` (µs). -/
def dipEnd (s : State) (last : Nat) : State :=
  if !s.bitOf Reg.CLK_PWR_STATUS 1 then s
  else
    let last := max last s.clk.dipLast
    let s := s.reportRails 0
    let s := (s.wr Reg.CLK_DIP_DURATION (BitVec.ofNat 32 (min (last - s.clk.dipFirst) 0xFFFFFFFF))).count Reg.CLK_DIPS
    ((s.clrBit Reg.CLK_PWR_STATUS 1).clrBit Reg.STORE_STATUS 5).event 1

/-- TSENSE_ECAL, or TSENSE_FCAL where GAUGE is absent (R525). -/
def tsenseEcal (s : State) : Int :=
  if s.dev.part.hasGauge then effective (s.rd Reg.GAUGE_TSENSE_FCAL) (s.inForce Reg.GAUGE_TSENSE_UCAL) 1000
  else effective (s.dev.fcalWord 0x184) 0 1000

/-- The thermal warning (R525). -/
def reportThermal (s : State) : State :=
  let warn := decide ((s.rf Reg.CLK_THERM_CFG 15 0 : Int) ≤ (s.rd Reg.CLK_TJ).toInt)
  (s.putBit Reg.CLK_PWR_STATUS 2 warn).level 2 warn

/-- THERMAL_SAMPLE (R525): a reading of the die sensor in 0.01 °C. A THERMAL reset is held until TJ falls below 110.00 °C. -/
def thermalSample (s : State) (raw : Int) : State :=
  let tj := raw + s.tsenseEcal
  if s.clk.thermalHold then { s with clk := { s.clk with thermalHold := decide (11000 ≤ tj) } }
  else
    let s := s.wr Reg.CLK_TJ (satWord tj)
    let s := if (s.rd Reg.CLK_TJ_MAX).toInt < tj then s.wr Reg.CLK_TJ_MAX (satWord tj) else s
    let s := if s.dev.part.hasGauge then s.wr Reg.GAUGE_DIE_TEMP (satWord tj) else s
    { s.reportThermal with clk := { s.clk with hotSamples := if 13500 ≤ tj then s.clk.hotSamples + 1 else 0 } }

/-- THERMAL_RESET (R525): every sample of 1 ms (10 samples) was at or above 135.00 °C. -/
def thermalReset (s : State) : State :=
  if 10 ≤ s.clk.hotSamples then
    let s := s.deviceReset 2 0
    { s with clk := { s.clk with thermalHold := true, thermalTrip := true } }
  else s

/-! ### FIFO crossings: R519 -/

/-- FIFO_RESYNC: entries held by a link's FIFO (a TDM slave's are those of its frame FIFOs) and writes offered meanwhile are
dropped; a TDM slave acquires again. -/
def fifoResync (s : State) (c : Crossing) (held offered : Nat) : State :=
  let done (t : State) (n : Nat) : State := (t.countBy Reg.CLK_FIFO_DROPS (n + offered)).count Reg.CLK_CROSS_RESYNCS
  match c with
  | .net p => if p < 2 then done s held else s
  | .cas p => if p < s.dev.part.casPorts then done s held else s
  | .tdm n =>
    if 32 ≤ n ∨ s.tdmMaster n then s
    else
      let p := s.tdmPort n
      let s := done s (p.rxFifo.length + p.txFifo.length)
      let s := (s.setTdm n { p with rxFifo := [], txFifo := [] }).tdmReportFifo n
      if s.tdmState n = 2 then (s.wf (Reg.TDM_STATUS n) 2 0 1).tdmFade n else s.setTdm n { s.tdmPort n with valid := 0 }

/-! ### Start-up: R529 -/

/-- Steps 1 to 4: the PLL locks, the failed tiles are fenced (R312), the Needles are ACTIVE and the DRAM channels that trained are
ONLINE (R455). -/
def startHardware (s : State) (failed trained : List Nat) : State :=
  let s := ((s.count Reg.CLK_RESETS).setBit Reg.CLK_CLK_STATUS 3).setBit Reg.CLK_CLK_STATUS 0
  let s : State := if s.clk.thermalTrip then { s.event 3 with clk := { s.clk with thermalTrip := false } } else s
  let s := s.tilePowerOn failed
  let s := s.over (List.range s.dev.part.needles) fun t h => t.wf (Reg.NDL_STATUS h) 2 0 1
  s.over (List.range s.dev.part.dramChannels) fun t n =>
    if trained.contains n then t.wf (Reg.DRAM_STATUS n) 1 0 1 else (t.wf (Reg.DRAM_STATUS n) 1 0 3).event 52

/-- Step 5: the firmware slot of the descriptor, or the other one, or the wait for FW_LOAD (R480). -/
def startFirmware (s : State) : State :=
  let k := fld s.bootCfg 16 16
  let run (t : State) (slot v : Nat) (fallback : Bool) : State :=
    let t : State := { t with host := { t.host with runningSlot := some slot } }
    ((t.wf Reg.BOOTF_STATUS 2 2 (b2n fallback)).wf Reg.BOOTF_STATUS 4 4 slot).wr Reg.HOST_FW_VERSION (BitVec.ofNat 32 v) |>.setFwState 2
  let s : State := { s.reportVersions with bootf := { s.bootf with cfg := s.bootCfg } }
  match s.slotFirmware k, s.slotFirmware (1 - k) with
  | .ok v, _ => run s k v false
  | .error _, .ok v => run s (1 - k) v true
  | .error _, .error _ => s.setFwState 1

/-- RESET_RELEASE (R529 steps 1 to 5, and the start of step 6): not while a THERMAL reset is held, and not on a device that has
already started. -/
def resetRelease (s : State) (failed trained : List Nat) : State :=
  if s.clk.thermalHold || s.bitOf Reg.CLK_CLK_STATUS 3 then s
  else
    let s := (s.startHardware failed trained).startFirmware
    if s.dev.part.hasStore then (s.wf Reg.STORE_STATUS 2 0 1).wf Reg.STORE_STATUS 15 8 s.nand.channels else s

end State

end Sys2Proof.Machine
end

