-- ==== Sys2Proof/Machine/Access.lean ====
section
/-! DEFINITION. Register accesses: what a read of a BAR0 offset returns (R9, R16, R17, R491) and what a write of it does (R9, R11,
R17, R18), whoever sends it. A write of a register that has a command of its own is that command's effect. -/

namespace Sys2Proof.Machine

/-! ### The generic write: R17, R18 -/

/-- The value a field of a write holds. -/
def FieldRange.value (r : FieldRange) (v : Word) : Int := (fld v r.hi r.lo : Int)

/-- The value a write gives a field lies in the field's range. -/
def FieldRange.admits (r : FieldRange) (v : Word) : Bool := decide (r.min ≤ r.value v) && decide (r.value v ≤ r.max)

/-- The word a register holds after a write: RW bits take the value, W1C bits written 1 clear, a field written outside its
range keeps its value, and a write that a field's table ignores leaves the register alone. -/
def RegSpec.store (sp : RegSpec) (old v : Word) : Word :=
  if sp.ranges.any fun r => r.whole && !r.admits v then old
  else
    let w := ((old &&& ~~~sp.rw) ||| (v &&& sp.rw)) &&& ~~~(v &&& sp.w1c)
    sp.ranges.foldl (fun w r => if r.admits v then w else setFld w r.hi r.lo (fld old r.hi r.lo)) w

/-- Presence of the unit behind a block's word (R8, R9): the Gauge words of an output need GAUGE. -/
def Part.hasReg (p : Part) (b : Block) (i o : Nat) : Bool := p.has b i && !(b == .spk && decide (0x100 ≤ o) && !p.hasGauge)

/-- The _LO register of a 64-bit pair (R16): the pairs of the register tables. -/
def isPairLo (b : Block) (o : Nat) : Bool :=
  match b with
  | .time => [0x30, 0x40, 0x48, 0x50, 0x60].contains o
  | .ta => o == 0x10
  | .pat => [0x0C, 0x24, 0x2C, 0x3C].contains o
  | .sched => [0x14, 0x54].contains o
  | .matrix => [0x10, 0x1C].contains o || (decide (0x200 ≤ o) && decide (o < 0x300) && o % 16 == 8)
  | .dram => [0x28, 0x30].contains o
  | .store => [0x10, 0x18, 0x24].contains o || (decide (0x8000 ≤ o) && decide (o < 0xC000) && [0x10, 0x18, 0x20, 0x28].contains (o % 64))
  | .hedge => o == 0x3C
  | .gauge => o == 0x10
  | .net => [0x14, 0x58].contains o
  | .cond => o == 0x10
  | .obj => o == 0x84
  | .tdm => o == 0x50
  | .cas => o == 0x1C
  | .omd => o == 0x10
  | .xp => o == 0x10
  | .outs => [0x10, 0x18, 0x28].contains o
  | .bootf => o == 0x0C
  | _ => false

namespace State

/-- A write of a register with no effect beyond its own value. -/
def storeReg (s : State) (off : Nat) (v : Word) : State := s.wr off ((regSpec s.dev off).store (s.rd off) v)

/-- An access to an absent unit (R11). -/
def absentAccess (s : State) (off : Nat) : State :=
  (s.count Reg.IDENT_ABSENT_ACCESS_COUNT).wr Reg.IDENT_ABSENT_LAST_OFFSET (BitVec.ofNat 32 off)

/-- ABSENT_CLEAR (R11), and an access to an absent unit in the same cycle, which is counted after the clear. -/
def absentClear (s : State) (same : Option Nat) : State :=
  let s := s.resetRegs [Reg.IDENT_ABSENT_ACCESS_COUNT, Reg.IDENT_ABSENT_LAST_OFFSET]
  match same with
  | some off => s.absentAccess off
  | none => s

/-! ### Writes with an effect of their own -/

/-- WIN_WRITE (R441, R459): a window that is enabled and whose size, offset or base breaks the alignment has EN clear. -/
def winWrite (s : State) (w word : Nat) (v : Word) : State :=
  let o := Reg.MATRIX_WIN w
  let s := s.storeReg (o + 4 * word) v
  if !s.bitOf o 0 then s.clrBit Reg.MATRIX_STATUS 0
  else
    let k := s.rf o 13 8
    let bad := decide (k < 12) || decide (32 < k) || (s.rd (o + 4)).toNat % 2 ^ k != 0 || s.rd64 (o + 8) % 2 ^ k != 0
    if bad then (s.clrBit o 0).setBit Reg.MATRIX_STATUS 0 else s.clrBit Reg.MATRIX_STATUS 0

/-- A write of word `w` of KEY[k]: the slot's staged key (R370). -/
def keyWrite (s : State) (k w : Nat) (v : Word) : State :=
  let x := (s.net.slots[k]?).getD {}
  { s with net := { s.net with slots := s.net.slots.set k { x with staged := x.staged.set w v } } }

/-- KEY_CTRL_WRITE (R370): VALID commits the staged key with an empty window and no cached reply; VALID 0 erases the slot. -/
def keyCtrlWrite (s : State) (k : Nat) (v : Word) : State :=
  if 16 ≤ k then s
  else
    let x := (s.net.slots[k]?).getD {}
    let slot : KeySlot := if bitAt v 0 then { staged := x.staged, key := some (x.staged.flatMap fun w => beBytes 4 w.toNat) } else {}
    let s : State := { s with net := { s.net with slots := s.net.slots.set k slot } }
    (s.wr (Reg.NETC_KEY_CTRL k) (v &&& 3)).wr (Reg.NETC_LAST_SEQ k) 0

/-- NETC.CTRL: a change of PRP_EN waits for the next training of both ports (R350, R373). -/
def netcCtrlWrite (s : State) (v : Word) : State :=
  let t := s.storeReg Reg.NETC_CTRL v
  if s.bitOf Reg.NETC_CTRL 0 = t.bitOf Reg.NETC_CTRL 0 then t else { t with net := { t.net with prpTrained := [] } }

/-- NETC.CMD. -/
def netcCommand (s : State) (v : Word) : State :=
  let s := if bitAt v 0 then s.resetRegs netcCounters else s
  if bitAt v 1 then s.prpFlush else s

/-- NET[n].CFG0: a change of SPEED, FEC or ENABLE retrains the link (R343). -/
def netCfgWrite (s : State) (n : Nat) (v : Word) : State :=
  let o := Reg.NET_CFG0 n
  let t := s.storeReg o v
  if s.rf o 2 0 = t.rf o 2 0 ∧ s.rf o 6 5 = t.rf o 6 5 then t else t.netRetrain n

/-- NET[n].CMD (R372). -/
def netCommand (s : State) (n : Nat) (v : Word) : State :=
  let s := if bitAt v 0 then s.resetRegs (netCounters n) else s
  let s := if bitAt v 1 then s.netRetrain n else s
  if bitAt v 2 then s.gclApply n else s

/-- A write of OBJ[n].CTRL is ignored outside every committed group (R95). -/
def objWrite (s : State) (n o off : Nat) (v : Word) : State :=
  if o = 0xC0 then s.mPush n
  else if o = 0x04 ∧ s.inGroup n = false then s
  else if o = 0x04 ∨ (0x10 ≤ o ∧ o < 0x70) then (s.storeReg off v).objShadow n off
  else s.storeReg off v

/-- A write in SPK[j]. -/
def spkWrite (s : State) (j o off : Nat) (v : Word) : State :=
  if o = 0x08 then (if bitAt v 0 then s.spkClearCounts j else s)
  else if o = 0x04 ∨ o = 0x18 then (s.storeReg off v).outShadow off
  else if o = 0x104 then s.gcmdWrite j v
  else if o < 0x100 ∨ o = 0x108 ∨ (regSpec s.dev off).rw = 0 then s.storeReg off v
  else if o = 0x10C ∨ o = 0x110 then (s.storeReg off (sourceFields (s.rd off) v (o == 0x10C))).gaugeShadow off
  else (s.storeReg off v).gaugeShadow off

/-- A write in COND. -/
def condWrite (s : State) (o off : Nat) (v : Word) : State :=
  if o = 0x08 then s.condCommand v
  else if 0x100 ≤ o ∧ o < 0x140 then s.mdecWrite ((o - 0x100) / 4) v
  else if 0x1000 ≤ o ∧ o < 0x1000 + 1808 * 0x20 then
    let n := (o - 0x1000) / 0x20
    if (o - 0x1000) % 0x20 = 4 then s.phaseDelayWrite n v
    else if (o - 0x1000) % 0x20 = 0 ∧ n < 1024 then (s.storeReg off v).ratioModeWritten n (s.rf off 1 0)
    else s.storeReg off v
  else s.storeReg off v

/-- A write in XP (R226, R235). -/
def xpWrite (s : State) (o off : Nat) (v : Word) : State :=
  if o = 0x08 then s.xpCommand v
  else if (0x100 ≤ o ∧ o < 0x320) ∨ (0x1000 ≤ o ∧ o < 0x2100) ∨ (0x3000 ≤ o ∧ o < 0x3A00) then (s.storeReg off v).xpShadow off
  else s.storeReg off v

/-- A write in GAUGE and in MEAS[m] (R271). -/
def gaugeWrite (s : State) (o off : Nat) (v : Word) : State :=
  if o = 0x08 then s.gaugeCommand v
  else if (regSpec s.dev off).rw ≠ 0 ∧ o ≠ 0x04 ∧ o ≠ 0x10 ∧ o ≠ 0x14 ∧ o ≠ 0x64 then (s.storeReg off v).gaugeShadow off
  else s.storeReg off v
def measWrite (s : State) (m o off : Nat) (v : Word) : State :=
  if o = 0x0C then (if bitAt v 0 then s.measClearCounts m else s)
  else if (regSpec s.dev off).rw ≠ 0 then (s.storeReg off v).gaugeShadow off
  else s.storeReg off v

/-- A write in RXS[i] and TXS[i]: only CTRL while ENABLE is 1 (R353). -/
def rxsWrite (s : State) (i o off : Nat) (v : Word) : State :=
  if o = 0x04 then s.rxsCtrlWrite i v else if s.rxsEnabled i then s else s.storeReg off v
def txsWrite (s : State) (i o off : Nat) (v : Word) : State :=
  if o = 0x04 then s.txsCtrlWrite i v else if s.txsEnabled i then s else s.storeReg off v

/-- A write in TDM[n]. -/
def tdmWrite (s : State) (n o off : Nat) (v : Word) : State :=
  if o = 0x04 then (if bitAt v 0 then s.tdmClearCounts n else s)
  else if o = 0x0C then (s.storeReg off v).tdmStickyCleared n
  else if o = 0x10 then s.tdmCfgWrite n v
  else if o = 0x14 ∨ o = 0x18 then s.tdmMaskWrite off n v
  else if o = 0x4C then s.tdmDmaCfgWrite n v
  else s.storeReg off v

/-- A write in CAS[n]. -/
def casWrite (s : State) (n o off : Nat) (v : Word) : State :=
  if o = 0x04 then s.casCommand n v
  else if n = 0 ∧ 0x1000 ≤ o then s.importWrite ((o - 0x1000) / 4) v
  else if o = 0x10 then (s.storeReg off v).casCfgWritten n
  else s.storeReg off v

/-- A write in EVT (R508, R509). -/
def evtWrite (s : State) (o off : Nat) (v : Word) : State :=
  if o = 0x08 then s.flushVectors
  else if o = 0x0C then (if bitAt v 0 then s.evtClearCounts else s)
  else if o = 0x20 then s.doorbell v
  else if 0x40 ≤ o ∧ o < 0x60 then s.clearPending ((o - 0x40) / 4) v
  else if 0x100 ≤ o ∧ o < 0x180 then
    (if o % 16 = 0 then s.vecCfgWrite ((o - 0x100) / 16) v else if o % 16 = 8 then s.vecAck ((o - 0x100) / 16) else s)
  else s.storeReg off v

/-- A write in NETC. -/
def netcWrite (s : State) (o off : Nat) (v : Word) : State :=
  if o = 0x04 then s.netcCtrlWrite v
  else if o = 0x08 then s.netcCommand v
  else if 0x100 ≤ o ∧ o < 0x200 then s.keyWrite ((o - 0x100) / 16) (o % 16 / 4) v
  else if 0x200 ≤ o ∧ o < 0x240 then s.keyCtrlWrite ((o - 0x200) / 4) v
  else s.storeReg off v

/-- OBJECT, START_SAMPLE and START_BLOCK of a stem that is ARMED or PLAYING (R476). -/
def stemLocked (s : State) (k o : Nat) : Bool := s.stemActive k && (o == 0x0C || o == 0x10 || o == 0x14 || o == 0x18 || o == 0x1C)

/-- A write in STORE and its stems. -/
def storeBlockWrite (s : State) (o off : Nat) (v : Word) : State :=
  if o = 0x04 then s.storeCommand v
  else if 0x8000 ≤ o ∧ o < 0xC000 ∧ o % 64 = 4 then s.stemCommand ((o - 0x8000) / 64) v
  else if 0x8000 ≤ o ∧ o < 0xC000 ∧ s.stemLocked ((o - 0x8000) / 64) (o % 64) then s
  else s.storeReg off v

/-- PAT registers that a load in progress or a commit locks (R67). -/
def patLocked (s : State) (o : Nat) : Bool :=
  ((o == 0x08 || o == 0x0C || o == 0x10 || o == 0x14) && (s.patState == 1 || s.patState == 2)) ||
  ((o == 0x24 || o == 0x28) && (s.patState == 4 || s.patState == 5))

/-- A write of word `o` of a present block instance. -/
def regWrite (s : State) (b : Block) (i o off : Nat) (v : Word) : State :=
  match b with
  | .ident => if o = 0x18 then s.absentClear none else s
  | .clk => if o = 0x04 then s.clkCommand v else if o = 0x2C then (s.storeReg off v).reportThermal else s.storeReg off v
  | .evt => s.evtWrite o off v
  | .time => if o = 0x08 then s.timeCommand v else if o = 0x04 then (s.storeReg off v).timeCtrlWritten else s.storeReg off v
  | .ta => if o = 0x08 then s.taCommand i v
      else if s.taArmed i && o != 0x0C && decide (4 ≤ o) && decide (o < 0x34) then s.setBit (Reg.TA_STATUS i) 4 else s.storeReg off v
  | .pat => if o = 0x04 then s.patCommand v else if o = 0x48 then s.keyRevoke v else if s.patLocked o then s else s.storeReg off v
  | .sched => if o = 0x08 then (if bitAt v 0 then s.schedClearCounts else s) else if o = 0x10 then s.spillCfgWrite v else s.storeReg off v
  | .skein => if o = 0x08 then (if bitAt v 0 then s.skeinClearCounts else s) else if o = 0x10 then s.pagerCfgWrite v
      else if o = 0x54 then s.winSelWrite v else s.storeReg off v
  | .matrix => if o = 0x04 then (if bitAt v 0 then s.matrixClearCounts else s)
      else if 0x200 ≤ o ∧ o < 0x300 then s.winWrite ((o - 0x200) / 16) (o % 16 / 4) v else s.storeReg off v
  | .dram => if o = 0x04 then s.dramCommand i v else s.storeReg off v
  | .store => s.storeBlockWrite o off v
  | .hedge => if o = 0x08 then s.hedgeCommand v else s.storeReg off v
  | .gauge => s.gaugeWrite o off v
  | .meas => s.measWrite i o off v
  | .net => if o = 0x04 then s.netCommand i v else if o = 0x10 then s.netCfgWrite i v else s.storeReg off v
  | .cond => s.condWrite o off v
  | .obj => s.objWrite i o off v
  | .spk => s.spkWrite i o off v
  | .rxs => s.rxsWrite i o off v
  | .txs => s.txsWrite i o off v
  | .tdm => s.tdmWrite i o off v
  | .tile => if o = 0x08 then s.tileCommand i v else s.storeReg off v
  | .ndl => if o = 0x08 then s.ndlCommand i v else s.storeReg off v
  | .cas => s.casWrite i o off v
  | .omd => if o = 0x08 then s.omdCommand v else s.storeReg off v
  | .rndr => if o = 0x08 then (if bitAt v 0 then s.rndrClearCounts else s) else if o = 0x10 then s.tolGainWrite v else s.storeReg off v
  | .xp => s.xpWrite o off v
  | .outs => if o = 0x08 then s.outsCommand v else s.storeReg off v
  | .netc => s.netcWrite o off v
  | .bootf => if o = 0x04 then s.bootCommand v
      else if o = 0x1C then { s with bootf := { s.bootf with cfg := v &&& 0x1FFFF } } else s.storeReg off v
  | .host => if o = 0x08 then (if bitAt v 0 then s.hostClearCounts else s) else if o = 0x14 then s.mbDoorbell else s.storeReg off v
  | .rowp => s.slotWrite i (o / 4) v

/-- A write to either register of a pair discards the latch (R16). -/
def dropLatch (s : State) (off : Nat) : State :=
  match place off with
  | .reg b _ o => if isPairLo b o then { s with latches := Assoc.del off s.latches }
      else if 4 ≤ o ∧ isPairLo b (o - 4) then { s with latches := Assoc.del (off - 4) s.latches } else s
  | _ => s

/-- A write to a BAR0 offset that reaches its unit (R9 to R11, R17, R490). -/
def busWrite (s : State) (off : Nat) (v : Word) : State :=
  match place off with
  | .reg b i o => if s.dev.part.hasReg b i o then (s.dropLatch off).regWrite b i o off v else s.absentAccess off
  | .msix _ => (s.storeReg off v).releaseMasked
  | .ixpNode u d => if s.dev.part.hasIxpNode u d then (s.wr off v).xpShadow off else s.absentAccess off
  | .oxpNode u d => if s.dev.part.hasOxpNode u d then (s.wr off v).xpShadow off else s.absentAccess off
  | .reserved => s
  | .default => s

/-! ### Reads -/

/-- BLOCK_ID (R491). -/
def blockId (s : State) (b : Block) (i : Nat) : Word :=
  match blockRows.find? fun r => r.block == b with
  | some r => BitVec.ofNat 32 (r.type * 2 ^ 24 + 2 ^ 20 + (s.dev.stepping - 1) % 16 * 2 ^ 16 + i)
  | none => 0

/-- EVT.STATUS (R508). -/
def evtStatus (s : State) : Word :=
  BitVec.ofNat 32 ((List.range 8).foldl (fun a k => a + (b2n (s.raised k) + 256 * b2n (decide (0 < s.countNow k))) * 2 ^ k) 0)

/-- PAT.KEY_STATUS and KEY_REVOKE (R63, R65). -/
def keyStatus (s : State) : Word :=
  BitVec.ofNat 32 ((List.range 4).foldl (fun a k => a + b2n (s.dev.keyHash.getD k 0 != 0) * 2 ^ k) 0 + s.dev.revoked % 16 * 16 +
    s.rf Reg.PAT_KEY_STATUS 9 8 * 256)

/-- The response that IR_SEL selects (R296): a baseline is held for MIC only. -/
def irSelected (s : State) : Option Response :=
  let g := s.gout (s.rf Reg.GAUGE_IR_SEL 9 0)
  match s.rf Reg.GAUGE_IR_SEL 11 10, s.bitOf Reg.GAUGE_IR_SEL 14 with
  | 0, false => g.respV
  | 1, false => g.respI
  | 2, false => g.respMic
  | 2, true => g.baseMic
  | _, _ => none
def irStatus (s : State) : Word :=
  match s.irSelected with
  | some r => BitVec.ofNat 32 (1 + 256 * min 65535 (s.tick / pilotPeriod - r.period))
  | none => 0
def irTap (s : State) (i : Nat) : Word :=
  match s.irSelected with
  | some r => wordOfInt (r.taps.getD (s.rf Reg.GAUGE_IR_SEL 13 12 * 8192 + i) 0)
  | none => 0

/-- The time fields (R339): local time and the block in progress; a captured entry (R340). -/
def timeRead (s : State) (o off : Nat) : Word :=
  let now := splitUnits s.nowUnits
  let cap := (s.time.captured.getD ((o - 0x80) / 0x20) ⟨0, false⟩)
  let at' := splitUnits (divEven (cap.counts * 62500 : Nat) 3).toNat
  match o with
  | 0x20 => BitVec.ofNat 32 now.1
  | 0x24 => (s.latches.lookup off).getD (BitVec.ofNat 32 (now.1 / 2 ^ 32))
  | 0x28 => (s.latches.lookup off).getD (BitVec.ofNat 32 now.2.1)
  | 0x2C => (s.latches.lookup off).getD (BitVec.ofNat 32 now.2.2)
  | 0x30 => BitVec.ofNat 32 s.block
  | 0x34 => BitVec.ofNat 32 (s.block / 2 ^ 32)
  | 0x0C => setFld (s.rd off) 22 16 s.time.cues.length
  | 0x10 => if s.rf off 1 0 = 2 then setFld (s.rd off) 5 5 1 else s.rd off
  | 0x08 => 0
  | _ =>
    if 0x80 ≤ o ∧ o < 0x100 then
      match o % 0x20 with
      | 0x04 => BitVec.ofNat 32 ((s.time.captures.getD ((o - 0x80) / 0x20) []).length + 32 * b2n cap.falling)
      | 0x0C => BitVec.ofNat 32 (at'.1 / 2 ^ 32)
      | 0x10 => BitVec.ofNat 32 at'.2.1
      | 0x14 => BitVec.ofNat 32 at'.2.2
      | _ => s.rd off
    else s.rd off

/-- The SPK words that are not simply stored (R262, R269). -/
def spkRead (s : State) (j o off : Nat) : Word :=
  match o with
  | 0x0C => setFld (s.rd off) 12 12 (b2n (s.outPending j))
  | 0x1C => wordOfInt (s.trimEcal j)
  | 0x104 => 0
  | 0x120 => wordOfInt (effective (s.rd (Reg.SPK_VSCALE_FCAL j)) (s.inForce (Reg.SPK_VSCALE_UCAL j)) 1200)
  | 0x12C => wordOfInt (effective (s.rd (Reg.SPK_ISCALE_FCAL j)) (s.inForce (Reg.SPK_ISCALE_UCAL j)) 1200)
  | _ => s.rd off

/-- OBJ[n].STATUS.SHADOW_PENDING (R124). -/
def objPending (s : State) (n : Nat) : Bool := s.omd.bank.pending.any fun e => (e.1 - 0x100000) / 256 == n

/-- The word of a register, without the side effects of reading it. Write-only registers hold 0. -/
def regValue (s : State) (b : Block) (i o off : Nat) : Word :=
  if o = 0 ∧ b ≠ .ident ∧ b ≠ .rowp then s.blockId b i
  else match b with
  | .clk =>
    let e := effective (s.rd Reg.CLK_OSC_TRIM_FCAL) (s.rd Reg.CLK_OSC_TRIM_UCAL) 50000
    if o = 0x14 then wordOfInt e else if o = 0x18 then satWord (e + (s.rd Reg.TIME_STEER).toInt) else s.rd off
  | .evt => if o = 0x10 then s.evtStatus else if 0x100 ≤ o ∧ o < 0x180 ∧ o % 16 = 8 then 0 else s.rd off
  | .time => s.timeRead o off
  | .pat => if o = 0x44 then s.keyStatus else if o = 0x48 then BitVec.ofNat 32 (s.dev.revoked % 16) else s.rd off
  | .sched => if o = 0x14 then BitVec.ofNat 32 s.block else if o = 0x18 then BitVec.ofNat 32 (s.block / 2 ^ 32) else s.rd off
  | .cond => if 0x1000 ≤ o ∧ o < 0x1000 + 1808 * 0x20 ∧ (o - 0x1000) % 0x20 = 8 then BitVec.ofNat 32 (s.chDelay ((o - 0x1000) / 0x20)) else s.rd off
  | .obj => if o = 0x08 then setFld (s.rd off) 9 9 (b2n (s.objPending i)) else if o = 0x04 ∧ s.inGroup i = false then 0 else s.rd off
  | .spk => s.spkRead i o off
  | .xp => if o = 0x3C then s.peekTarget else if o = 0x40 then s.peekNow else if o = 0x44 then s.peekState
      else if o = 0x4C then s.destCount else s.rd off
  | .gauge =>
    if o = 0x30 then wordOfInt (effective (s.rd Reg.GAUGE_PILOT_FCAL) (s.inForce Reg.GAUGE_PILOT_UCAL) 2000)
    else if o = 0x3C then wordOfInt s.tsenseEcal
    else if o = 0x68 then s.irStatus else if 0x8000 ≤ o then s.irTap ((o - 0x8000) / 4) else s.rd off
  | .meas =>
    if o = 0x24 then wordOfInt (effective (s.rd (Reg.MEAS_GAIN_FCAL i)) (s.inForce (Reg.MEAS_GAIN_UCAL i)) 12000)
    else if o = 0x30 then wordOfInt (s.measOffset i (s.inForce (Reg.MEAS_OFFSET_UCAL i))) else s.rd off
  | .rxs => if o = 0x60 then BitVec.ofNat 32 (min (s.rxs i).buffer.length 65535) else s.rd off
  | .store =>
    if 0x8000 ≤ o ∧ o < 0xC000 ∧ o % 64 = 0x28 then BitVec.ofNat 32 (s.stem ((o - 0x8000) / 64)).pos
    else if 0x8000 ≤ o ∧ o < 0xC000 ∧ o % 64 = 0x2C then BitVec.ofNat 32 ((s.stem ((o - 0x8000) / 64)).pos / 2 ^ 32) else s.rd off
  | .bootf => if o = 0x1C then s.bootCfg else s.rd off
  | .cas => if i = 0 ∧ o = 0x110 ∧ s.rf Reg.CAS_ROLE 25 24 = 1 then 0x02000000 else s.rd off
  | _ => s.rd off

/-- Read a register of a present block: pops and latches are its side effects (R16, R338, R339). -/
def regRead (s : State) (b : Block) (i o off : Nat) : State × Word :=
  if b = .time ∧ 0x80 ≤ o ∧ o < 0x100 ∧ o % 0x20 = 8 then
    let t := s.capturePop ((o - 0x80) / 0x20)
    (t, t.readData)
  else if b = .time ∧ o = 0x140 then (s.cuePop, s.cuePop.readData)
  else if b = .time ∧ o = 0x20 then
    let now := splitUnits s.nowUnits
    let l := Assoc.put (off + 4) (BitVec.ofNat 32 (now.1 / 2 ^ 32)) (Assoc.put (off + 8) (BitVec.ofNat 32 now.2.1)
      (Assoc.put (off + 12) (BitVec.ofNat 32 now.2.2) s.latches))
    ({ s with latches := l }, s.regValue b i o off)
  else if isPairLo b o then ({ s with latches := Assoc.put off (s.regValue b i (o + 4) (off + 4)) s.latches }, s.regValue b i o off)
  else if 4 ≤ o ∧ isPairLo b (o - 4) then (s, (Assoc.get? (off - 4) s.latches).getD (s.regValue b i o off))
  else (s, s.regValue b i o off)

/-- A read of a BAR0 offset that reaches its unit: absent units read 0 and are counted (R9 to R11); reserved offsets read 0 (R490). -/
def busRead (s : State) (off : Nat) : State × Word :=
  match place off with
  | .reg b i o => if s.dev.part.hasReg b i o then s.regRead b i o off else (s.absentAccess off, 0)
  | .msix _ => (s, s.rd off)
  | .ixpNode u d => if s.dev.part.hasIxpNode u d then (s, s.rd off) else (s.absentAccess off, 0)
  | .oxpNode u d => if s.dev.part.hasOxpNode u d then (s, s.rd off) else (s.absentAccess off, 0)
  | .reserved => (s, 0)
  | .default => (s, 0)

/-- A read as a command: what it returns is left in `readData`. -/
def readCommand (s : State) (off : Nat) : State :=
  let r := s.busRead off
  { r.1 with readData := r.2 }

/-! ### Accesses that wait: R518 -/

/-- The access waits at a register crossing whose far clock has stopped: the registers of NET[n] and CAS[n] but BLOCK_ID, STATUS
and STICKY, while the port's SerDes reference is absent. -/
def regWaits (s : State) (off : Nat) : Bool :=
  match place off with
  | .reg .net n o => o != 0 && o != 8 && o != 0xC && !s.netRefOk n
  | .reg .cas n o => decide (n < s.dev.part.casPorts) && o != 0 && o != 8 && o != 0xC && !s.bitOf Reg.CLK_CLK_STATUS 1
  | _ => false

end State

end Sys2Proof.Machine
end

