-- ==== Sys2Proof/Machine/Bus.lean ====
section
/-! DEFINITION. The bus matrix: decoding (R439, R441, R442), the ordered and the identified class (R443, R444), arbitration (R445),
aborted bursts (R446), the default target (R447) and timeouts (R448). A transaction takes effect when it goes to its target. -/

namespace Sys2Proof.Machine

def BusTarget.code : BusTarget → Nat
  | .registers => 0
  | .bootFlash => 1
  | .default => 2
  | .dram n => 3 + n

/-- Masters 0 to 2 are ordered, 3 to 13 identified (R438). -/
def orderedMaster (m : Nat) : Bool := decide (m < 3)

/-- The transaction has gone to a target that has not completed it, so its path is held (R448, R518). -/
def Txn.stuck (t : Txn) : Bool := t.issued && !t.executed

/-- It is outstanding for its master: a timed-out or an orphaned one is not. -/
def Txn.outstanding (t : Txn) : Bool := !t.timedOut && !t.orphan

namespace State

/-! ### Decoding -/

/-- The lowest-numbered enabled window that covers a BAR2 offset (R441). -/
def windowOf (s : State) (off : Nat) : Option Nat :=
  (List.range 16).find? fun w =>
    s.bitOf (Reg.MATRIX_WIN w) 0 &&
      off / 2 ^ s.rf (Reg.MATRIX_WIN w) 13 8 == (s.rd (Reg.MATRIX_WIN w + 4)).toNat / 2 ^ s.rf (Reg.MATRIX_WIN w) 13 8

/-- The fabric address of an access, or none with cause 2 of DECODE_INFO; with a read-only window the address is known. -/
def busFabric (s : State) (a : BusAddr) (write : Bool) : Option Nat × Bool :=
  match a with
  | .bar0 off => (some off, true)
  | .fabric x => (some (x % 2 ^ 40), true)
  | .bar2 off =>
    match s.windowOf off with
    | none => (none, false)
    | some w =>
      let x := s.rd64 (Reg.MATRIX_WIN w + 8) + off % 2 ^ s.rf (Reg.MATRIX_WIN w) 13 8
      (some (x % 2 ^ 40), !write || s.bitOf (Reg.MATRIX_WIN w) 1)

/-- A register offset that master `m` may not reach: the MSI-X structures are reached from PCIe only (R490), and the key words are
written by masters 0 and 2 only (R442). The answer is the cause. -/
def registerFault (m : Nat) (write : Bool) (off : Nat) : Option Nat :=
  match place off with
  | .default => some 0
  | .msix _ => if m = 0 then none else some 0
  | .reg .netc _ o => if write ∧ 0x100 ≤ o ∧ o < 0x200 ∧ m ≠ 0 ∧ m ≠ 2 then some 1 else none
  | _ => none

/-- The target of an access of `n` bytes, or the address and cause with which it goes to the default target (R439 to R442). -/
def busTarget (s : State) (m : Nat) (a : BusAddr) (write : Bool) (n : Nat) : BusTarget × Nat × Nat :=
  match s.busFabric a write with
  | (none, _) => (.default, s.freeWord.toNat, 2)
  | (some x, false) => (.default, x, 2)
  | (some x, true) =>
    if x < 0x4000000 then
      match (List.range ((n + 3) / 4)).findSome? fun i => registerFault m write (x / 4 * 4 + 4 * i) with
      | some c => (.default, x, c)
      | none => (.registers, x, 0)
    else if 0x20000000 ≤ x ∧ x < 0x30000000 then (if write then (.default, x, 1) else (.bootFlash, x, 0))
    else match s.accessFault m write x n with
      | some (y, c) => (.default, y, c)
      | none => (.dram (((s.chanOfAddr x).orElse fun _ => s.placeFrame (frameOf x)).getD 0), x, 0)

/-! ### Execution at a target -/

/-- The words of a register burst, ascending (R445): a write without all four strobes of a word leaves that register alone. -/
def registerWords (s : State) (off : Nat) (data : List (Option Byte)) : State :=
  s.over (List.range (data.length / 4)) fun t i =>
    match (data.drop (4 * i)).take 4 with
    | [some a, some b, some c, some d] => t.busWrite (off + 4 * i) (d ++ c ++ b ++ a)
    | _ => t

def registerReads : Nat → Nat → State → State × List Byte
  | 0, _, s => (s, [])
  | n + 1, off, s =>
    let r := s.busRead off
    let q := registerReads n (off + 4) r.1
    (q.1, leBytes 4 r.2.toNat ++ q.2)

/-- A DRAM read through the ECC (R451): the bytes, zeros in blocks that could not be corrected, and whether the response is an error. -/
def dramRead (s : State) (b : Burst) (a : Nat) : State × List Byte × Bool :=
  let within (l : List Nat) : List Nat := ((l.map (· / 32 * 32)).filter fun x => decide (x < a + b.len) && decide (a < x + 32)).eraseDups
  let bad := (within b.uncorrected ++ s.markedIn a b.len).eraseDups
  let s := s.over (within b.corrected) eccCorrected
  let s := s.over (within b.uncorrected) eccUncorrectable
  let s := s.readMarked a b.len
  let bytes := (s.dramBytes a b.len).zipIdx.map fun e => if bad.any fun x => decide (x ≤ a + e.2) && decide (a + e.2 < x + 32) then 0 else e.1
  let s : State := if takesZeros b.master then { s with hedge := { s.hedge with zeroBlocks := s.hedge.zeroBlocks + bad.length } } else s
  (s, bytes, !bad.isEmpty && !takesZeros b.master)

/-- A DRAM write: a frame that is not backed becomes the host's while capacity lasts (R440). -/
def dramStore (s : State) (b : Burst) (a : Nat) : State :=
  let s := s.over ((framesTouched a b.data.length).filter fun f => (s.frameAt f).isNone) fun t f =>
    if 0 < t.freeDramFrames then t.backFrame f .host else t
  s.dramWrite a b.data

/-- A request of a master that is urgent on its channel (R449). -/
def busUrgent (s : State) (b : Burst) : Bool :=
  let target := s.rf (Reg.MATRIX_DPORT b.master) 19 0
  target == 0 || decide (target < b.waited)

/-- Take entry `i` of the outstanding transactions for a change. -/
def setTxn (s : State) (i : Nat) (t : Txn) : State := { s with mtx := { s.mtx with txns := s.mtx.txns.set i t } }
def dropTxn (s : State) (i : Nat) : State := { s with mtx := { s.mtx with txns := s.mtx.txns.eraseIdx i } }

/-- Deliver a response to its master. -/
def respond (s : State) (b : Burst) (data : List Byte) (error : Bool) : State :=
  { s with mtx := { s.mtx with response := some (b.master, b.tag, data, error) } }

/-- Execute transaction `i` at its target. -/
def executeTxn (s : State) (i : Nat) (t : Txn) : State :=
  let b := t.burst
  match t.target with
  | .default => s
  | .bootFlash => s.setTxn i { t with executed := true, data := s.flashBytes (t.fabric - 0x20000000) b.len }
  | .registers =>
    if b.write then (s.setTxn i { t with executed := true }).registerWords (t.fabric / 4 * 4) b.data
    else
      let r := registerReads ((b.len + 3) / 4) (t.fabric / 4 * 4) s
      r.1.setTxn i { t with executed := true, data := (r.2.drop (t.fabric % 4)).take b.len }
  | .dram n =>
    let s := if s.busUrgent b then s.count (Reg.DRAM_URGENT n) else s
    if b.write then (s.dramStore b t.fabric).setTxn i { t with executed := true }
    else
      let r := s.dramRead b t.fabric
      r.1.setTxn i { t with executed := true, data := r.2.1, error := r.2.2 }

/-! ### Order and arbitration: R443 to R445 -/

/-- Transaction `i` may go to its target: the hold-back rule of the ordered class, the limits of 16 and 64, and a path that no
stopped target holds. -/
def mayIssue (s : State) (i : Nat) : Bool :=
  match s.mtx.txns[i]? with
  | none => false
  | some t =>
    let m := t.burst.master
    let others := (s.mtx.txns.zipIdx.filter fun e => e.2 != i).map (·.1)
    let older := s.mtx.txns.take i
    let out := others.filter fun u => u.burst.master == m && u.issued && u.outstanding
    !t.issued && !(others.any fun u => u.stuck && u.target == t.target) && !(older.any fun u => u.burst.master == m && !u.issued && u.outstanding) &&
      (if orderedMaster m then out.all (fun u => u.target == t.target) && decide (out.length < 16) else decide (out.length < 64))

/-- Round-robin in ascending number from the master served last (R445). -/
def rrRank (s : State) (t : Txn) : Nat :=
  match Assoc.get? t.target.code s.mtx.served with
  | some last => (t.burst.master + 15 - last) % 16
  | none => t.burst.master

/-- The transaction that goes next: an urgent DRAM request first, then by round-robin, then by age. -/
def nextTxn (s : State) : Option Nat :=
  let ready := (List.range s.mtx.txns.length).filter s.mayIssue
  let key (i : Nat) : Nat := match s.mtx.txns[i]? with
    | some t => (match t.target with | .dram _ => if s.busUrgent t.burst then 0 else 16 | _ => 16) + s.rrRank t
    | none => 32
  ready.foldl (fun a i => match a with | none => some i | some j => if key i < key j then some i else some j) none

/-- Send transactions to their targets while one may go. The default target answers at once (R447); an access behind a stopped
clock is held (R518). -/
def pumpBus : Nat → State → State
  | 0, s => s
  | k + 1, s =>
    match s.nextTxn with
    | none => s
    | some i => match s.mtx.txns[i]? with
      | none => s
      | some t =>
        let b := t.burst
        let s : State := { s with mtx := { s.mtx with served := Assoc.put t.target.code b.master s.mtx.served } }
        if t.target = .default then
          let s := s.dropTxn i
          pumpBus k (if t.outstanding then s.respond b (List.replicate b.len 0) true else s)
        else if t.target = .registers ∧ (List.range ((max b.len b.data.length + 3) / 4)).any (fun j => s.regWaits (t.fabric / 4 * 4 + 4 * j)) = true then
          pumpBus k (s.setTxn i { t with issued := true })
        else pumpBus k ((s.setTxn i { t with issued := true }).executeTxn i { t with issued := true })

def pump (s : State) : State := pumpBus s.mtx.txns.length s

/-! ### The commands -/

/-- The form of a burst (R445): at most 16 words of registers or 512 bytes, inside 4 KiB, of a master that exists. -/
def burstOk (b : Burst) : Bool :=
  let n := if b.write then b.data.length else b.len
  let off := match b.addr with | .bar0 o => o | .bar2 o => o | .fabric a => a
  let size := match b.addr with | .bar0 _ => 64 | _ => 512
  decide (b.master < 14) && decide (b.tag < 64) && decide (0 < n) && decide (n ≤ size) && decide (off % 4096 + n ≤ 4096)

/-- A decoded burst: the target, and the decode error that is recorded when it goes to the default target. -/
def busDecode (s : State) (b : Burst) : State × Txn :=
  let n := if b.write then b.data.length else b.len
  let d := s.busTarget b.master b.addr b.write n
  let t : Txn := { burst := b, target := d.1, fabric := d.2.1 }
  if d.1 = .default then
    let s := if (s.busFabric b.addr b.write).1.isNone then s.bumpFree else s
    (s.decodeError b.master d.2.1 b.write d.2.2, t)
  else (s, t)

/-- BUS_TRANSACTION (R445). -/
def busTransaction (s : State) (b : Burst) : State :=
  if !burstOk b then s
  else
    let r := s.busDecode b
    ({ r.1 with mtx := { r.1.mtx with txns := r.1.mtx.txns ++ [r.2] } }).pump

/-- The oldest transaction of a master and tag that has not timed out; an ordered master's tag does not count. -/
def oldestTxn (s : State) (m tag : Nat) (p : Txn → Bool) : Option Nat :=
  s.mtx.txns.findIdx? fun t => t.burst.master == m && (orderedMaster m || t.burst.tag == tag) && p t

/-- A timeout is recorded (R448). -/
def noteTimeout (s : State) (m a : Nat) (write : Bool) : State :=
  (((s.wr64 Reg.MATRIX_TIMEOUT_ADDR_LO (a % 2 ^ 40)).wr Reg.MATRIX_TIMEOUT_INFO (BitVec.ofNat 32 (m + 16 * b2n write))).count
    Reg.MATRIX_TIMEOUTS).mtxOnce 54

/-- TRANSACTION_TIMEOUT (R448): the oldest unanswered transaction of the master and tag. DRAM always answers in time. -/
def transactionTimeout (s : State) (m tag : Nat) : State :=
  match s.oldestTxn m tag (fun t => !t.timedOut && !t.executed) with
  | none => s
  | some i => match s.mtx.txns[i]? with
    | none => s
    | some t => match t.target with
      | .dram _ => s
      | _ =>
        let s := (s.noteTimeout m t.fabric t.burst.write).setTxn i { t with timedOut := true }
        (if t.orphan then s else s.respond t.burst (List.replicate t.burst.len 0) true).pump

/-- TRANSACTION_RESPONSE (R444, R448): the target completes the oldest issued transaction of the master and tag; a held access
executes as its clock resumes. The response of a timed-out one is discarded and counted, that of an orphan discarded. -/
def transactionResponse (s : State) (m tag : Nat) : State :=
  match s.oldestTxn m tag (·.issued) with
  | none => s
  | some i => match s.mtx.txns[i]? with
    | none => s
    | some t =>
      if !t.executed && (List.range ((max t.burst.len t.burst.data.length + 3) / 4)).any (fun j => s.regWaits (t.fabric / 4 * 4 + 4 * j)) then s
      else
        let s := if t.executed then s else s.executeTxn i t
        let t := (s.mtx.txns[i]?).getD t
        let s := s.dropTxn i
        let s := if t.timedOut then s.count Reg.MATRIX_LATE_RESPONSES else if t.orphan then s else s.respond t.burst t.data t.error
        s.pump

/-- ABORTED_BURST (R446): the master of a burst in progress is reset after `beats` beats of 32 bytes: a write's later strobes are
clear, a read is drained; the master's other transactions lose their responses. -/
def abortedBurst (s : State) (b : Burst) (beats : Nat) : State :=
  if !burstOk b then s
  else
    let s := s.orphanMaster b.master
    let cut : Burst := { b with data := b.data.zipIdx.map fun e => if e.2 < 32 * beats then e.1 else none }
    let r := s.busDecode cut
    let s := { r.1 with mtx := { r.1.mtx with txns := r.1.mtx.txns ++ [{ r.2 with orphan := true, issued := true }] } }
    let i := s.mtx.txns.length - 1
    let s := (s.executeTxn i { r.2 with orphan := true, issued := true }).dropTxn i
    ((s.count Reg.MATRIX_ABORTED_BURSTS).event 55).pump

/-- One register word of an internal ordered master (the tunnel): none where the matrix answers with an error, from decode or from
the timeout of an access that waits (R366, R448, R518). -/
def masterWord (s : State) (m off : Nat) (v : Option Word) : State × Option Word :=
  match registerFault m v.isSome off with
  | some c => (s.decodeError m off v.isSome c, none)
  | none =>
    if s.regWaits off ∨ s.mtx.txns.any (fun t => t.stuck && t.target == .registers) = true then
      let t : Txn := { burst := { master := m, addr := .bar0 off, write := v.isSome, data := (v.map fun w => (leBytes 4 w.toNat).map some).getD [],
                                  len := if v.isSome then 0 else 4 }
                       target := .registers, fabric := off, issued := s.regWaits off && !(s.mtx.txns.any fun t => t.stuck && t.target == .registers)
                       timedOut := true }
      (({ s with mtx := { s.mtx with txns := s.mtx.txns ++ [t] } }).noteTimeout m off v.isSome, none)
    else match v with
      | some w => (s.busWrite off w, some 0)
      | none => let r := s.busRead off; (r.1, some r.2)

end State

end Sys2Proof.Machine
end

