-- ==== Sys2Proof/Machine/Tunnel.lean ====
section
/-! DEFINITION. The register tunnel (R365 to R370): requests are checked on arrival, queued and run one at a time. -/

namespace Sys2Proof.Machine

/-- An operation of a request (R366): OP, WORDS, OFFSET and the words that follow its head. -/
structure TunnelOp where
  op : Nat
  words : Nat
  off : Nat
  data : List Word
  deriving DecidableEq, Repr

/-- Data words of an operation. -/
def tunnelData (op words : Nat) : Nat := if op = 2 then words else if op = 3 then 2 else 0

/-- The operations, if heads and data fill the bytes exactly (R366, R368 step 4). -/
def parseOps : Nat → List Byte → Option (List TunnelOp)
  | 0, [] => some []
  | 0, _ :: _ => none
  | k + 1, l =>
    let op := byteAt l 0
    let words := beNat l 2 2
    let off := beNat l 4 4
    let n := 4 * tunnelData op words
    if l.length < 8 + n ∨ op = 0 ∨ 3 < op ∨ words = 0 ∨ 256 < words ∨ (op = 3 ∧ words ≠ 1) ∨ off % 4 ≠ 0 then none
    else (parseOps k (l.drop (8 + n))).map fun r =>
      { op := op, words := words, off := off, data := (List.range (n / 4)).map fun i => BitVec.ofNat 32 (beNat l (8 + 4 * i) 4) } :: r

/-- Bytes of the reply of an operation that is done. -/
def TunnelOp.replyBytes (o : TunnelOp) : Nat := 8 + if o.op = 1 then 4 * o.words else 0

/-- A reply operation (R366). -/
def TunnelOp.reply (o : TunnelOp) (status : Nat) (read : List Word) : List Byte :=
  [BitVec.ofNat 8 o.op, BitVec.ofNat 8 status] ++ beBytes 2 o.words ++ beBytes 4 o.off ++ read.flatMap fun w => beBytes 4 w.toNat

/-- Offsets that the tunnel may not write (R369). -/
def tunnelProtected (off : Nat) : Bool :=
  (decide (Reg.NETC_KEY 0 ≤ off) && decide (off < Reg.NETC_KEY 16)) || (decide (Reg.NETC_KEY_CTRL 0 ≤ off) && decide (off < Reg.NETC_KEY_CTRL 16)) ||
  off == Reg.NETC_CTRL || off == Reg.PAT_KEY_REVOKE

namespace State

/-- The slot of a KEY_ID: open requests share a window of their own. -/
def tunnelSlot (id : Nat) : Nat := if id = 0xFF then 16 else id
def keySlot (s : State) (k : Nat) : KeySlot := (s.net.slots[k]?).getD {}
def setSlot (s : State) (k : Nat) (x : KeySlot) : State := { s with net := { s.net with slots := s.net.slots.set k x } }

def setTunnel (s : State) (l : List TunnelRequest) : State :=
  { s with net := { s.net with tunnel := l } }.wf Reg.NETC_STATUS 12 10 l.length

/-- Longest message (R365). -/
def tunnelLimit (r : TunnelRequest) : Nat := if r.tcp then 16384 else 1472

/-- The reply goes to where the request came from; on TCP its length precedes it. -/
def tunnelSend (s : State) (r : TunnelRequest) (reply : List Byte) : State :=
  let src := if r.src / 2 ^ 32 = 0xFFFF then s.ip4Of r.port else s.ip6Of r.port
  let bytes := if r.tcp then beBytes 2 reply.length ++ reply else reply
  s.sendOwn r.port { src := src, dst := r.src, sport := 49350, dport := r.sport, payload := bytes }

/-- Step 2 of R368. -/
def tunnelAuth (s : State) (b : List Byte) : Bool :=
  let id := byteAt b 2
  if id = 0xFF then s.bitOf Reg.NETC_CTRL 2
  else match (s.keySlot id).key with
    | some k => decide (id < 16) && decide (48 ≤ b.length) && hmacSha256 k (b.take (b.length - 32)) == b.drop (b.length - 32)
    | none => false

/-- TUNNEL_REQUEST (R368 steps 1 to 3, R369): a full queue drops the request on arrival. -/
def tunnelRequest (s : State) (r : TunnelRequest) : State :=
  let b := r.bytes
  if (if r.tcp then !s.bitOf Reg.NETC_CTRL 3 || s.fwState != 2 else !s.bitOf Reg.NETC_CTRL 1) || decide (2 ≤ r.port) then s
  else if 4 ≤ s.net.tunnel.length then s.count Reg.NETC_TUN_BUSY_DROPS
  else if b.length < 16 ∨ tunnelLimit r < b.length ∨ byteAt b 0 / 16 ≠ 1 ∨ byteAt b 1 ≠ 1 then s.count Reg.NETC_TUN_DROP_FORMAT
  else if !s.tunnelAuth b then (s.count Reg.NETC_TUN_AUTH_FAIL).event 87
  else
    let k := tunnelSlot (byteAt b 2)
    let x := s.keySlot k
    let q := beNat b 4 4
    let accept (w : SeqWindow) : State :=
      let x := if w.last = q then { x with window := some w, lastRequest := b, lastReply := [] } else { x with window := some w }
      let s := (s.setSlot k x).count Reg.NETC_TUN_REQUESTS
      let s := if k < 16 then s.wr (Reg.NETC_LAST_SEQ k) (BitVec.ofNat 32 w.last) else s
      s.setTunnel (s.net.tunnel ++ [r])
    match x.window with
    | none => accept { last := q, seen := 1 }
    | some w => match w.take q with
      | (some v, true) => accept v
      | _ =>
        if w.last = q ∧ x.lastRequest = b then
          (if x.lastReply.isEmpty then s else (s.tunnelSend r x.lastReply).count Reg.NETC_TUN_REPLAYS_ANSWERED)
        else (s.count Reg.NETC_TUN_REPLAY).event 88

/-- Words of an operation through the matrix, ascending: the words read, none after an error response. -/
def tunnelWords : Nat → Nat → List (Option Word) → State → State × Option (List Word)
  | _, _, [], s => (s, some [])
  | m, off, v :: r, s =>
    let a := s.masterWord m off v
    let q := tunnelWords m (off + 4) r a.1
    (q.1, match a.2, q.2 with | some w, some l => some (w :: l) | _, _ => none)

/-- Run one operation (R366, R369): its OSTATUS and the words read. -/
def tunnelOp (s : State) (readOnly : Bool) (o : TunnelOp) : State × Nat × List Word :=
  if o.op = 1 then
    let r := tunnelWords 1 o.off (List.replicate o.words none) s
    match r.2 with
    | some l => (r.1, 0, l)
    | none => (r.1, 1, [])
  else if readOnly || (List.range o.words).any (fun i => tunnelProtected (o.off + 4 * i)) then (s, 2, [])
  else if o.op = 2 then
    let r := tunnelWords 1 o.off (o.data.map some) s
    (r.1, if r.2.isSome then 0 else 1, [])
  else
    let a := s.masterWord 1 o.off none
    match a.2 with
    | none => (a.1, 1, [])
    | some old =>
      let m := o.data.getD 1 0
      let r := a.1.masterWord 1 o.off (some ((old &&& ~~~m) ||| (o.data.getD 0 0 &&& m)))
      (r.1, if r.2.isSome then 0 else 1, [])

/-- Run the operations in order; with STOP_ON_ERROR those after a failed one are not run. A device reset ends the request. -/
def tunnelRun (req : TunnelRequest) (readOnly stop : Bool) : List TunnelOp → Bool → State → State × List Byte × Bool
  | [], failed, s => (s, [], failed)
  | o :: r, failed, s =>
    if s.net.tunnel.head? ≠ some req then (s, [], true)
    else
      let a := if failed && stop then (s, 3, []) else s.tunnelOp readOnly o
      let q := tunnelRun req readOnly stop r (failed || a.2.1 != 0) a.1
      (q.1, o.reply a.2.1 a.2.2 ++ q.2.1, q.2.2)

/-- TUNNEL_EXECUTE (R368 steps 4 to 6, R369): the oldest request runs, and its reply is formed, cached and sent. -/
def tunnelExecute (s : State) : State :=
  match s.net.tunnel with
  | [] => s
  | req :: rest =>
    let b := req.bytes
    let id := byteAt b 2
    let tag := if id = 0xFF then 0 else 32
    let count := beNat b 8 2
    let body := (b.take (b.length - tag)).drop 16
    let ops := if count = 0 ∨ 64 < count then none else parseOps count body
    let size (l : List TunnelOp) : Nat := 16 + tag + (l.map (·.replyBytes)).sum
    let readOnly := decide (id < 16) && s.bitOf (Reg.NETC_KEY_CTRL id) 1
    let r : State × Nat × Nat × List Byte := match ops with
      | none => (s.count Reg.NETC_TUN_MALFORMED, 2, 0, [])
      | some l =>
        if tunnelLimit req < size l then (s, 3, 0, [])
        else
          let q := tunnelRun req readOnly (byteAt b 3 % 2 == 1) l false s
          (q.1, b2n q.2.2, s.block % 2 ^ 32, q.2.1)
    let t := r.1
    if t.net.tunnel.head? ≠ some req then t
    else
      let t := t.setTunnel rest
      let head : List Byte := [0x10, 0x02, BitVec.ofNat 8 id, BitVec.ofNat 8 (byteAt b 3)] ++ (b.drop 4).take 4 ++ beBytes 2 count ++
        beBytes 2 r.2.1 ++ beBytes 4 r.2.2.1
      let k := tunnelSlot id
      let message := head ++ r.2.2.2
      let signed : Option (List Byte) := if id = 0xFF then some message else (t.keySlot k).key.map fun key => message ++ hmacSha256 key message
      match signed with
      | none => t
      | some reply =>
        let t := if (t.keySlot k).lastRequest = b then t.setSlot k { t.keySlot k with lastReply := reply } else t
        if byteAt b 3 / 2 % 2 = 1 then t else t.tunnelSend req reply

end State

end Sys2Proof.Machine
end

