-- ==== Sys2Proof/Machine/Live.lean ====
section
/-! DEFINITION. Live change: how the regions of a shadow commit, in the order of R61, by a full load (R59) or by a cast-on (R302 to
R309, R544), how versions retire (R305, R306, R311), bind-offs (R310, R311) and those that a shortfall of DRAM forces (R319). -/

namespace Sys2Proof.Machine

/-- CONTROL and MEASURE regions have no meeting point (R303). -/
def Region.silent (r : Region) : Bool := r.kind == 4 || r.kind == 5

/-- Run blocks from an audio block to the end of the last instance that renders it: one, two up to the output stage, and none for a
region without audio (R305, R307). -/
def Region.tail (r : Region) : Nat := if r.kind = 2 then 2 else if r.silent then 0 else 1

/-- The first run block in which no instance of a leaving version runs (R305, R306, R311). -/
def Version.retireAt (v : Version) : Option Nat :=
  match v.leave with
  | some (.cross c l) => some (c + (l + 31) / 32 + v.region.tail)
  | some (.hard c) => some (c + 2 + v.region.tail)
  | some (.cut c) => some c
  | some (.load c) => some (c + 2)
  | none => none

/-- The first run block in which no weighted instance of an entering version runs (R305, R306 step 5, R544). -/
def Version.settleAt (v : Version) : Option Nat :=
  match v.enter with
  | some (.cross c l) => some (c + (l + 31) / 32 + v.region.tail)
  | some (.hard c) => some (c + 4 + v.region.tail)
  | some (.cut c) => some c
  | some (.load c) => some (c + 3)
  | none => none

/-- How a version enters at a cast-on (R304, R306, R544). -/
def castFade (r : Region) (c : Nat) : Fade := if r.parallel then .cross c r.xfade else if r.silent then .cut c else .hard c

/-- Objects of a region's groups. -/
def Region.objects (r : Region) : List Nat := (r.groups.map fun g => (List.range g.count).map (g.first + ·)).flatten

namespace State

def setVersions (s : State) (l : List Version) : State := { s with pat := { s.pat with versions := l } }
def mapVersion (s : State) (uid : Nat) (f : Version → Version) : State := s.setVersions (s.pat.versions.map fun v => if v.uid = uid then f v else v)

/-- A version enters the list by region, behind the one it replaces. -/
def insertVersion (v : Version) : List Version → List Version
  | [] => [v]
  | w :: r => if v.region.id < w.region.id then v :: w :: r else w :: insertVersion v r

/-! ### What the render registers show: R124, R154, R156 -/

/-- RNDR.ZONE[z] (R154): the zone of the newest version. -/
def reportZone (s : State) (z : Nat) : State :=
  let e := ((s.live.filter fun v => v.leave.isNone) ++ s.live.filter fun v => v.leave.isSome).findSome? fun v => v.region.zones.find? fun e => e.id == z
  s.wr (Reg.RNDR_ZONE z) (match e with
    | some e => BitVec.ofNat 32 (1 + e.law * 2 + e.set % 64 * 256 + (if e.law = 2 then e.crossover / 10 % 2048 * 65536 else 0))
    | none => 0)

/-- ZONE, MAPPED, TILE_SLOT and the hosting of every tile after a commit or a retirement. -/
def reportRender (s : State) (objects : List Nat) : State :=
  let tiles := ((s.live.map fun v => v.region.tileMap.map (·.tile)).flatten).eraseDups
  let s := s.over (List.range 64) reportZone
  let s := s.wf Reg.RNDR_STATUS 7 0 tiles.length
  let s := s.over objects fun t n => t.putBit (Reg.OBJ_STATUS n) 3 (t.tileOf n).isSome
  let declared (l : Nat) : Nat := (s.live.filter fun v => match v.leave with | some (.hard _) => false | _ => true).foldl
    (fun a v => a + (v.region.tileMap.filter fun e => e.tile == l).foldl (fun b e => b + e.pages) 0) 0
  let s : State := { s with skein := { s.skein with declared := (List.range s.dev.part.activeTiles).filterMap fun l => if declared l = 0 then none else some (l, declared l) } }
  s.over (List.range s.dev.part.tiles) fun t p => t.reportHosting p (t.hostedBy p)

/-! ### Groups and histories: R95, R96, R165, R166, R308 -/

/-- Pages of the DRAM ring of a zone's histories (R166), in samples. -/
def ringSamples (z : Zone) : Nat := 1024 * ((z.maxDelay / 128 + 40 + 1023) / 1024 + 2)

/-- The history channels of an object in a version: H, and L in a HYBRID zone. The zone is the one that stands when every transition
that starts at `c` has ended, 32 blocks later at most (R304, R309). -/
def makeHistory (s : State) (v : Version) (n c : Nat) : State :=
  match s.objZone v (c + 32) n with
  | none => s
  | some (z, _) =>
    let tile := if s.objForeground n then none else (s.tileOf n).map (·.tile)
    let put (t : State) (k : Nat) : State := match Assoc.get? k t.skein.hist with
      | some h => t.setHist k { h with tile := tile, ring := max h.ring (ringSamples z) }
      | none => t.setHist k { start := 32 * c, tile := tile, ring := ringSamples z }
    s.over (if z.law = 2 then [2 * n, 2 * n + 1] else [2 * n]) put

/-- An object starts with its group (R96, R97). -/
def startObject (s : State) (g : ObjGroup) (n c : Nat) : State :=
  let w : Word := BitVec.ofNat 32 (1 + 2 * b2n g.foreground + 4 * b2n g.comp)
  let st := Reg.OBJ_STATUS n
  let s := (s.wr (Reg.OBJ_CTRL n) w).enforce (Reg.OBJ_CTRL n) w
  let s : State := { s with omd := { s.omd with bank := s.omd.bank.drop (Reg.OBJ_CTRL n) } }
  let s := (((s.wr st 0).setBit st 0).putBit st 1 g.foreground).putBit st 2 (g.foreground && g.comp)
  let s := (s.setBit st 4).setObj n { enableAt := some c, stage := { next := 32 * c } }
  if g.foreground then s.wf Reg.OMD_STATUS 14 8 (s.foregroundCount + 1) else s

/-- An object that goes on: another class or delay runs as a switch at the commit block (R308). -/
def continueObject (s : State) (g : ObjGroup) (n c : Nat) : State :=
  let o := Reg.OBJ_CTRL n
  let v := s.inForce o
  if bitAt v 1 = g.foreground ∧ bitAt v 2 = g.comp then s
  else
    let w := setFld (setFld v 1 1 (b2n g.foreground)) 2 2 (b2n g.comp)
    { s.wr o w with omd := { s.omd with bank := s.omd.bank.drop o } }.applyObjCtrl n c

/-- The groups of a version take effect at block `c` (R61 step 3). -/
def commitGroups (s : State) (v : Version) (c : Nat) : State :=
  s.over v.region.groups fun t g => t.over ((List.range g.count).map (g.first + ·)) fun u n =>
    ((if u.inGroup n then u.continueObject g n c else u.startObject g n c).makeHistory v n c).wf (Reg.OBJ_STATUS n) 21 16 g.zone

/-- Objects of regions that stay and lie in zones of a version that enters at `c` get the histories of the new zones (R309). -/
def extendHistories (s : State) (v : Version) (c : Nat) : State :=
  if v.region.zones.isEmpty then s
  else s.over (s.pat.versions.filter fun w => w.leave.isNone && w.since != v.since) fun t w =>
    t.over (w.region.groups.filter fun g => v.region.zones.any fun z => z.id == g.zone) fun u g =>
      u.over ((List.range g.count).map (g.first + ·)) fun x n => x.makeHistory w n c

/-- An object leaves every committed group (R95). -/
def endObject (s : State) (n : Nat) : State :=
  let s := if s.objForeground n then s.wf Reg.OMD_STATUS 14 8 (s.foregroundCount - 1) else s
  let s := ((s.wr (Reg.OBJ_STATUS n) 0).wr (Reg.OBJ_CTRL n) 0).enforce (Reg.OBJ_CTRL n) 0
  let s : State := { s with omd := { s.omd with obj := Assoc.del n s.omd.obj, bank := s.omd.bank.drop (Reg.OBJ_CTRL n) } }
  { s with skein := { s.skein with hist := Assoc.del (2 * n) (Assoc.del (2 * n + 1) s.skein.hist) } }

/-! ### Ports, actions and presets: R51, R53, R56 -/

/-- The register block of a PORT_CONFIG entry: offset 0x010 of its instance (R51). -/
def PortCfg.base (e : PortCfg) : Nat :=
  match e.cls with | 0 => Reg.NET_CFG0 e.inst | 1 => Reg.TDM_CFG0 e.inst | 2 => Reg.CAS_CFG0 e.inst | _ => Reg.MEAS_CHECK_CFG e.inst

/-- A record's write of a register: a shadowed register takes the value in force at the commit block (R56). `f` gives the new value
from the one before. -/
def writeNow (s : State) (b off : Nat) (f : Word → Word) : State :=
  if isNode off then (match place off with
    | .ixpNode u d => if s.dev.part.hasIxpNode u d then s.castNodeDefault b off (f (s.inForce off)) else s
    | .oxpNode u d => if s.dev.part.hasOxpNode u d then s.castNodeDefault b off (f (s.inForce off)) else s
    | _ => s)
  else
    let probe := s.busWrite off (f (s.inForce off))
    let drop (x : ShadowBank) : ShadowBank := x.drop off
    if probe.cond.bank.pending.any fun e => e.1 == off then
      let n := (off - Reg.CH_PHASE_DELAY 0) / 32
      let d := fld (f (s.inForce off)) 16 0
      let t : State := { probe with cond := { probe.cond with bank := drop probe.cond.bank } }
      if d = t.chDelay n then t else (t.setChan n { t.chan n with xfadeTo := some d }).setBit (Reg.CH_STATUS n) 7
    else if probe.omd.bank.pending.any fun e => e.1 == off then
      { probe with omd := { probe.omd with bank := drop probe.omd.bank } }.applyObjReg b off
    else if probe.outs.bank.pending.any fun e => e.1 == off then
      { probe with outs := { probe.outs with bank := drop probe.outs.bank } }.applyOut b off
    else if probe.gauge.bank.pending.any fun e => e.1 == off then
      { probe with gauge := { probe.gauge with bank := drop probe.gauge.bank } }.applyGaugeReg b off
    else s.busWrite off (f (s.rd off))

/-- A PORT_CONFIG entry (R51): the words behind CFG0 first, so that masks are in place when the port starts. -/
def writePort (s : State) (e : PortCfg) (b : Nat) : State :=
  let same := e.vals == [0, 4, 8].map fun k => s.rd (PortCfg.base e + k)
  if same then s else s.over [4, 8, 0] fun t k => t.writeNow b (PortCfg.base e + k) fun _ => e.vals.getD (k / 4) 0

/-- A TIME_ACTIONS entry at step 9 of R61: the configuration of TA[n] and its payload (R53, R339). -/
def writeAction (s : State) (e : ActionCfg) : State :=
  let n := e.ta
  let s := s.disarmAction n
  let s := s.wr (Reg.TA_CTRL n) (setFld (setFld (setFld (setFld (s.rd (Reg.TA_CTRL n)) 0 0 1) 3 1 e.kind) 4 4 e.late) 11 8 e.output)
  let s := s.wr64 (Reg.TA_TIME_S_LO n) (s.resolveSeconds e.seconds)
  let s := (s.wr (Reg.TA_TIME_NS n) (BitVec.ofNat 32 e.nanos)).wr (Reg.TA_TIME_FRAC n) 0
  let s := (s.wr (Reg.TA_PERIOD_NS n) (BitVec.ofNat 32 e.period)).wr (Reg.TA_PERIOD_FRAC n) 0
  let s := s.wr (Reg.TA_REPEAT n) (BitVec.ofNat 32 e.count)
  let s := s.wr (Reg.TA_PAYLOAD n) (BitVec.ofNat 32 (e.payOffset % 32768 + e.payload.length % 2048 * 65536))
  s.over e.payload.zipIdx fun t x =>
    let a := e.payOffset + x.2
    if 32768 ≤ a then t else t.wf (0x38000 + a / 4 * 4) (8 * (a % 4) + 7) (8 * (a % 4)) x.1.toNat

/-- A REGISTER_PRESET entry (R56). -/
def applyPreset (s : State) (e : Preset) (b : Nat) : State := s.writeNow b e.off fun old => (old &&& ~~~e.mask) ||| (e.val &&& e.mask)

/-- The records of a version take effect as of block `c`, in the order of R61; the defaults of the crosspoints of a full load have
been set for all its regions at once (R232). -/
def applyRecords (s : State) (v : Version) (c : Nat) (full : Bool) : State :=
  let r := v.region
  let s := (s.reservePages r.pages).allocFrames (.region v.uid) (16 * r.dramMiB)
  let s := s.over r.ports fun t e => t.writePort e c
  let s := s.over r.streams fun t e => t.writeStream e c
  let s := (s.commitGroups v c).extendHistories v c
  let s := s.commitOutputs v c
  let s := if full then s else s.over r.xp fun t e => t.castNodeDefault c (xpEntryOffset e) e.gain
  let s := s.over r.policies applyPolicy
  let s := match r.cascade with | some x => s.commitRole x | none => s
  let s := s.over r.actions writeAction
  let s := s.over r.presets fun t e => t.applyPreset e c
  let s := s.over r.actions fun t e => t.armAction e.ta (some r.id)
  s.over r.streams fun t e => t.enableStream e c

/-! ### Retirement: R305, R306, R311 -/

/-- A version leaves: its resources, its outputs, its objects and its streams go, but for what another version holds. -/
def retireVersion (s : State) (v : Version) : State :=
  let s := (s.setVersions (s.pat.versions.filter fun w => w.uid != v.uid)).releaseFrames (.region v.uid)
  let shared := match v.leave with | some (.cross _ _) => false | _ => s.pat.versions.any fun w => w.region.id == v.region.id && w.replaces && v.uid < w.uid
  let s := (if shared then s else s.unreservePages v.region.pages).retireOutputs v
  let s := s.over (v.region.objects.filter fun n => s.inGroup n && !(s.live.any fun w => (w.groupOf n).isSome)) endObject
  let still (i : Nat) : Bool := s.live.any fun w => w.region.streams.any fun e => !e.transmit && e.stream == i
  let s := s.over ((v.region.streams.filter fun e => !e.transmit).map (·.stream)) fun t i =>
    let t := t.endRx i
    if still i then t else { t.rxsDisable i with net := { (t.rxsDisable i).net with configured := t.net.configured.filter (· != i) } }
  (s.reportRender (v.region.objects ++ (v.region.tileMap.map fun e => (List.range e.count).map (e.first + ·)).flatten)).reportRegions.reportNodes

/-- STATE returns to IDLE when every region of the shadow has ended its crossfade or ramp-in (R302, R544). -/
def commitSettled (s : State) : State :=
  if s.patState = 5 ∧ s.pat.loadAt = none ∧ s.pat.versions.all (fun v => !v.settling) then s.dropImage.setPatState 0 else s

/-- The version of region k that has retired by now: its event 19 is due. -/
def dueRetire (s : State) (k : Nat) (p : Version → Bool) : Option Version :=
  s.pat.versions.find? fun v => v.region.id == k && p v && (match v.retireAt with | some r => decide (r ≤ s.block) | none => false)
/-- The version of region k whose event 22 is due. -/
def dueSettle (s : State) (k : Nat) (p : Version → Bool) : Option Version :=
  s.pat.versions.find? fun v => v.region.id == k && v.settling && p v && (match v.settleAt with | some r => decide (r ≤ s.block) | none => false)

def entersCross (v : Version) : Bool := match v.enter with | some (.cross _ _) => true | _ => false
def entersHard (v : Version) : Bool := match v.enter with | some (.hard _) => true | _ => false
def leavesCross (v : Version) : Bool := match v.leave with | some (.cross _ _) => true | _ => false
def leavesHard (v : Version) : Bool := match v.leave with | some (.hard _) => true | some (.cut _) => true | _ => false

/-- Event 19 of a version that has retired, and event 22 of the one that has settled. -/
def endLeaver (s : State) (v : Version) : State := (s.event 19).retireVersion v
def endEntry (s : State) (v : Version) : State :=
  ((s.mapVersion v.uid fun w => { w with settling := false, enter := none }).event 22).commitSettled

/-- CROSSFADE_RETIRE (R305, R544) for region k. -/
def crossfadeRetire (s : State) (k : Nat) : State :=
  let s := match s.dueRetire k leavesCross with | some v => s.endLeaver v | none => s
  let s := match s.dueSettle k entersCross with | some v => s.endEntry v | none => s
  s.reportRegions

/-- HARD_SWITCH_RETIRE (R306, R544) for region k: the old version at the end of its last instance, and event 22 two blocks later. -/
def hardSwitchRetire (s : State) (k : Nat) : State :=
  let replaced (v : Version) : Bool := leavesHard v && s.pat.versions.any fun w => w.region.id == k && w.replaces && v.uid < w.uid
  let s := match s.dueRetire k replaced with | some v => s.endLeaver v | none => s
  let s := match s.dueSettle k entersHard with | some v => s.endEntry v | none => s
  s.reportRegions

/-- BIND_OFF_RETIRE (R311) for region k. -/
def bindOffRetire (s : State) (k : Nat) : State :=
  let alone (v : Version) : Bool := leavesHard v && !(s.pat.versions.any fun w => w.region.id == k && w.replaces && v.uid < w.uid)
  match s.dueRetire k alone with | some v => s.endLeaver v | none => s

/-! ### Commits: R59, R302, R304, R306, R544 -/

/-- Commit one region of a cast-on as of block `c`. -/
def castRegion (s : State) (c : Nat) (r : Region) : State :=
  let old := s.version? r.id
  let fade := castFade r c
  let v : Version := { uid := s.pat.nextUid, region := r, since := c, enter := some fade, replaces := old.isSome, settling := true }
  let s := match old with
    | none => s
    | some o =>
      let s := s.mapVersion o.uid fun w => { w with leave := some fade }
      let s := s.over (o.region.streams.filter fun (e : StreamCfg) => !e.transmit) fun t (e : StreamCfg) =>
        if r.streams.any fun (n : StreamCfg) => n == e then t else t.leaveRx e.stream
      let s := s.cancelActionsOf fun _ a => a.region == some r.id
      if r.parallel then s else (s.unreservePages o.region.pages).releaseFrames (.region o.uid)
  let s : State := { s with pat := { s.pat with versions := insertVersion v s.pat.versions, nextUid := s.pat.nextUid + 1 } }
  let s := (s.event 18).applyRecords v c false
  if r.silent && !r.parallel then s.endEntry v else s

/-- Every region of an update container commits (R302). -/
def castOn (s : State) (c : Nat) (sh : Shadow) : State :=
  let s := s.over sh.regions fun t r => t.castRegion c r
  let objects := (sh.regions.map fun r => r.objects ++ (r.tileMap.map fun e => (List.range e.count).map (e.first + ·)).flatten).flatten
  (((s.reportRender objects).accountPages).reportRegions.reportNodes).commitSettled

/-! ### The full load: R59 -/

/-- The offset of a *_UCAL register, which a full load keeps. -/
def isUcal (o : Nat) : Bool :=
  match place o with
  | .reg .spk _ r => r == 0x18 || r == 0x11C || r == 0x128
  | .reg .meas _ r => r == 0x20 || r == 0x2C
  | .reg .gauge _ r => r == 0x2C || r == 0x38
  | _ => false

/-- The PORT_CONFIG values that the new Pattern gives a port, or its reset values (R51). -/
def portValues (s : State) (l : List Region) (cls n base : Nat) : List Word :=
  match (l.map (·.ports)).flatten.find? fun e => e.cls == cls && e.inst == n with
  | some e => e.vals
  | none => [0, 4, 8].map fun k => resetValue s.dev (base + k)
/-- A port whose PORT_CONFIG values are unchanged keeps its link (R59 step 3). -/
def portKept (s : State) (l : List Region) (cls n base : Nat) : Bool := s.portValues l cls n base == [0, 4, 8].map fun k => s.rd (base + k)

/-- A register that step 3 of R59 leaves alone. -/
def keptByLoad (s : State) (l : List Region) (o : Nat) : Bool :=
  isUcal o ||
  match place o with
  | .reg .tdm n r => s.portKept l 1 n (Reg.TDM_CFG0 n) && (r == 0x08 || (decide (0x10 ≤ r) && decide (r < 0x1C)))
  | .reg .cas n r => s.portKept l 2 n (Reg.CAS_CFG0 n) && (r == 0x08 || (decide (0x10 ≤ r) && decide (r < 0x1C)))
  | .reg .ta _ _ => false | .reg .cond _ _ => false | .reg .obj _ _ => false | .reg .spk _ _ => false
  | .reg .rxs _ _ => false | .reg .txs _ _ => false | .reg .meas _ _ => false | .reg .gauge _ _ => false
  | _ => true

/-- Step 3 of R59 and what is cleared for the audio of block B onwards: registers return to their reset values, and queues, histories,
filters and dynamics start empty. -/
def clearForLoad (s : State) (l : List Region) (b : Nat) : State :=
  let s := s.over ((s.cond.ch.map (·.1)).filter fun n => s.bitOf (Reg.CH_STATUS n) 8) releasePage
  let s := s.over (List.range 128) fun t i => (t.leaveTx i b).releaseFrames (.rxStream i)
  let s := s.clearOutputs
  let trims := s.outs.out.map fun e => (e.1, s.inForce (Reg.SPK_CTRL e.1))
  let s := s.over (List.range s.dev.part.casPorts) fun t n => if s.portKept l 2 n (Reg.CAS_CFG0 n) then t else t.busWrite (Reg.CAS_CFG0 n) (resetValue s.dev (Reg.CAS_CFG0 n))
  let keptTdm := s.tdm.filter fun e => s.portKept l 1 e.1 (Reg.TDM_CFG0 e.1)
  let casPorts := s.cas.ports.zipIdx.map fun e => if s.portKept l 2 e.2 (Reg.CAS_CFG0 e.2) then e.1 else {}
  let keep (e : Nat × Word) : Bool := s.keptByLoad l e.1
  let s : State := { s with regs := s.regs.filter keep, applied := s.applied.filter keep, tdm := keptTdm }
  let s : State := { s with time := { s.time with armed := [] }, cond := {}, omd := { s.omd with obj := [], bank := {}, input := [] }
                            skein := { s.skein with hist := [], declared := [], limitLowered := false }
                            gauge := {}, rndr := { s.rndr with partials := [] }, ndl := { s.ndl with home := [], unranked := [] } }
  let s : State := { s with net := { s.net with rx := [], configured := [] }, outs := { s.outs with bank := {} }
                            cas := { s.cas with ports := casPorts, link := [], sums := [], jobs := [], audio := [], metas := [] } }
  let s := ((s.wf Reg.OMD_STATUS 14 8 0).clrBit Reg.OMD_STATUS 0).clrBit Reg.OUTS_STATUS 0
  let s := s.over trims fun t e => (if t.inForce (Reg.SPK_CTRL e.1) = e.2 then t else t.noteChange e.1 b (Reg.SPK_CTRL e.1) e.2).retrim e.1 b
  s.accountPages

/-- The lines of a new program start empty at a full load. -/
def emptyLines (s : State) (uid : Nat) : State :=
  let clear (x : OutState) : OutState := { x with progs := x.progs.map fun p => if p.uid = uid then { p with conv := [], align := [] } else p }
  { s with outs := { s.outs with out := s.outs.out.map fun e => (e.1, clear e.2) } }

/-- A full load commits as of block `b` (R59). -/
def fullLoad (s : State) (b : Nat) (sh : Shadow) : State :=
  let old := s.live
  let s := s.setVersions (s.pat.versions.map fun v => { v with leave := some (.load b), settling := false })
  let s := s.over old fun t _ => t.event 19
  let s := s.over old fun t v => (t.unreservePages v.region.pages).releaseFrames (.region v.uid)
  let s := (s.stopStems.clearForLoad sh.regions b).xpLoadNodes b ((sh.regions.map fun r => r.xp.map fun e => (xpEntryOffset e, e.gain)).flatten)
  let s := s.over sh.regions fun t r =>
    let v : Version := { uid := t.pat.nextUid, region := r, since := b, enter := some (.load b) }
    let t : State := { t with pat := { t.pat with versions := insertVersion v t.pat.versions, nextUid := t.pat.nextUid + 1 } }
    ((t.event 18).applyRecords v b true).emptyLines v.uid
  let role := sh.regions.findSome? (·.cascade)
  let s := s.commitHedge (match role with | some r => r.id | none => 0) (sh.regions.findSome? (·.hedge))
  let s := ((s.wr Reg.PAT_ACTIVE_CRC (BitVec.ofNat 32 sh.crc)).wr Reg.PAT_ACTIVE_BUILD (BitVec.ofNat 32 sh.build)).wr64 Reg.PAT_ACTIVE_TIME_LO sh.time
  let s := (s.wf Reg.PAT_KEY_STATUS 9 8 sh.key).setBit Reg.PAT_STATUS 5
  let s : State := { s with pat := { s.pat with caps := sh.caps, loadAt := some b } }
  ((s.reportRender (List.range 1024)).accountPages).reportRegions.reportNodes

/-- The commit block has come (R59, R302): the resources are checked again, and the shadow commits or is kept. -/
def commitNow (s : State) (b : Nat) (sh : Shadow) : State :=
  if !s.resourcesFit (s.shadowScene sh).counted then s.commitFails 0x23
  else
    let s : State := { s with pat := { s.pat with shadow := none, commitAt := none } }
    let s := (s.clrBit Reg.PAT_STATUS 3).setPatState 5
    if sh.full then s.fullLoad b sh else s.castOn b sh

/-! ### Bind-off: R310, R311, R319 -/

/-- Region k starts to leave at block `b` (R311). -/
def startBindOff (s : State) (b k : Nat) : State :=
  match s.version? k with
  | some v => s.mapVersion v.uid fun w => { w with leave := some (.hard b) }
  | none => s

/-- Committed regions that depend on any of a list, directly or through others. -/
def dependants (s : State) : Nat → List Nat → List Nat
  | 0, l => l
  | n + 1, l =>
    let more := ((s.live.filter fun v => v.region.deps.any l.contains).map (·.region.id)).filter fun k => !l.contains k
    if more.isEmpty then l else dependants s n (l ++ more.eraseDups)

/-- R319: ascending PRIORITY, then descending REGION_ID. -/
def earlierToGo (a b : Region) : Bool := decide (a.priority < b.priority) || (a.priority == b.priority && decide (b.id ≤ a.id))
def insertRegion (x : Region) : List Region → List Region
  | [] => [x]
  | y :: r => if earlierToGo x y then x :: y :: r else y :: insertRegion x r

/-- The regions to bind off until the demand of those that stay fits (R319, R456). -/
def shortfall (s : State) : List Region → List Nat → List Nat
  | [], gone => gone
  | r :: l, gone =>
    let staying := s.live.filter fun v => !gone.contains v.region.id
    let demand := staying.foldl (fun a v => a + 16 * v.region.dramMiB) 0 + s.loaderFrames + s.rxFrames
    if demand ≤ s.capacityFrames then gone
    else shortfall s l (if gone.contains r.id then gone else s.dependants 64 [r.id] ++ gone)

/-- A channel has gone offline at the start of block `b`: event 53, and the regions that no longer fit leave from the next
boundary on (R319, R456). -/
def capacityCheck (s : State) (b : Nat) : State :=
  if s.demandFrames ≤ s.capacityFrames then s
  else
    let regions := ((s.pat.versions.filter fun v => v.leave.isNone && v.region.id != 0).map (·.region)).foldr insertRegion []
    let l := ((s.shortfall regions []).eraseDups).filter fun k => k != 0 && !(s.pat.bindOff.any fun e => e.1 == k && decide (e.2 ≤ b + 1))
    (s.event 53).over l fun t k => { t with pat := { t.pat with bindOff := t.pat.bindOff ++ [(k, b + 1)] } }

/-- The DRAM channels that go offline at the start of block `b` (R455 to R457). -/
def channelsOffline (s : State) (b : Nat) : State :=
  s.over ((List.range s.dev.part.dramChannels).filter fun n => (s.dramChan n).offlineDue && s.dramOnline n) fun t n =>
    (t.channelOffline n).capacityCheck b

/-- The structure of the device at the boundary that starts block `b`: bind-offs start, actions of regions that have ramped out are
cancelled, a commit takes place, and a full load moves on. -/
def liveBoundary (s : State) (b : Nat) : State :=
  let due := s.pat.bindOff.filter fun e => decide (e.2 ≤ b)
  let s : State := { s with pat := { s.pat with bindOff := s.pat.bindOff.filter fun e => !decide (e.2 ≤ b) } }
  let s := s.over due fun t e => t.startBindOff b e.1
  let left := (s.pat.versions.filter fun v => match v.leave with | some (.hard r) => decide (r + 2 ≤ b) && !(s.version? v.region.id).isSome | _ => false).map (·.region.id)
  let s := s.cancelActionsOf fun _ a => match a.region with | some k => left.contains k | none => false
  let s := match s.pat.commitAt, s.pat.shadow with
    | some c, some sh => if c ≤ b then s.commitNow b sh else s
    | _, _ => s
  match s.pat.loadAt with
  | none => s
  | some l =>
    let s := if l + 2 ≤ b then s.over (s.pat.versions.filter (·.gone)) fun t v => (t.setVersions (t.pat.versions.filter fun w => w.uid != v.uid)).retireOutputs v else s
    if b < l + 3 then s
    else
      let s := s.setVersions (s.pat.versions.map fun v => { v with settling := false })
      (({ s with pat := { s.pat with loadAt := none } }.event 16).dropImage).setPatState 0

end State

end Sys2Proof.Machine
end

