-- ==== Sys2Proof/Machine/Clockwork.lean ====
section
/-! DEFINITION. The clock of the block: the sample tick (R321), the start of a block with everything that happens at its
boundary, the two metadata cut-offs (R109, R180) and the micro-blocks (R183, R237). -/

namespace Sys2Proof.Machine
namespace State

/-! ### Micro-blocks -/

/-- MICRO_BLOCK (R183): once at a tick that is a multiple of 4. -/
def microStep (s : State) (claims : List (List Nat)) (late : List Nat) : State :=
  if s.tick % 4 = 0 ∧ 4 ≤ s.tick ∧ s.ticked.micro = false then
    { s with ticked := { s.ticked with micro := true } }.microBlock claims late
  else s

/-- OUTPUT_MICRO_BLOCK (R237): once at a tick that is a multiple of 4. -/
def outputStep (s : State) : State :=
  if s.tick % 4 = 0 ∧ 4 ≤ s.tick ∧ s.ticked.outMicro = false then
    { s with ticked := { s.ticked with outMicro := true } }.outputAndGauge
  else s

/-- The micro-blocks of the present tick that no command has run, before anything that reads their results. -/
def catchUp (s : State) : State := (s.microStep [] []).outputStep

/-! ### The sample tick -/

/-- The modulator bits of a tick as one number, behind a leading 1. -/
def packBits (l : List Bool) : Int := l.foldl (fun a b => 2 * a + (b2n b : Nat)) 1

/-- The bits sampled on the measurement inputs in tick `k` (R89, R273). -/
def modulatorTick (s : State) (k : Nat) (bits : List (Nat × List Bool)) : State :=
  s.over (bits.filter fun e => decide (e.1 < s.dev.part.measInputs)) fun t e =>
    (t.measBits e.1 e.2).pushSource (1792 + e.1) k (packBits e.2) 0 0

/-- What every unit does on the sample of the tick that ends. -/
def audioTick (s : State) (bits : List (Nat × List Bool)) : State :=
  let k := s.tick
  let s := ((s.tdmCatchUp.rxTick k).stemTick k).modulatorTick k bits
  (s.conditionTick.ixpTick.oxpTick).exportTick k

/-- Local time reaches the next multiple of 32,768 counts. -/
def advanceTick (s : State) : State :=
  let t := (s.tick + 1) * 32768
  { s with now := t, uptime := s.uptime + (t - s.now), ticked := {} }

/-- The supervisor firmware's timers over one tick: its queues, HEARTBEAT every 10 ms (R510), how long FAULT lasts (R528), the end
of a FIRMWARE reset and a mailbox RESET that is due (R526). -/
def firmwareTick (s : State) : State :=
  let running := s.fwState == 2
  let ports := if running then s.net.ports.map fun p => { p with fwQueue := [] } else s.net.ports
  let beat := running && decide (960 ≤ s.host.heartbeatTicks + 1)
  let h : HostUnit := { s.host with heartbeatTicks := if !running || beat then 0 else s.host.heartbeatTicks + 1
                                    faultTicks := if s.fwState = 3 then s.host.faultTicks + 1 else 0 }
  let s : State := { s with net := { s.net with ports := ports }, host := h }
  let s := if beat then s.wr Reg.HOST_HEARTBEAT (s.rd Reg.HOST_HEARTBEAT + 1) else s
  let s := match s.host.fwRestart with
    | some n => if n ≤ 1 then ({ s with host := { s.host with fwRestart := none } }).setFwState 2 else { s with host := { s.host with fwRestart := some (n - 1) } }
    | none => s
  match s.host.resetDue with
  | some (t, n) => if n ≤ 1 then ({ s with host := { s.host with resetDue := none } }).resetType t else { s with host := { s.host with resetDue := some (t, n - 1) } }
  | none => s

/-- Work inside a tick: it moves neither local time nor the firmware's timers. -/
def within (s t : State) : State := { t with now := s.now, uptime := s.uptime, host := s.host }

/-- SAMPLE_TICK (R321): the present tick ends and the next begins. `bits` are what the modulators of the measurement inputs sent. -/
def sampleTick (s : State) (bits : List (Nat × List Bool)) : State :=
  let s := s.within (s.catchUp.audioTick bits)
  let elapsed := (s.tick + 1) * 32768 - s.now
  let s := s.advanceTick
  let t := if s.phase = 11 ∧ 1 ≤ s.block then s.linkResolve (s.block - 1) else s
  (s.within (t.patRead.runVectorTimers elapsed)).firmwareTick

/-! ### The start of a block -/

/-- Audio block `a` is complete: the object stage of the samples that are left, the render array, and what OBJ shows (R114, R141). -/
def finishAudio (s : State) (a : Nat) : State :=
  let late := s.cas.jobs.map fun j => j.params.n
  let objs := (s.omd.obj.map (·.1)).filter fun n => s.inGroup n
  let s := s.over (objs.filter fun n => !late.contains n) fun t n =>
    let first := max (t.obj n).stage.next (32 * a) - 32 * a
    if first < 32 then t.runStage n a first (32 - first) else t
  (s.renderBlock a).over objs fun t n => match (t.obj n).metas.find? fun m => m.block == a with
    | some m => t.reportObject n m
    | none => t

/-- What belongs to the audio of the blocks before `b` (R146, R212, R317, R410). -/
def audioBoundary (s : State) (b : Nat) : State :=
  let s := s.tileBoundary b
  let s := if b = 0 then s else (s.deferLate (b - 1)).finishAudio (b - 1)
  let s := if b < 2 then s else s.mixFinish (b - 2)
  (s.concealBoundary b).takeovers b

/-- The shadows that apply at `b`, a commit first (R85, R120, R226, R233, R262, R271). -/
def shadowBoundary (s : State) (b : Nat) : State :=
  let s := ((s.reportDynamics.measBoundary b).condFinishXfades.channelsOffline b).liveBoundary b
  let s := ((s.omdBoundary b).condApplyShadows b).condRestarts b
  let r := (s.xpBoundary b).outsShadows b
  let s := (r.1.outsOverrides b r.2).gaugeShadows b
  (((s.applyUpdates b).startSwaps b).reportXfades b).reportNodes

/-- The work of the block that begins: stems, Needles, speculation, instances, the pager and the memory (R147, R179, R195). -/
def workBoundary (s : State) (b : Nat) : State :=
  let s := ((s.stemBoundary b).needleBoundary b).speculate b
  ((s.createInstances b).dramBoundary b).skeinBoundary b

/-- Streams, ports, the cascade, Hedge and the time base at the boundary (R81, R353, R385, R403, R434, R325, R329). -/
def linkBoundary (s : State) (b : Nat) : State :=
  let s := (s.rxClose b).trackUpdate b
  (((s.casBoundary b).hedgeBoundary b).refBlock).stepAtBoundary b

/-- BLOCK_START (R321): once at a tick that is a multiple of 32. -/
def blockStart (s : State) : State :=
  if s.phase = 0 ∧ s.ticked.block = false then
    let b := s.block
    let s := s.catchUp
    let s : State := { s with ticked := { s.ticked with block := true }
                              net := { s.net with raised := [] }, cas := { s.cas with raised := [] }
                              mtx := { s.mtx with raised := [] } }
    let s := s.over (List.range 32) tdmRunning
    (((s.audioBoundary b).shadowBoundary b).workBoundary b).linkBoundary b
  else s

/-! ### The cut-offs -/

/-- METADATA_CUTOFF (R109): once, sixteen samples after block `b` starts. -/
def metadataCutoff (s : State) : State :=
  if s.phase = 16 ∧ s.ticked.cutoff = false then
    let t := s.blockCutoff s.block
    { t with ticked := { t.ticked with cutoff := true } }
  else s

/-- FOREGROUND_CUTOFF (R180): once, sixteen samples before the next block starts, after the block-class cut-off of the same
tick. -/
def foregroundStep (s : State) : State :=
  if s.phase = 16 ∧ s.ticked.cutoff = true ∧ s.ticked.fgCutoff = false then
    let t := s.foregroundCutoff (s.block + 1)
    { t with ticked := { t.ticked with fgCutoff := true } }
  else s

/-! ### Events of a tick that read what the micro-blocks give -/

def txPacketStep (s : State) (i : Nat) : State := s.outputStep.txPacketSend i
def tdmDeviceStep (s : State) (n : Nat) (wire : List Nat) (matched : Bool) : State := s.outputStep.tdmDeviceFrame n wire matched
def casSendStep (s : State) (n : Nat) (d : Int) : State := s.outputStep.casFrameSend n d

end State

end Sys2Proof.Machine
end

