-- ==== Sys2Proof/Machine/Commands.lean ====
section
/-! DEFINITION. What several commands share: the instant of an arrival, the presence check of a command of one unit, and the
two kinds of register write. -/

namespace Sys2Proof.Machine

namespace State

/-- The root count of an arrival inside the present sample tick (R320). -/
def instant (s : State) (sub : Nat) : Nat := s.tick * 32768 + sub % 32768

/-- A command of instance `i` of a block, written at `off`: on a part without it, an access to an absent unit (R9, R11). -/
def unit (s : State) (b : Block) (i off : Nat) (f : State → State) : State :=
  if s.dev.part.has b i then f s else s.absentAccess off

/-- The host reads a BAR0 offset: at its unit, or at the default target, which answers 0 (R447). -/
def hostRead (s : State) (off : Nat) : State :=
  match registerFault 0 false off with
  | some c => { s.decodeError 0 off false c with readData := 0 }
  | none => s.readCommand off

/-- The host writes a BAR0 offset. -/
def hostWrite (s : State) (off : Nat) (v : Word) : State :=
  match registerFault 0 true off with
  | some c => s.decodeError 0 off true c
  | none => s.busWrite off v

/-- REGISTER_WRITE (R17, R501). Message Control bit 15 is MSI-X Enable and bit 14 Function Mask. -/
def registerWrite (s : State) (t : RegTarget) (v : Word) : State :=
  match t with
  | .bar0 off => s.hostWrite off v
  | .msixControl => s.msixControl (bitAt v 15) (bitAt v 14)

/-- A read, or a write of a word (R11). -/
def anyAccess (s : State) (off : Nat) (w : Option Word) : State :=
  match w with
  | none => s.hostRead off
  | some v => s.hostWrite off v

/-- INSTANCE_COMPLETE (R198): the GAUGE instances whose results are released give their readings. -/
def instanceComplete (s : State) (u : Nat) : State :=
  let r := s.completeInstance u
  r.1.over (r.2.filter fun (i : Instance) => i.node.nkind == 7) fun t i => t.gaugeInstance i.node.operand i.block

/-- A GCMD command of output `j` (R271), where the part has GAUGE. -/
def gaugeCmd (s : State) (j : Nat) (v : Word) : State :=
  if s.dev.part.hasReg .spk j 0x100 then s.gcmdWrite j v else s.absentAccess (Reg.SPK_GCMD j)

end State

end Sys2Proof.Machine
end

