-- ==== Sys2Proof/Machine/AccessCommands.lean ====
section
/-! DEFINITION. Host accesses: R9 to R17, R487. Each command has a meaning of its own over the operations of its unit. -/

namespace Sys2Proof.Machine

/-- REGISTER_WRITE (R17): A write to a register that has no row of its own updates it (or its shadow) according to its
access code. -/
def execRegisterWrite (t : RegTarget) (v : Word) (s : State) : Host.Outcome State Fault Refusal :=
  let t := s.registerWrite t v
  .next { t with nand := s.nand, bootCopies := s.bootCopies, freeIdx := s.freeIdx, readData := s.readData,
                  pending := s.pending, dev := s.dev.keep t.dev, dram := Memory.canon 0 t.dram,
                  flash := Memory.canon 0xFF t.flash }

/-- LO_READ_LATCH (R16): A read of a _LO register latches the paired _HI value until the next _LO read or a write to the
pair. -/
def execLoReadLatch (off : Nat) (s : State) : Host.Outcome State Fault Refusal :=
  let t := s.hostRead off
  .next { s with regs := t.regs, latches := t.latches, evt := t.evt, time := t.time, mtx := t.mtx,
                  readData := t.readData }

/-- ABSENT_UNIT_ACCESS (R9): an access to an absent unit reads zero, ignores writes, reports success and is counted in
IDENT. -/
def execAbsentUnitAccess (off : Nat) (w : Option Word) (s : State) : Host.Outcome State Fault Refusal :=
  let t := s.anyAccess off w
  .next { t with nand := s.nand, bootCopies := s.bootCopies, freeIdx := s.freeIdx, pending := s.pending,
                  dev := s.dev.keep t.dev, dram := Memory.canon 0 t.dram, flash := Memory.canon 0xFF t.flash }

/-- ABSENT_CLEAR (R11): A write to IDENT.ABSENT_CLEAR clears the absent-access count and last offset, before a
same-cycle access is counted. -/
def execAbsentClear (same : Option Nat) (s : State) : Host.Outcome State Fault Refusal :=
  let t := s.absentClear same
  .next { s with regs := t.regs }

/-- PARTIAL_WRITE_DISCARD (R487): A host write whose byte enables do not cover a whole register is discarded at the host
interface, counted and raises event 210. -/
def execPartialWriteDiscard (s : State) : Host.Outcome State Fault Refusal :=
  let t := s.partialWrite
  .next { s with regs := t.regs, evt := t.evt }

end Sys2Proof.Machine
end

