-- ==== Sys2Proof/Machine/CascadeCommands.lean ====
section
/-! DEFINITION. The cascade: R397 to R416. Each command has a meaning of its own over the operations of its unit. -/

namespace Sys2Proof.Machine

/-- CAS_CLEAR_COUNTS (R416): CAS[n].CMD.CLEAR_COUNTS clears that port's counters, and CAS[0]'s also the device-wide
ones. -/
def execCasClearCounts (n : Nat) (s : State) : Host.Outcome State Fault Refusal :=
  let t := s.unit .cas n (Reg.CAS_CMD n) fun s => s.casClearCounts n
  .next { s with regs := t.regs }

/-- CAS_RETRAIN (R416): CAS[n].CMD.RETRAIN retrains the Frenus Link port. -/
def execCasRetrain (n : Nat) (s : State) : Host.Outcome State Fault Refusal :=
  let t := s.unit .cas n (Reg.CAS_CMD n) fun s => s.casRetrain n
  .next { s with regs := t.regs, evt := t.evt, cas := t.cas }

/-- CAS_FRAME_SEND (R398): at each local sample tick every up link sends one frame with its sections. -/
def execCasFrameSend (n : Nat) (departure : Int) (s : State) : Host.Outcome State Fault Refusal :=
  let t := s.casSendStep n departure
  .next { s with regs := t.regs, ticked := t.ticked, net := t.net, sched := t.sched, outs := t.outs, gauge := t.gauge,
                  cas := t.cas, freeIdx := t.freeIdx, outbox := t.outbox }

/-- CAS_FRAME_RECEIVE (R399): A received Frenus Link frame is CRC-checked and its sections are processed, forwarded or
discarded. -/
def execCasFrameReceive (n : Nat) (h0 : Nat) (blocks : List Nat) (crc : Nat) (sub : Nat) (s : State) : Host.Outcome State Fault Refusal :=
  let t := s.casFrameReceive n h0 blocks crc (s.instant sub)
  .next { s with now := t.now, regs := t.regs, ticked := t.ticked, evt := t.evt, time := t.time, net := t.net,
                  omd := t.omd, cas := t.cas, outbox := t.outbox }

/-- MIX_FORWARD (R410): A contributor sends a feed word upstream once every term of its sum is present. -/
def execMixForward (s : State) : Host.Outcome State Fault Refusal :=
  let t := s.mixForward
  .next { s with cas := t.cas }

/-- MASTER_LOSS (R413): MASTER_LOSS blocks without a candidate lose the master and a backup becomes acting master. -/
def execMasterLoss (s : State) : Host.Outcome State Fault Refusal :=
  let t := s.masterLoss
  .next { s with regs := t.regs, evt := t.evt, time := t.time, cas := t.cas }

/-- BACKUP_YIELD (R414): after 1 s of the original master's candidacy the acting backup yields and raises event 168. -/
def execBackupYield (s : State) : Host.Outcome State Fault Refusal :=
  let t := s.backupYield
  .next { s with cas := t.cas }

/-- IMPORT_WRITE (R407): an IMPORT[r] write with EN makes a receive channel a link channel, or is refused. -/
def execImportWrite (r : Nat) (v : Word) (s : State) : Host.Outcome State Fault Refusal :=
  let t := s.unit .cas 0 (Reg.CAS_IMPORT r) fun s => s.importWrite r v
  .next { s with regs := t.regs, cas := t.cas }

end Sys2Proof.Machine
end

