-- ==== Sys2Proof/Machine/CondCommands.lean ====
section
/-! DEFINITION. Input conditioning: R81 to R93. Each command has a meaning of its own over the operations of its unit. -/

namespace Sys2Proof.Machine

/-- COND_APPLY (R85): COND.CMD.APPLY schedules every pending COND shadow for APPLY_BLOCK, or is refused. -/
def execCondApply (s : State) : Host.Outcome State Fault Refusal :=
  let t := s.condApply
  .next { s with regs := t.regs, cond := t.cond }

/-- COND_CLEAR_COUNTS (R93): COND.CMD.CLEAR_COUNTS clears the CLIP_COUNT of every channel. -/
def execCondClearCounts (s : State) : Host.Outcome State Fault Refusal :=
  let t := s.condClearCounts
  .next { s with regs := t.regs }

/-- COND_RELEASE_PAGES (R84): COND.CMD.RELEASE_PAGES releases the delay-line pages of channels whose applied integer
delay is 0. -/
def execCondReleasePages (s : State) : Host.Outcome State Fault Refusal :=
  let t := s.condReleasePages
  .next { s with regs := t.regs, cond := t.cond }

/-- PHASE_DELAY_WRITE (R84): A PHASE_DELAY write with a non-zero integer part on a channel without a page requests a
delay-line page. -/
def execPhaseDelayWrite (n : Nat) (v : Word) (s : State) : Host.Outcome State Fault Refusal :=
  let t := s.phaseDelayWrite n v
  .next { s with regs := t.regs, cond := t.cond }

/-- DELAY_PAGE_GRANT (R84): the allocator grants or refuses a channel's delay-line page; a refusal sets DLY_REFUSED and
discards the shadow. -/
def execDelayPageGrant (n : Nat) (s : State) : Host.Outcome State Fault Refusal :=
  let t := s.delayPageGrant n
  .next { s with regs := t.regs, cond := t.cond }

/-- DELAY_LINE_FILLED (R84): 1,024 samples after the grant the delay line is full and DLY_PENDING clears. -/
def execDelayLineFilled (n : Nat) (s : State) : Host.Outcome State Fault Refusal :=
  let t := s.delayLineFilled n
  .next { s with regs := t.regs }

/-- TRACK_LOCK_TIMER (R81): when the fill error has stayed within ±2 samples for 1 s, TRACK_LOCKED is set. -/
def execTrackLockTimer (n : Nat) (s : State) : Host.Outcome State Fault Refusal :=
  let t := s.trackLockTimer n
  .next { s with regs := t.regs }

/-- MDEC_WRITE (R90): A write to MDEC[m] selecting WB768 with a CLKDIV other than 0 is ignored and sets
COND.STATUS.CMD_ERROR. -/
def execMdecWrite (m : Nat) (v : Word) (s : State) : Host.Outcome State Fault Refusal :=
  let t := s.mdecWrite m v
  .next { s with regs := t.regs, cond := t.cond }

end Sys2Proof.Machine
end

