-- ==== Sys2Proof/Machine/CrosspointCommands.lean ====
section
/-! DEFINITION. The crosspoints: R226 to R235. Each command has a meaning of its own over the operations of its unit. -/

namespace Sys2Proof.Machine

/-- XP_APPLY (R226): XP.CMD.APPLY schedules pending crosspoint shadows for XP.APPLY_BLOCK, or is refused. -/
def execXpApply (s : State) : Host.Outcome State Fault Refusal :=
  let t := s.xpApply
  .next { s with regs := t.regs, xp := t.xp }

/-- XP_CLEAR_COUNTS (R235): XP.CMD.CLEAR_COUNTS clears the crosspoint counters. -/
def execXpClearCounts (s : State) : Host.Outcome State Fault Refusal :=
  let t := s.xpClearCounts
  .next { s with regs := t.regs }

/-- NODE_RAMP_END (R227): A node ramp reaches its final gain after L samples and the node becomes inactive if zero. -/
def execNodeRampEnd (off : Nat) (s : State) : Host.Outcome State Fault Refusal :=
  let t := s.nodeRampEnd off
  .next { s with regs := t.regs, xp := t.xp }

end Sys2Proof.Machine
end

