-- ==== Sys2Proof/Machine/FabricCommands.lean ====
section
/-! DEFINITION. The bus matrix and DRAM: R441 to R460. Each command has a meaning of its own over the operations of its unit. -/

namespace Sys2Proof.Machine

/-- MATRIX_CLEAR_COUNTS (R458): MATRIX.CMD.CLEAR_COUNTS clears the matrix counters. -/
def execMatrixClearCounts (s : State) : Host.Outcome State Fault Refusal :=
  let t := s.matrixClearCounts
  .next { s with regs := t.regs }

/-- WIN_WRITE (R441): A BAR2 window write is checked for alignment and takes effect, or leaves EN clear and sets
WIN_ERROR. -/
def execWinWrite (w : Nat) (word : Nat) (v : Word) (s : State) : Host.Outcome State Fault Refusal :=
  let t := s.winWrite w word v
  .next { s with regs := t.regs }

/-- BUS_TRANSACTION (R445): A master's burst is decoded, arbitrated and executed at its target, or answered by the
default target. -/
def execBusTransaction (b : Burst) (s : State) : Host.Outcome State Fault Refusal :=
  let t := s.busTransaction b
  .next { t with nand := s.nand, bootCopies := s.bootCopies, pending := s.pending, dev := s.dev.keep t.dev,
                  dram := Memory.canon 0 t.dram, flash := Memory.canon 0xFF t.flash }

/-- TRANSACTION_TIMEOUT (R448): A transaction without response after TIMEOUT cycles gets an error response and event 54.
-/
def execTransactionTimeout (m : Nat) (tag : Nat) (s : State) : Host.Outcome State Fault Refusal :=
  let t := s.transactionTimeout m tag
  .next { t with nand := s.nand, bootCopies := s.bootCopies, freeIdx := s.freeIdx, pending := s.pending,
                  dev := s.dev.keep t.dev, dram := Memory.canon 0 t.dram, flash := Memory.canon 0xFF t.flash }

/-- TRANSACTION_RESPONSE (R444): A target completes a transaction and returns its response, discarded if already timed
out. -/
def execTransactionResponse (m : Nat) (tag : Nat) (s : State) : Host.Outcome State Fault Refusal :=
  let t := s.transactionResponse m tag
  .next { t with nand := s.nand, bootCopies := s.bootCopies, freeIdx := s.freeIdx, pending := s.pending,
                  dev := s.dev.keep t.dev, dram := Memory.canon 0 t.dram, flash := Memory.canon 0xFF t.flash }

/-- ABORTED_BURST (R446): A master reset with a burst in progress completes the burst on the target side and raises
event 55. -/
def execAbortedBurst (b : Burst) (beats : Nat) (s : State) : Host.Outcome State Fault Refusal :=
  let t := s.abortedBurst b beats
  .next { t with nand := s.nand, bootCopies := s.bootCopies, pending := s.pending, dev := s.dev.keep t.dev,
                  dram := Memory.canon 0 t.dram, flash := Memory.canon 0xFF t.flash }

/-- DRAM_CLEAR_COUNTS (R460): DRAM[n].CMD.CLEAR_COUNTS clears that channel's counters. -/
def execDramClearCounts (n : Nat) (s : State) : Host.Outcome State Fault Refusal :=
  let t := s.unit .dram n (Reg.DRAM_CMD n) fun s => s.dramClearCounts n
  .next { s with regs := t.regs }

/-- DRAM_OFFLINE (R455): DRAM[n].CMD.OFFLINE takes the channel offline at the next block boundary. -/
def execDramOffline (n : Nat) (s : State) : Host.Outcome State Fault Refusal :=
  let t := s.unit .dram n (Reg.DRAM_CMD n) fun s => s.offlineCommand n
  .next { s with regs := t.regs, mtx := t.mtx }

/-- RETRAIN_NOW (R460): DRAM[n].CMD.RETRAIN_NOW starts a retrain at the next refresh window. -/
def execRetrainNow (n : Nat) (s : State) : Host.Outcome State Fault Refusal :=
  let t := s.unit .dram n (Reg.DRAM_CMD n) fun s => s.retrainNow n
  .next { s with regs := t.regs, mtx := t.mtx }

/-- DRAM_RETRAIN_TIMER (R453): every PERIOD ms or after a 10 °C change the channel retrains in refresh-window slices. -/
def execDramRetrainTimer (n : Nat) (s : State) : Host.Outcome State Fault Refusal :=
  let t := s.startRetrain n
  .next { s with regs := t.regs, mtx := t.mtx }

/-- DRAM_RETRAIN_DONE (R454): A retrain completes, changing settings, or fails and leaves the channel DEGRADED. -/
def execDramRetrainDone (n : Nat) (found : Bool) (changed : Bool) (s : State) : Host.Outcome State Fault Refusal :=
  let t := s.retrainDone n found changed
  .next { s with regs := t.regs, evt := t.evt }

/-- DRAM_REFRESH (R452): the controller issues per-bank refresh at the rate the memory's temperature demands. -/
def execDramRefresh (n : Nat) (postponed : Nat) (s : State) : Host.Outcome State Fault Refusal :=
  let t := s.dramRefresh n postponed
  .next { s with regs := t.regs, mtx := t.mtx }

/-- PATROL_SCRUB (R451): patrol scrub reads every backed frame each PERIOD hours and corrects errors. -/
def execPatrolScrub (n : Nat) (corrected : List Nat) (uncorrectable : List Nat) (s : State) : Host.Outcome State Fault Refusal :=
  let t := s.patrolScrub n corrected uncorrectable
  .next { s with regs := t.regs, evt := t.evt, mtx := t.mtx }

/-- FRAME_MIGRATED (R457): the migration engine finishes copying a frame and the frame map switches to its new place. -/
def execFrameMigrated (n : Nat) (bad : List Nat) (s : State) : Host.Outcome State Fault Refusal :=
  let t := s.frameMigrated n bad
  .next { s with regs := t.regs, evt := t.evt, mtx := t.mtx, dram := Memory.canon 0 t.dram }

end Sys2Proof.Machine
end

