-- ==== Sys2Proof/Machine/GaugeCommands.lean ====
section
/-! DEFINITION. Gauge: R271 to R297. Each command has a meaning of its own over the operations of its unit. -/

namespace Sys2Proof.Machine

/-- GAUGE_APPLY (R271): GAUGE.CMD.APPLY schedules pending Gauge shadows for GAUGE.APPLY_BLOCK, or is refused. -/
def execGaugeApply (s : State) : Host.Outcome State Fault Refusal :=
  let t := s.unit .gauge 0 Reg.GAUGE_CMD fun s => s.gaugeApply
  .next { s with regs := t.regs, gauge := t.gauge }

/-- GAUGE_CLEAR_COUNTS (R295): GAUGE.CMD.CLEAR_COUNTS clears the Gauge counters. -/
def execGaugeClearCounts (s : State) : Host.Outcome State Fault Refusal :=
  let t := s.unit .gauge 0 Reg.GAUGE_CMD fun s => s.gaugeClearCounts
  .next { s with regs := t.regs }

/-- BASELINE (R284): GAUGE.CMD.BASELINE records the next valid responses, RE_MEAS, T_AMB and polarity of target outputs
as baseline. -/
def execBaseline (s : State) : Host.Outcome State Fault Refusal :=
  let t := s.unit .gauge 0 Reg.GAUGE_CMD fun s => s.gaugeBaseline
  .next { s with regs := t.regs, gauge := t.gauge }

/-- RESTART_SWEEP (R278): GAUGE.CMD.RESTART_SWEEP ends the current correlation sweep at once. -/
def execRestartSweep (s : State) : Host.Outcome State Fault Refusal :=
  let t := s.unit .gauge 0 Reg.GAUGE_CMD fun s => s.restartSweep
  .next { s with regs := t.regs, gauge := t.gauge }

/-- CLEAR_MUTE (R287): GCMD.CLEAR_MUTE clears GAUGE_MUTE at the block where it applies and restarts the short run. -/
def execClearMute (j : Nat) (s : State) : Host.Outcome State Fault Refusal :=
  let t := s.gaugeCmd j 1
  .next { s with regs := t.regs, gauge := t.gauge }

/-- CLEAR_INVERT (R287): GCMD.CLEAR_INVERT clears GAUGE_INVERT at the block where it applies. -/
def execClearInvert (j : Nat) (s : State) : Host.Outcome State Fault Refusal :=
  let t := s.gaugeCmd j 2
  .next { s with regs := t.regs, gauge := t.gauge }

/-- MEAS_CLEAR_COUNTS (R297): MEAS[m].CMD.CLEAR_COUNTS clears that input's counters. -/
def execMeasClearCounts (m : Nat) (s : State) : Host.Outcome State Fault Refusal :=
  let t := s.unit .meas m (Reg.MEAS_CMD m) fun s => s.measClearCounts m
  .next { s with regs := t.regs }

/-- PILOT_PERIOD_START (R278): at each pilot period start free correlators take the next pending jobs of the sweep. -/
def execPilotPeriodStart (s : State) : Host.Outcome State Fault Refusal :=
  let t := s.pilotPeriodStart
  .next { s with regs := t.regs, gauge := t.gauge }

/-- CORRELATION_JOB_DONE (R279): A correlation job ends and its response is judged valid or invalid. -/
def execCorrelationJobDone (k : Nat) (s : State) : Host.Outcome State Fault Refusal :=
  let t := s.correlationJobDone k
  .next { s with regs := t.regs, evt := t.evt, outs := t.outs, gauge := t.gauge, hedge := t.hedge,
                  freeIdx := t.freeIdx }

/-- OVERRIDE_HOLD_END (R294): GAUGE.HOLD seconds after an override the loop restarts its averages and proposes again. -/
def execOverrideHoldEnd (j : Nat) (s : State) : Host.Outcome State Fault Refusal :=
  let t := s.overrideHoldEnd j
  .next { s with regs := t.regs, gauge := t.gauge }

end Sys2Proof.Machine
end

