-- ==== Sys2Proof/Machine/HedgeCommands.lean ====
section
/-! DEFINITION. Hedge: R420 to R436. Each command has a meaning of its own over the operations of its unit. -/

namespace Sys2Proof.Machine

/-- HEDGE_CLEAR_COUNTS (R436): HEDGE.CMD.CLEAR_COUNTS clears the Hedge counters. -/
def execHedgeClearCounts (s : State) : Host.Outcome State Fault Refusal :=
  let t := s.unit .hedge 0 Reg.HEDGE_CMD fun s => s.hedgeClearCounts
  .next { s with regs := t.regs }

/-- TRANSFER (R428): HEDGE.CMD.TRANSFER starts a handover of control authority, or is refused. -/
def execTransfer (s : State) : Host.Outcome State Fault Refusal :=
  let t := s.unit .hedge 0 Reg.HEDGE_CMD fun s => s.hedgeTransfer
  .next { s with regs := t.regs, hedge := t.hedge }

/-- RESYNC (R434): HEDGE.CMD.RESYNC sends a RESYNC_REQUEST with REASON 4. -/
def execResync (s : State) : Host.Outcome State Fault Refusal :=
  let t := s.unit .hedge 0 Reg.HEDGE_CMD fun s => s.hedgeResync
  .next { s with regs := t.regs, evt := t.evt, net := t.net, hedge := t.hedge }

/-- QUERY (R434): HEDGE.CMD.QUERY sends a QUERY with REASON 3 to the arbiter. -/
def execQuery (s : State) : Host.Outcome State Fault Refusal :=
  let t := s.unit .hedge 0 Reg.HEDGE_CMD fun s => s.hedgeQuery
  .next { s with regs := t.regs, evt := t.evt, net := t.net, hedge := t.hedge }

/-- HEDGE_MESSAGE (R433): A Hedge message on UDP 49352 is authenticated and acted on by type, or dropped. -/
def execHedgeMessage (bytes : List Byte) (s : State) : Host.Outcome State Fault Refusal :=
  let t := s.hedgeMessage bytes
  .next { s with regs := t.regs, evt := t.evt, net := t.net, outs := t.outs, gauge := t.gauge, hedge := t.hedge }

/-- PEER_LOST (R422): HB_MISS missing heartbeats make the peer LOST and the unit starts querying the arbiter. -/
def execPeerLost (s : State) : Host.Outcome State Fault Refusal :=
  let t := s.peerLost
  .next { s with regs := t.regs, evt := t.evt, net := t.net, hedge := t.hedge }

/-- QUERY_REPEAT (R424): while ASKING the unit repeats its QUERY every 3 blocks. -/
def execQueryRepeat (s : State) : Host.Outcome State Fault Refusal :=
  let t := s.queryRepeat
  .next { s with regs := t.regs, evt := t.evt, net := t.net, hedge := t.hedge }

/-- ARB_TIMEOUT (R424): ARB_TIMEOUT without a verdict gives authority to the lower Cascade ID by FALLBACK. -/
def execArbTimeout (s : State) : Host.Outcome State Fault Refusal :=
  let t := s.arbitrationTimeout
  .next { s with regs := t.regs, evt := t.evt, hedge := t.hedge }

/-- VERDICT_APPLY (R424): A received verdict takes effect at EFFECTIVE_BLOCK, setting HOLDER or STANDBY. -/
def execVerdictApply (s : State) : Host.Outcome State Fault Refusal :=
  let t := s.verdictApply
  .next { s with regs := t.regs, evt := t.evt, hedge := t.hedge }

/-- REVERT_TIMER (R428): after REVERT_HOLD seconds of a healthy matching primary peer, a secondary holder starts a
handover. -/
def execRevertTimer (s : State) : Host.Outcome State Fault Refusal :=
  let t := s.revertTimer
  .next { s with regs := t.regs, hedge := t.hedge }

/-- EPOCH_ISSUE (R429): the holder sends an epoch as EPOCH_DATA parts and an EPOCH_COMMIT before its deadline. -/
def execEpochIssue (s : State) : Host.Outcome State Fault Refusal :=
  let t := s.epochIssue
  .next { s with regs := t.regs, evt := t.evt, net := t.net, hedge := t.hedge }

/-- DIVERGENCE_PERSISTS (R432): DIVERGED still set after the settling time past a FULL epoch raises event 184. -/
def execDivergencePersists (s : State) : Host.Outcome State Fault Refusal :=
  let t := s.divergencePersists
  .next { s with regs := t.regs, evt := t.evt, hedge := t.hedge }

/-- WITHHOLD_START (R420): A local taint cause makes the unit withhold transmit packets and raise event 186. -/
def execWithholdStart (s : State) : Host.Outcome State Fault Refusal :=
  let t := s.withholdStart
  .next { s with regs := t.regs, evt := t.evt, hedge := t.hedge }

end Sys2Proof.Machine
end

