-- ==== Sys2Proof/Machine/HostCommands.lean ====
section
/-! DEFINITION. The event controller and the host interface: R488 to R528. Each command has a meaning of its own over the operations of its unit. -/

namespace Sys2Proof.Machine

/-- EVENT_ASSERT (R493): an event source asserts, latching its pending bit and counting towards its vector. -/
def execEventAssert (source : Nat) (pulses : Nat) (crossing : Option Nat) (s : State) : Host.Outcome State Fault Refusal :=
  let t := s.assertSource source pulses crossing
  .next { s with regs := t.regs, evt := t.evt }

/-- PENDING_CLEAR (R494): A W1C write to EVT.PENDING clears bits, relatching any level source still live. -/
def execPendingClear (w : Nat) (v : Word) (same : Option Nat) (s : State) : Host.Outcome State Fault Refusal :=
  let t := s.pendingClear w v same
  .next { s with regs := t.regs, evt := t.evt }

/-- VEC_ACK (R498): A write to VEC[k].ACK clears RAISED and re-raises the vector if its condition or pending sources
remain. -/
def execVecAck (k : Nat) (s : State) : Host.Outcome State Fault Refusal :=
  let t := s.vecAck k
  .next { s with regs := t.regs, evt := t.evt, outbox := t.outbox }

/-- VEC_CFG_WRITE (R497): lowering COUNT or TIME below the current state meets the coalescing condition the next cycle.
-/
def execVecCfgWrite (k : Nat) (v : Word) (s : State) : Host.Outcome State Fault Refusal :=
  let t := s.vecCfgWrite k v
  .next { s with regs := t.regs, evt := t.evt, outbox := t.outbox }

/-- VECTOR_TIMER (R497): A vector's coalescing timer reaches TIME and the vector is raised. -/
def execVectorTimer (k : Nat) (s : State) : Host.Outcome State Fault Refusal :=
  let t := s.vectorTimer k
  .next { s with regs := t.regs, evt := t.evt, outbox := t.outbox }

/-- VECTOR_RAISE (R496): A vector whose condition is met is raised and its MSI-X message sent, held or turned into a
PME. -/
def execVectorRaise (s : State) : Host.Outcome State Fault Refusal :=
  let t := s.raiseAllMet
  .next { s with regs := t.regs, evt := t.evt, outbox := t.outbox }

/-- LINK_WAKE_DONE (R502): the PCIe link reaches L0 after a wake and the held vector message is sent. -/
def execLinkWakeDone (s : State) : Host.Outcome State Fault Refusal :=
  let t := s.linkWakeDone
  .next { s with regs := t.regs, outbox := t.outbox }

/-- FLUSH (R503): A write to EVT.FLUSH raises every non-acknowledged vector with a non-zero count. -/
def execFlush (s : State) : Host.Outcome State Fault Refusal :=
  let t := s.flushVectors
  .next { s with regs := t.regs, evt := t.evt, outbox := t.outbox }

/-- DOORBELL (R495): A write to EVT.DOORBELL asserts the doorbell sources whose bits are 1. -/
def execDoorbell (v : Word) (s : State) : Host.Outcome State Fault Refusal :=
  let t := s.doorbell v
  .next { s with regs := t.regs, evt := t.evt }

/-- EVT_CLEAR_COUNTS (R508): EVT.CMD.CLEAR_COUNTS clears the event controller counters. -/
def execEvtClearCounts (s : State) : Host.Outcome State Fault Refusal :=
  let t := s.evtClearCounts
  .next { s with regs := t.regs }

/-- HOST_CLEAR_COUNTS (R510): HOST.CMD.CLEAR_COUNTS clears the host interface counters. -/
def execHostClearCounts (s : State) : Host.Outcome State Fault Refusal :=
  let t := s.hostClearCounts
  .next { s with regs := t.regs }

/-- FUNCTION_RESET (R488): A function-level, hot or link-down reset resets the host interface only and raises event 214.
-/
def execFunctionReset (s : State) : Host.Outcome State Fault Refusal :=
  let t := s.functionReset
  .next { s with regs := t.regs, evt := t.evt, host := t.host, mtx := t.mtx }

/-- PCIE_LINK_CHANGE (R511): A change of PCIe link state, speed or width raises event 208. -/
def execPcieLinkChange (up : Bool) (speed : Nat) (width : Nat) (pm : Nat) (s : State) : Host.Outcome State Fault Refusal :=
  let t := s.pcieLinkChange up speed width pm
  .next { s with regs := t.regs, evt := t.evt, outbox := t.outbox }

/-- D3HOT_CHANGE (R511): A change of the function's D3hot state raises event 209. -/
def execD3hotChange (d3 : Bool) (s : State) : Host.Outcome State Fault Refusal :=
  let t := s.d3hotChange d3
  .next { s with regs := t.regs, evt := t.evt, outbox := t.outbox }

/-- MB_DOORBELL (R504): A write to MB_DOORBELL submits the mailbox request, or sets OVERRUN while busy. -/
def execMbDoorbell (s : State) : Host.Outcome State Fault Refusal :=
  let t := s.mbDoorbell
  .next { s with regs := t.regs, host := t.host }

/-- GET_INFO (R505): mailbox service GET_INFO returns firmware and boot ROM information. -/
def execGetInfo (s : State) : Host.Outcome State Fault Refusal :=
  let t := s.getInfo
  .next { s with host := t.host, freeIdx := t.freeIdx }

/-- FW_LOAD (R505): mailbox service FW_LOAD verifies a staged firmware image and runs it from DRAM. -/
def execFwLoad (s : State) : Host.Outcome State Fault Refusal :=
  let t := s.fwLoad
  .next { s with regs := t.regs, evt := t.evt, host := t.host, mtx := t.mtx }

/-- SDP_TO_RXS (R505): mailbox service SDP_TO_RXS parses SDP text and writes an RXS block without ENABLE. -/
def execSdpToRxs (s : State) : Host.Outcome State Fault Refusal :=
  let t := s.sdpToRxs
  .next { s with regs := t.regs, evt := t.evt, host := t.host, mtx := t.mtx }

/-- TXS_TO_SDP (R505): mailbox service TXS_TO_SDP writes SDP text describing a TXS block. -/
def execTxsToSdp (s : State) : Host.Outcome State Fault Refusal :=
  let t := s.txsToSdp
  .next { s with regs := t.regs, evt := t.evt, host := t.host, mtx := t.mtx, dram := Memory.canon 0 t.dram }

/-- PTP_STATUS (R505): mailbox service PTP_STATUS returns the PTP state of each port and the grandmaster data. -/
def execPtpStatus (s : State) : Host.Outcome State Fault Refusal :=
  let t := s.ptpStatus
  .next { s with host := t.host }

/-- LOG_READ (R505): mailbox service LOG_READ returns firmware log entries. -/
def execLogRead (s : State) : Host.Outcome State Fault Refusal :=
  let t := s.logRead
  .next { s with host := t.host, freeIdx := t.freeIdx }

/-- MAILBOX_RESET (R526): mailbox service RESET replies and then performs the selected reset type 1 ms later. -/
def execMailboxReset (s : State) : Host.Outcome State Fault Refusal :=
  let t := s.mailboxReset
  .next { s with regs := t.regs, evt := t.evt, host := t.host }

/-- MAILBOX_REPLY (R504): the firmware writes the reply, sets REPLY, clears BUSY and raises event 211. -/
def execMailboxReply (s : State) : Host.Outcome State Fault Refusal :=
  let t := s.mailboxReply
  .next { s with regs := t.regs, evt := t.evt, host := t.host }

/-- FW_HEARTBEAT_STALL (R507): HEARTBEAT not advancing for 100 ms puts FW_STATE in FAULT and raises event 213. -/
def execFwHeartbeatStall (s : State) : Host.Outcome State Fault Refusal :=
  let t := s.heartbeatStall
  .next { s with regs := t.regs, evt := t.evt, host := t.host }

/-- WATCHDOG (R528): FAULT lasting WDOG_TIME × 100 ms with WDOG_EN causes a SYSTEM reset. -/
def execWatchdog (s : State) : Host.Outcome State Fault Refusal :=
  let t := s.watchdog
  .next { t with dev := s.dev, nand := s.nand, bootCopies := s.bootCopies, flash := s.flash, freeIdx := s.freeIdx,
                  outbox := s.outbox, readData := s.readData, pending := s.pending, dram := Memory.canon 0 t.dram }

end Sys2Proof.Machine
end

