-- ==== Sys2Proof/Machine/MetadataCommands.lean ====
section
/-! DEFINITION. Object metadata: R98 to R122. Each command has a meaning of its own over the operations of its unit. -/

namespace Sys2Proof.Machine

/-- FOM_PACKET (R100): A Frenus Object Metadata packet on UDP 49351 is checked, sequence-tested and its entries queued
or dropped. -/
def execFomPacket (src : Nat) (port : Nat) (sub : Nat) (bytes : List Byte) (s : State) : Host.Outcome State Fault Refusal :=
  let t := s.fomPacket src port (s.instant sub) bytes
  .next { s with regs := t.regs, evt := t.evt, omd := t.omd, cas := t.cas }

/-- OSC_PACKET (R104): an OSC packet on OSC_CFG.PORT is mapped by the firmware onto metadata entries, or messages are
dropped. -/
def execOscPacket (sub : Nat) (bytes : List Byte) (s : State) : Host.Outcome State Fault Refusal :=
  let t := s.oscPacket (s.instant sub) bytes
  .next { s with regs := t.regs, evt := t.evt, omd := t.omd, cas := t.cas }

/-- OMD_APPLY (R120): OMD.CMD.APPLY schedules pending object shadows for OMD.APPLY_BLOCK, or is refused. -/
def execOmdApply (s : State) : Host.Outcome State Fault Refusal :=
  let t := s.omdApply
  .next { s with regs := t.regs, omd := t.omd }

/-- OMD_CLEAR_COUNTS (R122): OMD.CMD.CLEAR_COUNTS clears the OMD counters and every OBJ counter. -/
def execOmdClearCounts (s : State) : Host.Outcome State Fault Refusal :=
  let t := s.omdClearCounts
  .next { s with regs := t.regs }

/-- FLUSH_ALL (R122): OMD.CMD.FLUSH_ALL empties every object queue. -/
def execFlushAll (s : State) : Host.Outcome State Fault Refusal :=
  let t := s.flushAll
  .next { s with regs := t.regs, omd := t.omd }

/-- RESET_SENDERS (R102): OMD.CMD.RESET_SENDERS clears the sender table. -/
def execResetSenders (s : State) : Host.Outcome State Fault Refusal :=
  let t := s.resetSenders
  .next { s with regs := t.regs, omd := t.omd }

/-- M_PUSH (R121): A write to OBJ[n].M_PUSH queues one entry built from the M_ registers without sequence or target
checks. -/
def execMPush (n : Nat) (s : State) : Host.Outcome State Fault Refusal :=
  let t := s.unit .obj n (Reg.OBJ_M_PUSH n) fun s => s.mPush n
  .next { s with regs := t.regs, evt := t.evt, omd := t.omd, cas := t.cas }

end Sys2Proof.Machine
end

