-- ==== Sys2Proof/Machine/NeedleCommands.lean ====
section
/-! DEFINITION. The Needles: R183 to R191. Each command has a meaning of its own over the operations of its unit. -/

namespace Sys2Proof.Machine

/-- NDL_CLEAR_COUNTS (R191): NDL[h].CMD.CLEAR_COUNTS clears that Needle's counters. -/
def execNdlClearCounts (h : Nat) (s : State) : Host.Outcome State Fault Refusal :=
  let t := s.unit .ndl h (Reg.NDL_CMD h) fun s => s.ndlClearCounts h
  .next { s with regs := t.regs }

/-- NDL_FENCE (R190): NDL[h].CMD.FENCE fences the Needle at the next block boundary. -/
def execNdlFence (h : Nat) (s : State) : Host.Outcome State Fault Refusal :=
  let t := s.unit .ndl h (Reg.NDL_CMD h) fun s => s.needleFence h
  .next { s with regs := t.regs, ndl := t.ndl }

/-- NDL_KAT_NOW (R191): NDL[h].CMD.KAT_NOW runs the known-answer test in the next idle slot. -/
def execNdlKatNow (h : Nat) (s : State) : Host.Outcome State Fault Refusal :=
  let t := s.unit .ndl h (Reg.NDL_CMD h) fun s => s.needleKatNow h
  .next { s with regs := t.regs, ndl := t.ndl }

/-- NDL_KAT_TIMER (R190): every 10 s a Needle with KAT_EN runs its known-answer test in idle slots. -/
def execNdlKatTimer (h : Nat) (passed : Bool) (s : State) : Host.Outcome State Fault Refusal :=
  let t := s.needleTest h passed
  .next { s with regs := t.regs, ndl := t.ndl }

/-- NDL_FAULT (R190): A Needle parity error or failed test fences it, removes its pages and reassigns home objects. -/
def execNdlFault (h : Nat) (parity : Bool) (s : State) : Host.Outcome State Fault Refusal :=
  let t := s.needleFault h parity
  .next { s with regs := t.regs, ndl := t.ndl }

/-- MICRO_BLOCK (R183): every 4 samples the Needles push, render and steal the work units of one micro-block. -/
def execMicroBlock (claims : List (List Nat)) (late : List Nat) (s : State) : Host.Outcome State Fault Refusal :=
  let t := s.microStep claims late
  .next { s with regs := t.regs, ticked := t.ticked, skein := t.skein, omd := t.omd, ndl := t.ndl,
                  freeIdx := t.freeIdx }

end Sys2Proof.Machine
end

