-- ==== Sys2Proof/Machine/NetCommands.lean ====
section
/-! DEFINITION. The network ports, streams and the tunnel: R343 to R375. Each command has a meaning of its own over the operations of its unit. -/

namespace Sys2Proof.Machine

/-- NET_CLEAR_COUNTS (R372): NET[n].CMD.CLEAR_COUNTS clears that port's counters. -/
def execNetClearCounts (n : Nat) (s : State) : Host.Outcome State Fault Refusal :=
  let t := s.resetRegs (State.netCounters n)
  .next { s with regs := t.regs }

/-- RETRAIN (R343): NET[n].CMD.RETRAIN retrains the port's link. -/
def execRetrain (n : Nat) (s : State) : Host.Outcome State Fault Refusal :=
  let t := s.netRetrain n
  .next { s with regs := t.regs, evt := t.evt, net := t.net }

/-- GCL_APPLY (R348): NET[n].CMD.GCL_APPLY schedules the admin gate list to become operational at a cycle start. -/
def execGclApply (n : Nat) (s : State) : Host.Outcome State Fault Refusal :=
  let t := s.gclApply n
  .next { s with regs := t.regs, net := t.net }

/-- GCL_ACTIVATE (R348): at the scheduled cycle start the admin list becomes operational and event 90 is raised. -/
def execGclActivate (n : Nat) (s : State) : Host.Outcome State Fault Refusal :=
  let t := s.gclActivate n
  .next { s with now := t.now, uptime := t.uptime, regs := t.regs, evt := t.evt, net := t.net, outbox := t.outbox }

/-- GATE_INTERVAL_END (R348): A gate control entry's interval ends and the next entry's gates take force. -/
def execGateIntervalEnd (n : Nat) (s : State) : Host.Outcome State Fault Refusal :=
  let t := s.gateIntervalEnd n
  .next { s with now := t.now, uptime := t.uptime, regs := t.regs, evt := t.evt, net := t.net, outbox := t.outbox }

/-- LINK_TRAINING_DONE (R344): A network port's link comes up, possibly inverted with event 82, or goes down. -/
def execLinkTrainingDone (n : Nat) (up : Bool) (s : State) : Host.Outcome State Fault Refusal :=
  let t := s.netTrainingDone n up
  .next { s with regs := t.regs, evt := t.evt, net := t.net }

/-- POLARITY_RETRY (R344): no lock within 1 ms makes the port retry training with inverted receive polarity. -/
def execPolarityRetry (n : Nat) (s : State) : Host.Outcome State Fault Refusal :=
  let t := s.netPolarityRetry n
  .next { s with net := t.net }

/-- NET_FRAME_RECEIVE (R346): A received frame passing the FCS check is sorted to its destination or to the firmware
queue. -/
def execNetFrameReceive (n : Nat) (bytes : List Byte) (fcsOk : Bool) (s : State) : Host.Outcome State Fault Refusal :=
  let t := s.netReceive n bytes fcsOk
  .next { s with regs := t.regs, evt := t.evt, net := t.net }

/-- PRP_SUPERVISION (R350): every LIFE_CHECK ms the firmware sends PRP supervision frames. -/
def execPrpSupervision (s : State) : Host.Outcome State Fault Refusal :=
  let t := s.prpSupervision
  .next { s with outbox := t.outbox }

/-- PRP_FORGET (R352): A node-table entry without frames for FORGET_TIME is removed. -/
def execPrpForget (s : State) : Host.Outcome State Fault Refusal :=
  let t := s.prpForget
  .next { s with regs := t.regs, evt := t.evt, net := t.net }

/-- TX_FRAME_DEPART (R349): A queued frame starts transmission when its gate allows it to finish in time. -/
def execTxFrameDepart (n : Nat) (s : State) : Host.Outcome State Fault Refusal :=
  let t := s.txDepart n
  .next { s with regs := t.regs, net := t.net, outbox := t.outbox }

/-- NETC_CLEAR_COUNTS (R373): NETC.CMD.CLEAR_COUNTS clears the NETC counters. -/
def execNetcClearCounts (s : State) : Host.Outcome State Fault Refusal :=
  let t := s.resetRegs State.netcCounters
  .next { s with regs := t.regs }

/-- PRP_FLUSH (R352): NETC.CMD.PRP_FLUSH empties the PRP node table. -/
def execPrpFlush (s : State) : Host.Outcome State Fault Refusal :=
  let t := s.prpFlush
  .next { s with regs := t.regs, evt := t.evt, net := t.net }

/-- KEY_CTRL_WRITE (R370): A KEY_CTRL[k] write with VALID commits the key and clears its replay window; VALID 0 erases
the slot. -/
def execKeyCtrlWrite (k : Nat) (v : Word) (s : State) : Host.Outcome State Fault Refusal :=
  let t := s.keyCtrlWrite k v
  .next { s with regs := t.regs, net := t.net }

/-- TUNNEL_REQUEST (R368): A tunnel request is checked for form, tag and replay and queued, answered from cache or
dropped. -/
def execTunnelRequest (r : TunnelRequest) (s : State) : Host.Outcome State Fault Refusal :=
  let t := s.tunnelRequest r
  .next { s with regs := t.regs, evt := t.evt, net := t.net }

/-- TUNNEL_EXECUTE (R369): A queued tunnel request runs its operations in order and sends its reply when all complete.
-/
def execTunnelExecute (s : State) : Host.Outcome State Fault Refusal :=
  let t := s.tunnelExecute
  .next { t with nand := s.nand, bootCopies := s.bootCopies, freeIdx := s.freeIdx, pending := s.pending,
                  dev := s.dev.keep t.dev, dram := Memory.canon 0 t.dram, flash := Memory.canon 0xFF t.flash }

/-- RTP_PACKET (R357): A receive-stream packet is placed by timestamp into the buffer, or dropped as late, early,
duplicate or malformed. -/
def execRtpPacket (n : Nat) (sub : Nat) (bytes : List Byte) (s : State) : Host.Outcome State Fault Refusal :=
  let t := s.rtpPacket n (s.instant sub) bytes
  .next { s with regs := t.regs, evt := t.evt, net := t.net, cond := t.cond }

/-- RX_STREAM_LOST (R359): no packet for 8 packet durations or 4 ms clears ACTIVE and raises event 83. -/
def execRxStreamLost (n : Nat) (s : State) : Host.Outcome State Fault Refusal :=
  let t := s.rxStreamLost n
  .next { s with regs := t.regs, evt := t.evt }

/-- RXS_ENABLE (R353): setting RXS CTRL.ENABLE checks overlap and payload, allocates a buffer and restarts the channels,
or is refused. -/
def execRxsEnable (n : Nat) (s : State) : Host.Outcome State Fault Refusal :=
  let t := s.rxsEnable n
  .next { s with regs := t.regs, net := t.net, cond := t.cond, mtx := t.mtx }

/-- RXS_DISABLE (R353): clearing RXS ENABLE ramps the channels out and releases a software buffer. -/
def execRxsDisable (n : Nat) (s : State) : Host.Outcome State Fault Refusal :=
  let t := s.rxsDisable n
  .next { s with regs := t.regs, net := t.net, cond := t.cond, mtx := t.mtx }

/-- RXS_CLEAR_COUNTS (R374): A write of 1 to RXS CTRL bit 31 clears the stream's counters. -/
def execRxsClearCounts (n : Nat) (s : State) : Host.Outcome State Fault Refusal :=
  let t := s.resetRegs (State.rxsCounters n)
  .next { s with regs := t.regs }

/-- TXS_ENABLE (R361): setting TXS CTRL.ENABLE starts the stream, or is refused for range or payload. -/
def execTxsEnable (n : Nat) (s : State) : Host.Outcome State Fault Refusal :=
  let t := s.txsEnable n
  .next { s with regs := t.regs, net := t.net }

/-- TXS_CLEAR_COUNTS (R375): A write of 1 to TXS CTRL bit 31 clears the stream's counters. -/
def execTxsClearCounts (n : Nat) (s : State) : Host.Outcome State Fault Refusal :=
  let t := s.resetRegs [Reg.TXS_PACKETS n, Reg.TXS_LATE_DEPART n]
  .next { s with regs := t.regs }

/-- TX_PACKET_SEND (R362): when a packet's samples are complete it is built with its RTP numbers and queued for
departure. -/
def execTxPacketSend (n : Nat) (s : State) : Host.Outcome State Fault Refusal :=
  let t := s.txPacketStep n
  .next { s with regs := t.regs, ticked := t.ticked, evt := t.evt, net := t.net, sched := t.sched, outs := t.outs,
                  gauge := t.gauge, freeIdx := t.freeIdx }

end Sys2Proof.Machine
end

