-- ==== Sys2Proof/Machine/OutputCommands.lean ====
section
/-! DEFINITION. The output stage: R237 to R267. Each command has a meaning of its own over the operations of its unit. -/

namespace Sys2Proof.Machine

/-- OUTPUT_MICRO_BLOCK (R237): every 4 OXP ticks each output's Row program runs on one micro-block. -/
def execOutputMicroBlock (s : State) : Host.Outcome State Fault Refusal :=
  let t := s.outputStep
  .next { s with regs := t.regs, ticked := t.ticked, net := t.net, sched := t.sched, outs := t.outs, gauge := t.gauge,
                  freeIdx := t.freeIdx }

/-- OUTS_APPLY (R262): OUTS.CMD.APPLY schedules pending output-stage shadows for OUTS.APPLY_BLOCK, or is refused. -/
def execOutsApply (s : State) : Host.Outcome State Fault Refusal :=
  let t := s.outsApply
  .next { s with regs := t.regs, outs := t.outs }

/-- OUTS_CLEAR_COUNTS (R264): OUTS.CMD.CLEAR_COUNTS clears the OUTS counters and every SPK counter and maximum. -/
def execOutsClearCounts (s : State) : Host.Outcome State Fault Refusal :=
  let t := s.outsClearCounts
  .next { s with regs := t.regs }

/-- PREPARE (R250): OUTS.CMD.PREPARE copies staged coefficients and starts computing spectra into the standby banks. -/
def execPrepare (s : State) : Host.Outcome State Fault Refusal :=
  let t := s.outsPrepare
  .next { s with regs := t.regs, evt := t.evt, outs := t.outs, gauge := t.gauge, mtx := t.mtx }

/-- PREPARE_DONE (R250): A prepare completes with STANDBY_PREPARED set, or fails on a read error with event 26. -/
def execPrepareDone (ok : Bool) (s : State) : Host.Outcome State Fault Refusal :=
  let t := s.prepareDone ok
  .next { s with regs := t.regs, evt := t.evt, outs := t.outs }

/-- SWAP (R251): OUTS.CMD.SWAP queues prepared target outputs for a bank swap from SWAP_BLOCK. -/
def execSwap (s : State) : Host.Outcome State Fault Refusal :=
  let t := s.swapFilters
  .next { s with regs := t.regs, outs := t.outs }

/-- DISCARD (R252): OUTS.CMD.DISCARD empties the standby banks of target outputs not queued for a swap. -/
def execDiscard (s : State) : Host.Outcome State Fault Refusal :=
  let t := s.discardFilters
  .next { s with regs := t.regs, outs := t.outs }

/-- FILTER_XFADE_END (R251): A filter crossfade ends, the new bank becomes active and SWAPS increments. -/
def execFilterXfadeEnd (j : Nat) (s : State) : Host.Outcome State Fault Refusal :=
  let t := s.filterXfadeEnd j
  .next { s with regs := t.regs, evt := t.evt, outs := t.outs }

/-- SPK_CLEAR_COUNTS (R267): SPK[j].CMD.CLEAR_COUNTS clears that output's counters. -/
def execSpkClearCounts (j : Nat) (s : State) : Host.Outcome State Fault Refusal :=
  let t := s.unit .spk j (Reg.SPK_CMD j) fun s => s.spkClearCounts j
  .next { s with regs := t.regs }

end Sys2Proof.Machine
end

