-- ==== Sys2Proof/Machine/PatternCommands.lean ====
section
/-! DEFINITION. The Pattern loader and live change: R63 to R74, R305 to R311. Each command has a meaning of its own over the operations of its unit. -/

namespace Sys2Proof.Machine

/-- PAT_LOAD (R66): CMD LOAD copies the image from SOURCE into the loader area and starts verification. -/
def execPatLoad (s : State) : Host.Outcome State Fault Refusal :=
  let t := s.patLoad
  .next { s with regs := t.regs, evt := t.evt, pat := t.pat, mtx := t.mtx }

/-- PAT_VERIFY_DONE (R71): verification of a loaded image ends in SHADOW_READY or in REJECTED with a code and event 17.
-/
def execPatVerifyDone (bad : Option Nat) (s : State) : Host.Outcome State Fault Refusal :=
  let t := s.patVerifyDone bad
  .next { s with regs := t.regs, evt := t.evt, pat := t.pat, mtx := t.mtx, freeIdx := t.freeIdx }

/-- PAT_COMMIT (R69): CMD COMMIT re-checks resources and headroom and schedules the shadow for COMMIT_BLOCK. -/
def execPatCommit (s : State) : Host.Outcome State Fault Refusal :=
  let t := s.patCommit
  .next { s with regs := t.regs, evt := t.evt, pat := t.pat }

/-- PAT_BIND_OFF (R310): CMD BIND_OFF schedules the regions of BINDOFF_MASK to retire at the retire block, or is
refused. -/
def execPatBindOff (s : State) : Host.Outcome State Fault Refusal :=
  let t := s.patBindOff
  .next { s with regs := t.regs, evt := t.evt, pat := t.pat }

/-- PAT_DISCARD (R66): CMD DISCARD empties the shadow and returns STATE to IDLE. -/
def execPatDiscard (s : State) : Host.Outcome State Fault Refusal :=
  let t := s.patDiscard
  .next { s with regs := t.regs, pat := t.pat, mtx := t.mtx }

/-- PAT_ABORT (R66): CMD ABORT stops a load in READING or VERIFYING and ends in REJECTED with code 0xFF. -/
def execPatAbort (s : State) : Host.Outcome State Fault Refusal :=
  let t := s.patAbort
  .next { s with regs := t.regs, evt := t.evt, pat := t.pat, mtx := t.mtx }

/-- PAT_CMD_REFUSED (R66): A PAT command in a state that does not accept it, or a reserved OP, has no effect and sets
CMD_ERROR. -/
def execPatCmdRefused (op : Nat) (s : State) : Host.Outcome State Fault Refusal :=
  let t := s.patCommand (BitVec.ofNat 32 (op % 16))
  .next { s with regs := t.regs, evt := t.evt, pat := t.pat, mtx := t.mtx }

/-- KEY_REVOKE (R63): A write of 1 to a KEY_REVOKE bit permanently revokes that OTP key slot unless no usable slot would
remain. -/
def execKeyRevoke (v : Word) (s : State) : Host.Outcome State Fault Refusal :=
  let t := s.keyRevoke v
  .next { s with dev := s.dev.keep t.dev, regs := t.regs }

/-- CROSSFADE_RETIRE (R305): after a crossfaded cast-on the old version retires, releases its resources and raises
events 19 and 22. -/
def execCrossfadeRetire (region : Nat) (s : State) : Host.Outcome State Fault Refusal :=
  let t := s.crossfadeRetire region
  .next { s with regs := t.regs, applied := t.applied, evt := t.evt, net := t.net, cond := t.cond, skein := t.skein,
                  pat := t.pat, omd := t.omd, outs := t.outs, mtx := t.mtx }

/-- HARD_SWITCH_RETIRE (R306): in a hard switch the old version retires after its 64-sample ramp-out and the new version
ramps in. -/
def execHardSwitchRetire (region : Nat) (s : State) : Host.Outcome State Fault Refusal :=
  let t := s.hardSwitchRetire region
  .next { s with regs := t.regs, applied := t.applied, evt := t.evt, net := t.net, cond := t.cond, skein := t.skein,
                  pat := t.pat, omd := t.omd, outs := t.outs, mtx := t.mtx }

/-- BIND_OFF_RETIRE (R311): A bound-off region ramps out, retires at R + 2 and on its last instance releases resources
and raises event 19. -/
def execBindOffRetire (region : Nat) (s : State) : Host.Outcome State Fault Refusal :=
  let t := s.bindOffRetire region
  .next { s with regs := t.regs, applied := t.applied, evt := t.evt, net := t.net, cond := t.cond, skein := t.skein,
                  pat := t.pat, omd := t.omd, outs := t.outs, mtx := t.mtx }

end Sys2Proof.Machine
end

