-- ==== Sys2Proof/Machine/PowerCommands.lean ====
section
/-! DEFINITION. Clocks, crossings, supply and reset: R513 to R530. Each command has a meaning of its own over the operations of its unit. -/

namespace Sys2Proof.Machine

/-- CLK_CLEAR_COUNTS (R530): CMD.CLEAR_COUNTS of the CLK/PWR/RST block clears its counters except RESETS. -/
def execClkClearCounts (key : Nat) (s : State) : Host.Outcome State Fault Refusal :=
  let t := s.keyed key fun s => s.clkClearCounts
  .next { s with regs := t.regs }

/-- SYSTEM_RESET_CMD (R527): A CMD write with SYSTEM and the correct KEY causes a SYSTEM reset. -/
def execSystemResetCmd (key : Nat) (s : State) : Host.Outcome State Fault Refusal :=
  let t := s.keyed key fun s => s.deviceReset 3 0
  .next { t with dev := s.dev, nand := s.nand, bootCopies := s.bootCopies, flash := s.flash, freeIdx := s.freeIdx,
                  outbox := s.outbox, readData := s.readData, pending := s.pending, dram := Memory.canon 0 t.dram }

/-- FIRMWARE_RESET_CMD (R527): A CMD write with FIRMWARE and the correct KEY resets the supervisor firmware only. -/
def execFirmwareResetCmd (key : Nat) (s : State) : Host.Outcome State Fault Refusal :=
  let t := s.keyed key fun s => s.firmwareReset
  .next { s with regs := t.regs, evt := t.evt, host := t.host, net := t.net, mtx := t.mtx }

/-- PLL_UNLOCK (R514): the root PLL loses lock, stopping TDM outputs, streams, links and heartbeats. -/
def execPllUnlock (s : State) : Host.Outcome State Fault Refusal :=
  let t := s.pllUnlock
  .next { s with regs := t.regs, evt := t.evt }

/-- PLL_RELOCK (R514): after 1 ms of relock the device performs a SYSTEM reset with cause PLL. -/
def execPllRelock (s : State) : Host.Outcome State Fault Refusal :=
  let t := s.pllRelock
  .next { t with dev := s.dev, nand := s.nand, bootCopies := s.bootCopies, flash := s.flash, freeIdx := s.freeIdx,
                  outbox := s.outbox, readData := s.readData, pending := s.pending, dram := Memory.canon 0 t.dram }

/-- SUPPLY_WARN (R523): A rail below its warning level for 100 ns raises event 0 and holds NAND and flash programming.
-/
def execSupplyWarn (rails : Nat) (t : Nat) (s : State) : Host.Outcome State Fault Refusal :=
  let t := s.supplyWarn rails t
  .next { s with regs := t.regs, evt := t.evt, clk := t.clk }

/-- DIP_END (R523): all rails above warning for 1 ms end the dip, record its duration and raise event 1. -/
def execDipEnd (last : Nat) (s : State) : Host.Outcome State Fault Refusal :=
  let t := s.dipEnd last
  .next { s with regs := t.regs, evt := t.evt }

/-- BROWNOUT (R524): A rail below its reset level for 1 µs causes a BROWNOUT reset. -/
def execBrownout (rails : Nat) (s : State) : Host.Outcome State Fault Refusal :=
  let t := s.brownout rails
  .next { t with dev := s.dev, nand := s.nand, bootCopies := s.bootCopies, flash := s.flash, freeIdx := s.freeIdx,
                  outbox := s.outbox, readData := s.readData, pending := s.pending, dram := Memory.canon 0 t.dram }

/-- POR (R526): power-up, POR_N low or VDD_AON below its reset level resets everything. -/
def execPor (s : State) : Host.Outcome State Fault Refusal :=
  let t := s.powerOnReset
  .next { t with dev := s.dev, nand := s.nand, bootCopies := s.bootCopies, flash := s.flash, freeIdx := s.freeIdx,
                  outbox := s.outbox, readData := s.readData, pending := s.pending, dram := Memory.canon 0 t.dram }

/-- PERST (R526): PERST# causes a SYSTEM or HOST_IF reset according to PERST_SYSTEM. -/
def execPerst (s : State) : Host.Outcome State Fault Refusal :=
  let t := s.perst
  .next { t with dev := s.dev, nand := s.nand, bootCopies := s.bootCopies, flash := s.flash, freeIdx := s.freeIdx,
                  outbox := s.outbox, readData := s.readData, pending := s.pending, dram := Memory.canon 0 t.dram }

/-- THERMAL_SAMPLE (R525): every 100 µs the die temperature is read and the thermal warning is updated. -/
def execThermalSample (raw : Int) (s : State) : Host.Outcome State Fault Refusal :=
  let t := s.thermalSample raw
  .next { s with regs := t.regs, evt := t.evt, clk := t.clk }

/-- THERMAL_RESET (R525): A reading at or above 135 °C for 1 ms causes a THERMAL reset held until below 110 °C. -/
def execThermalReset (s : State) : Host.Outcome State Fault Refusal :=
  let t := s.thermalReset
  .next { t with dev := s.dev, nand := s.nand, bootCopies := s.bootCopies, flash := s.flash, freeIdx := s.freeIdx,
                  outbox := s.outbox, readData := s.readData, pending := s.pending, dram := Memory.canon 0 t.dram }

/-- RESET_RELEASE (R529): after reset release the device runs its start-up sequence up to firmware, store mount and boot
Pattern. -/
def execResetRelease (failed : List Nat) (trained : List Nat) (s : State) : Host.Outcome State Fault Refusal :=
  let t := s.resetRelease failed trained
  .next { s with regs := t.regs, evt := t.evt, host := t.host, clk := t.clk, skein := t.skein, rndr := t.rndr,
                  sched := t.sched, gauge := t.gauge, bootf := t.bootf }

/-- FIFO_RESYNC (R519): after one side of a FIFO crossing is reset the pointers resynchronise and held entries are
dropped. -/
def execFifoResync (c : Crossing) (held : Nat) (offered : Nat) (s : State) : Host.Outcome State Fault Refusal :=
  let t := s.fifoResync c held offered
  .next { s with regs := t.regs, tdm := t.tdm }

/-- REFCLK_CHANGE (R513): A SerDes reference becomes present or absent within ±1,000 ppm of the root. -/
def execRefclkChange (ref25 : Bool) (present : Bool) (s : State) : Host.Outcome State Fault Refusal :=
  let t := s.refclkChange ref25 present
  .next { s with regs := t.regs }

/-- FRENUS_LINK_TRAINING_DONE (R397): A Frenus Link port's lane comes up, with receive polarity corrected and event 161
if inverted, or goes down, raising event 160. -/
def execFrenusLinkTrainingDone (n : Nat) (up : Bool) (inverted : Bool) (s : State) : Host.Outcome State Fault Refusal :=
  let t := s.casTrainingDone n up inverted
  .next { s with regs := t.regs, evt := t.evt, cas := t.cas }

/-- SLEWING_END (R326): when the slew that follows a SET_TOD step has removed its remainder, SLEWING ends and STATE
becomes FREERUN. -/
def execSlewingEnd (s : State) : Host.Outcome State Fault Refusal :=
  let t := s.slewingEnd
  .next { s with regs := t.regs, evt := t.evt, time := t.time }

end Sys2Proof.Machine
end

