-- ==== Sys2Proof/Machine/SchedCommands.lean ====
section
/-! DEFINITION. The scheduler: R195 to R216. Each command has a meaning of its own over the operations of its unit. -/

namespace Sys2Proof.Machine

/-- SCHED_CLEAR_COUNTS (R216): SCHED.CMD.CLEAR_COUNTS clears the scheduler counters, peaks and maxima. -/
def execSchedClearCounts (s : State) : Host.Outcome State Fault Refusal :=
  let t := s.schedClearCounts
  .next { s with regs := t.regs }

/-- INSTANCE_READY (R195): an instance becomes ready once its earliest start has come and its predecessors have
released. -/
def execInstanceReady (u : Nat) (s : State) : Host.Outcome State Fault Refusal :=
  let t := s.instanceReady u
  .next { s with regs := t.regs, evt := t.evt, sched := t.sched }

/-- INSTANCE_DISPATCH (R196): A free engine takes the ready entry with the earliest absolute deadline. -/
def execInstanceDispatch (cls : Nat) (tile : Nat) (s : State) : Host.Outcome State Fault Refusal :=
  let t := s.dispatch cls tile
  .next { s with regs := t.regs, evt := t.evt, sched := t.sched }

/-- INSTANCE_COMPLETE (R201): an instance completes with a DONE token and its flow's release pointer advances. -/
def execInstanceComplete (u : Nat) (s : State) : Host.Outcome State Fault Refusal :=
  let t := s.instanceComplete u
  .next { s with regs := t.regs, evt := t.evt, sched := t.sched, gauge := t.gauge, hedge := t.hedge }

/-- INSTANCE_CANCEL (R203): an instance is cancelled, releasing a CANCELLED token according to how far it had got. -/
def execInstanceCancel (u : Nat) (made : Bool) (s : State) : Host.Outcome State Fault Refusal :=
  let t := s.cancelInstance u made
  .next { s with regs := t.regs, evt := t.evt, sched := t.sched, gauge := t.gauge }

/-- SPILL_REFILL (R209): when a list falls to LOW_WATER entries are refilled from the spill ring. -/
def execSpillRefill (cls : Nat) (tile : Nat) (s : State) : Host.Outcome State Fault Refusal :=
  let t := s.spillRefill cls tile
  .next { s with regs := t.regs, evt := t.evt, sched := t.sched }

/-- READY_RETRY (R209): A deferred ready transition is retried each FABRIC_CLK cycle until room appears. -/
def execReadyRetry (u : Nat) (s : State) : Host.Outcome State Fault Refusal :=
  let t := s.readyRetry u
  .next { s with regs := t.regs, evt := t.evt, sched := t.sched }

/-- HARD_DEADLINE_MISS (R211): A domain unit misses its hard deadline, its unreleased instances are cancelled and
concealment starts. -/
def execHardDeadlineMiss (d : Domain) (s : State) : Host.Outcome State Fault Refusal :=
  let t := s.hardMiss d
  .next { s with regs := t.regs, evt := t.evt, rndr := t.rndr, ndl := t.ndl, sched := t.sched, gauge := t.gauge }

end Sys2Proof.Machine
end

