-- ==== Sys2Proof/Machine/SkeinCommands.lean ====
section
/-! DEFINITION. Skein and paging: R163 to R177. Each command has a meaning of its own over the operations of its unit. -/

namespace Sys2Proof.Machine

/-- SKEIN_CLEAR_COUNTS (R176): SKEIN.CMD.CLEAR_COUNTS clears the SKEIN counters and peaks. -/
def execSkeinClearCounts (s : State) : Host.Outcome State Fault Refusal :=
  let t := s.skeinClearCounts
  .next { s with regs := t.regs }

/-- WIN_SEL_WRITE (R176): A WIN_SEL write latches the window of the selected channel at the next block boundary. -/
def execWinSelWrite (v : Word) (s : State) : Host.Outcome State Fault Refusal :=
  let t := s.winSelWrite v
  .next { s with regs := t.regs, skein := t.skein }

/-- BORROW_LIMIT_WRITE (R163): lowering BORROW_LIMIT below BORROWED makes the pager return the excess at the next block
boundary. -/
def execBorrowLimitWrite (v : Word) (s : State) : Host.Outcome State Fault Refusal :=
  let t := s.pagerCfgWrite v
  .next { s with regs := t.regs, skein := t.skein }

/-- PAGE_IN_DONE (R173): A page's DRAM read completes and any MAC lane or Needle waiting on it resumes. -/
def execPageInDone (channel : Nat) (page : Nat) (zeros : List Nat) (s : State) : Host.Outcome State Fault Refusal :=
  let t := s.pageInDone channel page zeros
  .next { s with regs := t.regs, skein := t.skein, hedge := t.hedge }

end Sys2Proof.Machine
end

