-- ==== Sys2Proof/Machine/StoreCommands.lean ====
section
/-! DEFINITION. The show store and the boot flash: R464 to R483. Each command has a meaning of its own over the operations of its unit. -/

namespace Sys2Proof.Machine

/-- STORE_WRITE (R464): STORE CMD WRITE starts writing a new version of the object from staging, or is refused. -/
def execStoreWrite (s : State) : Host.Outcome State Fault Refusal :=
  let t := s.unit .store 0 Reg.STORE_CMD fun s => s.storeWrite
  .next { s with regs := t.regs, evt := t.evt, store := t.store, mtx := t.mtx }

/-- STORE_READ (R464): STORE CMD READ starts copying the object's bytes to staging, or is refused. -/
def execStoreRead (s : State) : Host.Outcome State Fault Refusal :=
  let t := s.unit .store 0 Reg.STORE_CMD fun s => s.storeRead
  .next { s with regs := t.regs, evt := t.evt, store := t.store }

/-- STORE_DELETE (R464): STORE CMD DELETE removes the object, or is refused. -/
def execStoreDelete (s : State) : Host.Outcome State Fault Refusal :=
  let t := s.unit .store 0 Reg.STORE_CMD fun s => s.storeDelete
  .next { s with regs := t.regs, evt := t.evt, store := t.store }

/-- STORE_INFO (R464): STORE CMD INFO reports the object's length and kind. -/
def execStoreInfo (s : State) : Host.Outcome State Fault Refusal :=
  let t := s.unit .store 0 Reg.STORE_CMD fun s => s.storeInfo
  .next { s with regs := t.regs, evt := t.evt }

/-- STORE_CLEAR_COUNTS (R483): STORE CMD CLEAR_COUNTS clears the store counters and stem underrun counts. -/
def execStoreClearCounts (s : State) : Host.Outcome State Fault Refusal :=
  let t := s.unit .store 0 Reg.STORE_CMD fun s => s.storeClearCounts
  .next { s with regs := t.regs }

/-- STORE_CMD_DONE (R465): A store command completes, its journal record commits and event 64 or 65 is raised. -/
def execStoreCmdDone (s : State) : Host.Outcome State Fault Refusal :=
  let t := s.storeCmdDone
  .next { s with regs := t.regs, evt := t.evt, store := t.store, mtx := t.mtx, dram := Memory.canon 0 t.dram,
                  nand := t.nand }

/-- STORE_MOUNT_DONE (R472): after reset the store rebuilds its map and reaches READY with event 72. -/
def execStoreMountDone (ok : Bool) (s : State) : Host.Outcome State Fault Refusal :=
  let t := s.storeMountDone ok
  .next { s with regs := t.regs, evt := t.evt, store := t.store, nand := t.nand }

/-- NAND_UNCORRECTABLE (R467): A sector that cannot be decoded even after retries is lost and raises event 69. -/
def execNandUncorrectable (obj : Nat) (sector : Nat) (s : State) : Host.Outcome State Fault Refusal :=
  let t := s.nandUncorrectable obj sector
  .next { s with regs := t.regs, evt := t.evt, store := t.store, nand := t.nand }

/-- BLOCK_REFRESH (R467): A block with many corrected bits or reads is refreshed elsewhere and erased. -/
def execBlockRefresh (b : Nat) (corrected : Nat) (reads : Nat) (s : State) : Host.Outcome State Fault Refusal :=
  let t := s.blockRefresh b corrected reads
  .next { s with regs := t.regs, nand := t.nand }

/-- WEAR_MOVE (R467): when erase counts differ beyond WEAR_DELTA the least-worn block's data moves. -/
def execWearMove (s : State) : Host.Outcome State Fault Refusal :=
  let t := s.wearMove
  .next { s with regs := t.regs, nand := t.nand }

/-- GROWN_BAD (R467): A failed program or erase retires the block and rewrites its data, raising event 66. -/
def execGrownBad (b : Nat) (s : State) : Host.Outcome State Fault Refusal :=
  let t := s.grownBad b
  .next { s with regs := t.regs, evt := t.evt, nand := t.nand }

/-- STORE_SCRUB (R467): every DAYS days of running the scrub reads every block and applies the refresh rule. -/
def execStoreScrub (found : List (Nat × Nat)) (s : State) : Host.Outcome State Fault Refusal :=
  let t := s.storeScrub found
  .next { s with regs := t.regs, store := t.store, nand := t.nand }

/-- PLAY (R476): STEM CMD PLAY arms the stem, restarts its channel and fills its ring, or is refused. -/
def execPlay (k : Nat) (s : State) : Host.Outcome State Fault Refusal :=
  let t := s.unit .store 0 (Reg.STEM_CMD k) fun s => s.stemPlay k
  .next { s with regs := t.regs, cond := t.cond, store := t.store }

/-- STOP (R478): STEM CMD STOP returns an armed stem to IDLE or ramps a playing stem out at STOP_BLOCK. -/
def execStop (k : Nat) (s : State) : Host.Outcome State Fault Refusal :=
  let t := s.unit .store 0 (Reg.STEM_CMD k) fun s => s.stemStop k
  .next { s with regs := t.regs, cond := t.cond, store := t.store }

/-- STEM_PRELOADED (R476): the stem's ring is filled and PRELOADED is set. -/
def execStemPreloaded (k : Nat) (s : State) : Host.Outcome State Fault Refusal :=
  let t := s.stemPreloaded k
  .next { s with regs := t.regs }

/-- STEM_END (R475): after the object's last sample the stem ends with event 71, or loops. -/
def execStemEnd (k : Nat) (s : State) : Host.Outcome State Fault Refusal :=
  let t := s.stemEnd k
  .next { s with regs := t.regs, evt := t.evt }

/-- INSTALL_FW (R481): BOOTF INSTALL_FW erases, programs and verifies a firmware slot from staging. -/
def execInstallFw (slot : Nat) (s : State) : Host.Outcome State Fault Refusal :=
  let t := s.installFw slot
  .next { s with regs := t.regs, evt := t.evt, bootf := t.bootf, mtx := t.mtx, flash := Memory.canon 0xFF t.flash }

/-- INSTALL_PAT (R481): BOOTF INSTALL_PAT erases, programs and verifies a boot-flash Pattern slot from staging. -/
def execInstallPat (slot : Nat) (s : State) : Host.Outcome State Fault Refusal :=
  let t := s.installPat slot
  .next { s with regs := t.regs, evt := t.evt, bootf := t.bootf, mtx := t.mtx, flash := Memory.canon 0xFF t.flash }

/-- SET_BOOT (R474): BOOTF SET_BOOT writes the boot descriptor from BOOT_CFG, or is refused. -/
def execSetBoot (s : State) : Host.Outcome State Fault Refusal :=
  let t := s.setBoot
  .next { s with regs := t.regs, evt := t.evt, bootf := t.bootf, mtx := t.mtx }

/-- BOOTF_READ (R481): BOOTF READ copies user-area bytes to staging. -/
def execBootfRead (s : State) : Host.Outcome State Fault Refusal :=
  let t := s.bootUser 4
  .next { s with regs := t.regs, evt := t.evt, bootf := t.bootf, mtx := t.mtx }

/-- BOOTF_PROGRAM (R481): BOOTF PROGRAM programs staged bytes into the user area. -/
def execBootfProgram (s : State) : Host.Outcome State Fault Refusal :=
  let t := s.bootUser 5
  .next { s with regs := t.regs, evt := t.evt, bootf := t.bootf, mtx := t.mtx }

/-- BOOTF_ERASE (R481): BOOTF ERASE erases 64 KiB sectors of the user area. -/
def execBootfErase (s : State) : Host.Outcome State Fault Refusal :=
  let t := s.bootUser 6
  .next { s with regs := t.regs, evt := t.evt, bootf := t.bootf, mtx := t.mtx }

/-- BOOTF_CMD_DONE (R481): A boot-flash command completes, sets STATUS and raises event 212. -/
def execBootfCmdDone (s : State) : Host.Outcome State Fault Refusal :=
  let t := s.bootCmdDone
  .next { s with regs := t.regs, evt := t.evt, bootf := t.bootf, mtx := t.mtx, dram := Memory.canon 0 t.dram,
                  bootCopies := t.bootCopies, flash := Memory.canon 0xFF t.flash }

/-- BOOT_PATTERN_SELECT (R473): after start-up the firmware loads boot source A, or B as fallback, and commits it as a
full load. -/
def execBootPatternSelect (s : State) : Host.Outcome State Fault Refusal :=
  let t := s.bootPatternSelect
  .next { s with regs := t.regs, evt := t.evt, pat := t.pat, mtx := t.mtx, freeIdx := t.freeIdx }

end Sys2Proof.Machine
end

