-- ==== Sys2Proof/Machine/TdmCommands.lean ====
section
/-! DEFINITION. The TDM ports: R376 to R393. Each command has a meaning of its own over the operations of its unit. -/

namespace Sys2Proof.Machine

/-- TDM_CLEAR_COUNTS (R393): TDM[n].CMD.CLEAR_COUNTS clears that port's counters. -/
def execTdmClearCounts (n : Nat) (s : State) : Host.Outcome State Fault Refusal :=
  let t := s.tdmClearCounts n
  .next { s with regs := t.regs }

/-- TDM_ENABLE (R376): setting TDM CFG0.ENABLE checks the configuration and starts the port, or is refused. -/
def execTdmEnable (n : Nat) (v : Word) (s : State) : Host.Outcome State Fault Refusal :=
  let t := s.tdmCfgWrite n (setFld v 0 0 1)
  .next { s with regs := t.regs, evt := t.evt, cond := t.cond, tdm := t.tdm }

/-- TDM_DISABLE (R391): clearing ENABLE ramps inputs out and stops driving the pins at the next frame sync. -/
def execTdmDisable (n : Nat) (s : State) : Host.Outcome State Fault Refusal :=
  let t := s.tdmCfgWrite n (setFld (s.rd (Reg.TDM_CFG0 n)) 0 0 0)
  .next { s with regs := t.regs, evt := t.evt, cond := t.cond, tdm := t.tdm }

/-- MASK_APPLY (R388): A written RX_MASK or TX_MASK applies at the next frame-sync edge and MASK_EPOCH increments. -/
def execMaskApply (n : Nat) (s : State) : Host.Outcome State Fault Refusal :=
  let t := s.tdmMaskApply n
  .next { s with regs := t.regs, applied := t.applied, tdm := t.tdm }

/-- DMA_CFG_WRITE (R389): A DMA_CFG write enabling the ring with RING 0 is refused and sets REFUSED. -/
def execDmaCfgWrite (n : Nat) (v : Word) (s : State) : Host.Outcome State Fault Refusal :=
  let t := s.tdmDmaCfgWrite n v
  .next { s with regs := t.regs, evt := t.evt, tdm := t.tdm }

/-- TDM_FRAME_RECEIVE (R382): A slave frame enters the receive FIFO, dropping the oldest at overflow, or is discarded as
bad. -/
def execTdmFrameReceive (n : Nat) (wire : List Nat) (bclks : Nat) (matched : Bool) (s : State) : Host.Outcome State Fault Refusal :=
  let t := s.tdmFrameReceive n wire bclks matched
  .next { s with regs := t.regs, applied := t.applied, evt := t.evt, tdm := t.tdm, mtx := t.mtx,
                  dram := Memory.canon 0 t.dram, outbox := t.outbox }

/-- TDM_DEVICE_FRAME_TICK (R382): at each device frame tick a frame leaves the receive FIFO or is repeated, and one
enters the transmit FIFO. -/
def execTdmDeviceFrameTick (n : Nat) (wire : List Nat) (matched : Bool) (s : State) : Host.Outcome State Fault Refusal :=
  let t := s.tdmDeviceStep n wire matched
  .next { s with regs := t.regs, applied := t.applied, ticked := t.ticked, evt := t.evt, net := t.net, cond := t.cond,
                  sched := t.sched, outs := t.outs, gauge := t.gauge, tdm := t.tdm, mtx := t.mtx,
                  dram := Memory.canon 0 t.dram, freeIdx := t.freeIdx, outbox := t.outbox }

/-- TDM_STALL (R384): no valid frame for 4 frame periods puts the slave port in STALLED. -/
def execTdmStall (n : Nat) (s : State) : Host.Outcome State Fault Refusal :=
  let t := s.tdmStall n
  .next { s with regs := t.regs, evt := t.evt, tdm := t.tdm }

/-- TDM_RATE_WINDOW (R384): at the end of each 64-frame window the rate is judged and the port may become UNLOCKED or
swapped. -/
def execTdmRateWindow (n : Nat) (err : Int) (swapped : Bool) (s : State) : Host.Outcome State Fault Refusal :=
  let t := s.tdmRateWindow n err swapped
  .next { s with regs := t.regs, evt := t.evt, tdm := t.tdm }

/-- TDM_RUNNING (R385): after enough valid frames the port re-enters RUNNING at the next block boundary and ramps inputs
in. -/
def execTdmRunning (n : Nat) (s : State) : Host.Outcome State Fault Refusal :=
  let t := s.tdmRunning n
  .next { s with regs := t.regs, evt := t.evt, tdm := t.tdm }

end Sys2Proof.Machine
end

