-- ==== Sys2Proof/Machine/TickCommands.lean ====
section
/-! DEFINITION. The clock of the block: R109, R180, R321. Each command has a meaning of its own over the operations of its unit. -/

namespace Sys2Proof.Machine

/-- SAMPLE_TICK (R321): local time reaches the next multiple of 32,768 counts and every unit advances by one conditioned
sample. -/
def execSampleTick (bits : List (Nat × List Bool)) (s : State) : Host.Outcome State Fault Refusal :=
  let t := s.sampleTick bits
  .next { t with dev := s.dev, nand := s.nand, bootCopies := s.bootCopies, flash := s.flash, readData := s.readData,
                  pending := s.pending, dram := Memory.canon 0 t.dram }

/-- BLOCK_START (R321): every 32 sample ticks a block starts: shadows apply, instances are created, targets commit and
block-boundary actions run. -/
def execBlockStart (s : State) : Host.Outcome State Fault Refusal :=
  let t := s.blockStart
  .next { t with nand := s.nand, bootCopies := s.bootCopies, readData := s.readData, pending := s.pending,
                  dev := s.dev.keep t.dev, dram := Memory.canon 0 t.dram, flash := Memory.canon 0xFF t.flash }

/-- METADATA_CUTOFF (R109): sixteen samples after a block starts, queued entries for that block are merged and each
speculation is committed or cancelled. -/
def execMetadataCutoff (s : State) : Host.Outcome State Fault Refusal :=
  let t := s.metadataCutoff
  .next { s with regs := t.regs, ticked := t.ticked, evt := t.evt, skein := t.skein, omd := t.omd }

/-- FOREGROUND_CUTOFF (R180): sixteen samples before block B starts, metadata of Foreground objects is merged for block
B. -/
def execForegroundCutoff (s : State) : Host.Outcome State Fault Refusal :=
  let t := s.foregroundStep
  .next { s with regs := t.regs, ticked := t.ticked, evt := t.evt, skein := t.skein, omd := t.omd }

end Sys2Proof.Machine
end

