-- ==== Sys2Proof/Machine/TileCommands.lean ====
section
/-! DEFINITION. The render array: R149 to R155, R312 to R318. Each command has a meaning of its own over the operations of its unit. -/

namespace Sys2Proof.Machine

/-- RNDR_CLEAR_COUNTS (R153): RNDR.CMD.CLEAR_COUNTS clears the RNDR counters and every TILE counter. -/
def execRndrClearCounts (s : State) : Host.Outcome State Fault Refusal :=
  let t := s.rndrClearCounts
  .next { s with regs := t.regs }

/-- TOL_GAIN_WRITE (R149): A write of TOL_GAIN computes the gain tolerance factor K as a fixed function narrowed to
UQ1.31. -/
def execTolGainWrite (v : Word) (s : State) : Host.Outcome State Fault Refusal :=
  let t := s.tolGainWrite v
  .next { s with regs := t.regs, rndr := t.rndr }

/-- TILE_CLEAR_COUNTS (R155): TILE[p].CMD.CLEAR_COUNTS clears that tile's counters. -/
def execTileClearCounts (p : Nat) (s : State) : Host.Outcome State Fault Refusal :=
  let t := s.unit .tile p (Reg.TILE_CMD p) fun s => s.tileClearCounts p
  .next { s with regs := t.regs }

/-- TILE_FENCE (R314): TILE[p].CMD.FENCE fences the tile at the next block boundary. -/
def execTileFence (p : Nat) (s : State) : Host.Outcome State Fault Refusal :=
  let t := s.unit .tile p (Reg.TILE_CMD p) fun s => s.tileFence p
  .next { s with regs := t.regs, rndr := t.rndr }

/-- TILE_KAT_NOW (R313): TILE[p].CMD.KAT_NOW runs the known-answer test in the next idle slot. -/
def execTileKatNow (p : Nat) (s : State) : Host.Outcome State Fault Refusal :=
  let t := s.unit .tile p (Reg.TILE_CMD p) fun s => s.tileKatStart p
  .next { s with regs := t.regs, rndr := t.rndr }

/-- TILE_KAT_TIMER (R313): every 10 s a tile with KAT_EN runs its known-answer test in a staggered idle slot. -/
def execTileKatTimer (p : Nat) (s : State) : Host.Outcome State Fault Refusal :=
  let t := s.tileKatTimer p
  .next { s with regs := t.regs, rndr := t.rndr }

/-- TILE_KAT_DONE (R313): A tile's known-answer test ends, counting a pass or a failure that fences the tile. -/
def execTileKatDone (p : Nat) (passed : Bool) (s : State) : Host.Outcome State Fault Refusal :=
  let t := s.tileKatDone p passed
  .next { s with regs := t.regs, evt := t.evt, rndr := t.rndr }

/-- TILE_PARITY_ERROR (R314): A parity error on a tile SRAM read reads the word as zero and fences the tile at the next
boundary. -/
def execTileParityError (p : Nat) (s : State) : Host.Outcome State Fault Refusal :=
  let t := s.tileParityError p
  .next { s with regs := t.regs, rndr := t.rndr }

/-- SPARE_REFILL_DONE (R317): the refill of an engaging spare completes, the spare becomes ACTIVE and event 21 is
raised. -/
def execSpareRefillDone (p : Nat) (s : State) : Host.Outcome State Fault Refusal :=
  let t := s.spareRefillDone p
  .next { s with regs := t.regs, evt := t.evt, skein := t.skein, rndr := t.rndr }

end Sys2Proof.Machine
end

