-- ==== Sys2Proof/Machine/TimeCommands.lean ====
section
/-! DEFINITION. The time base and the time actions: R325 to R341. Each command has a meaning of its own over the operations of its unit. -/

namespace Sys2Proof.Machine

/-- STEP_ACCEPT (R329): TIME CMD STEP_ACCEPT schedules a step of local time by the refused offset at block E. -/
def execStepAccept (s : State) : Host.Outcome State Fault Refusal :=
  let t := s.stepAccept
  .next { s with regs := t.regs, evt := t.evt, time := t.time }

/-- SLEW (R330): TIME CMD SLEW removes the refused offset by steering at 200 ppm. -/
def execSlew (s : State) : Host.Outcome State Fault Refusal :=
  let t := s.slewCommand
  .next { s with regs := t.regs, evt := t.evt, time := t.time }

/-- SET_TOD (R327): TIME CMD SET_TOD sets local time directly or through a step, when accepted. -/
def execSetTod (s : State) : Host.Outcome State Fault Refusal :=
  let t := s.setTod
  .next { s with now := t.now, regs := t.regs, ticked := t.ticked, evt := t.evt, time := t.time, net := t.net,
                  cas := t.cas, outbox := t.outbox }

/-- TIME_CLEAR_COUNTS (R339): TIME CMD CLEAR_COUNTS clears the time-base counters. -/
def execTimeClearCounts (s : State) : Host.Outcome State Fault Refusal :=
  let t := s.timeClearCounts
  .next { s with regs := t.regs }

/-- TIME_CMD_REFUSED (R328): A TIME command not accepted in the current state, or a reserved OP, sets CMD_ERROR and has
no effect. -/
def execTimeCmdRefused (op : Nat) (s : State) : Host.Outcome State Fault Refusal :=
  let t := s.timeCommand (BitVec.ofNat 32 (op % 8))
  .next { s with now := t.now, regs := t.regs, ticked := t.ticked, evt := t.evt, time := t.time, net := t.net,
                  cas := t.cas, outbox := t.outbox }

/-- PTP_MESSAGE (R325): A PTP message is timestamped and, for Sync, yields an offset measurement for the servo or the
jump rule. -/
def execPtpMessage (port : Nat) (sub : Nat) (m : PtpMsg) (s : State) : Host.Outcome State Fault Refusal :=
  let t := s.ptpMessage port (s.instant sub) m
  .next { s with now := t.now, regs := t.regs, ticked := t.ticked, evt := t.evt, time := t.time, net := t.net,
                  cas := t.cas, outbox := t.outbox }

/-- PTP_SOURCE_LOSS (R326): no Sync for three intervals loses the PTP source and enters HOLDOVER. -/
def execPtpSourceLoss (s : State) : Host.Outcome State Fault Refusal :=
  let t := s.ptpLoss
  .next { s with regs := t.regs, evt := t.evt, time := t.time }

/-- REF_IN_EDGE (R331): A REF_IN edge is validated against its window and steers the servo, or is rejected as a glitch.
-/
def execRefInEdge (sub : Nat) (falling : Bool) (s : State) : Host.Outcome State Fault Refusal :=
  let t := s.refEdge (s.instant sub) falling
  .next { s with regs := t.regs, evt := t.evt, time := t.time }

/-- REF_LOSS (R331): no valid REF_IN edge for 8 expected periods enters HOLDOVER and raises events 5 and 10. -/
def execRefLoss (s : State) : Host.Outcome State Fault Refusal :=
  let t := s.refLoss
  .next { s with regs := t.regs, evt := t.evt, time := t.time }

/-- REF_RATE_CHANGE (R331): under AUTO, edges at another supported rate reacquire the reference and raise event 7. -/
def execRefRateChange (rate : Nat) (sub : Nat) (s : State) : Host.Outcome State Fault Refusal :=
  let t := s.refRateChange rate (s.instant sub)
  .next { s with regs := t.regs, evt := t.evt, time := t.time }

/-- TA_ARM (R332): TA[n].CMD.ARM latches the configuration and arms the action, or is refused with IGNORED. -/
def execTaArm (n : Nat) (s : State) : Host.Outcome State Fault Refusal :=
  let t := s.armAction n none
  .next { s with regs := t.regs, evt := t.evt, time := t.time, net := t.net, outbox := t.outbox }

/-- TA_DISARM (R334): TA[n].CMD.DISARM clears ARMED and prevents every later occurrence. -/
def execTaDisarm (n : Nat) (s : State) : Host.Outcome State Fault Refusal :=
  let t := s.disarmAction n
  .next { s with regs := t.regs, time := t.time }

/-- TA_CLEAR_COUNTS (R341): TA[n].CMD.CLEAR_COUNTS clears that action's counters. -/
def execTaClearCounts (n : Nat) (s : State) : Host.Outcome State Fault Refusal :=
  let t := s.resetRegs [Reg.TA_FIRED n, Reg.TA_SKIPPED n]
  .next { s with regs := t.regs }

/-- TA_FIRE (R333): when local time reaches an occurrence the action drives its pulse, sends its packet or writes a cue.
-/
def execTaFire (n : Nat) (s : State) : Host.Outcome State Fault Refusal :=
  let t := s.fireAction n
  .next { s with now := t.now, uptime := t.uptime, regs := t.regs, evt := t.evt, time := t.time, net := t.net,
                  outbox := t.outbox }

/-- PULSE_END (R333): WIDTH ns after a pulse occurrence its output deasserts. -/
def execPulseEnd (o : Nat) (s : State) : Host.Outcome State Fault Refusal :=
  let t := s.endPulse o
  .next { s with now := t.now, uptime := t.uptime, regs := t.regs, evt := t.evt, time := t.time, outbox := t.outbox }

/-- CAPTURE_EDGE (R338): A selected edge on an enabled capture input is timestamped into its FIFO and rings its
doorbell. -/
def execCaptureEdge (c : Nat) (sub : Nat) (falling : Bool) (s : State) : Host.Outcome State Fault Refusal :=
  let t := s.captureEdge c (s.instant sub) falling
  .next { s with regs := t.regs, evt := t.evt, time := t.time }

/-- CAPTURE_POP (R338): A read of CAP[c].TS_S_LO pops the oldest timestamp and latches its other fields. -/
def execCapturePop (c : Nat) (s : State) : Host.Outcome State Fault Refusal :=
  let t := s.capturePop c
  .next { s with time := t.time, readData := t.readData }

/-- CUE_POP (R339): A read of TIME.CUE pops the oldest cue entry. -/
def execCuePop (s : State) : Host.Outcome State Fault Refusal :=
  let t := s.cuePop
  .next { s with time := t.time, readData := t.readData }

end Sys2Proof.Machine
end

