-- ==== Sys2Proof/Machine/Dispatch.lean ====
section
/-! DEFINITION. The dispatch of the commands, one arm per row of the command table. -/

namespace Sys2Proof.Machine

def exec (i : Instr) (s : State) : Host.Outcome State Fault Refusal :=
  match i with
  | .registerWrite t v => Sys2Proof.Machine.execRegisterWrite t v s
  | .loReadLatch off => Sys2Proof.Machine.execLoReadLatch off s
  | .absentUnitAccess off w => Sys2Proof.Machine.execAbsentUnitAccess off w s
  | .absentClear same => Sys2Proof.Machine.execAbsentClear same s
  | .partialWriteDiscard => Sys2Proof.Machine.execPartialWriteDiscard s
  | .sampleTick bits => Sys2Proof.Machine.execSampleTick bits s
  | .blockStart => Sys2Proof.Machine.execBlockStart s
  | .metadataCutoff => Sys2Proof.Machine.execMetadataCutoff s
  | .foregroundCutoff => Sys2Proof.Machine.execForegroundCutoff s
  | .patLoad => Sys2Proof.Machine.execPatLoad s
  | .patVerifyDone bad => Sys2Proof.Machine.execPatVerifyDone bad s
  | .patCommit => Sys2Proof.Machine.execPatCommit s
  | .patBindOff => Sys2Proof.Machine.execPatBindOff s
  | .patDiscard => Sys2Proof.Machine.execPatDiscard s
  | .patAbort => Sys2Proof.Machine.execPatAbort s
  | .patCmdRefused op => Sys2Proof.Machine.execPatCmdRefused op s
  | .keyRevoke v => Sys2Proof.Machine.execKeyRevoke v s
  | .crossfadeRetire region => Sys2Proof.Machine.execCrossfadeRetire region s
  | .hardSwitchRetire region => Sys2Proof.Machine.execHardSwitchRetire region s
  | .bindOffRetire region => Sys2Proof.Machine.execBindOffRetire region s
  | .condApply => Sys2Proof.Machine.execCondApply s
  | .condClearCounts => Sys2Proof.Machine.execCondClearCounts s
  | .condReleasePages => Sys2Proof.Machine.execCondReleasePages s
  | .phaseDelayWrite n v => Sys2Proof.Machine.execPhaseDelayWrite n v s
  | .delayPageGrant n => Sys2Proof.Machine.execDelayPageGrant n s
  | .delayLineFilled n => Sys2Proof.Machine.execDelayLineFilled n s
  | .trackLockTimer n => Sys2Proof.Machine.execTrackLockTimer n s
  | .mdecWrite m v => Sys2Proof.Machine.execMdecWrite m v s
  | .fomPacket src port sub bytes => Sys2Proof.Machine.execFomPacket src port sub bytes s
  | .oscPacket sub bytes => Sys2Proof.Machine.execOscPacket sub bytes s
  | .omdApply => Sys2Proof.Machine.execOmdApply s
  | .omdClearCounts => Sys2Proof.Machine.execOmdClearCounts s
  | .flushAll => Sys2Proof.Machine.execFlushAll s
  | .resetSenders => Sys2Proof.Machine.execResetSenders s
  | .mPush n => Sys2Proof.Machine.execMPush n s
  | .rndrClearCounts => Sys2Proof.Machine.execRndrClearCounts s
  | .tolGainWrite v => Sys2Proof.Machine.execTolGainWrite v s
  | .tileClearCounts p => Sys2Proof.Machine.execTileClearCounts p s
  | .tileFence p => Sys2Proof.Machine.execTileFence p s
  | .tileKatNow p => Sys2Proof.Machine.execTileKatNow p s
  | .tileKatTimer p => Sys2Proof.Machine.execTileKatTimer p s
  | .tileKatDone p passed => Sys2Proof.Machine.execTileKatDone p passed s
  | .tileParityError p => Sys2Proof.Machine.execTileParityError p s
  | .spareRefillDone p => Sys2Proof.Machine.execSpareRefillDone p s
  | .skeinClearCounts => Sys2Proof.Machine.execSkeinClearCounts s
  | .winSelWrite v => Sys2Proof.Machine.execWinSelWrite v s
  | .borrowLimitWrite v => Sys2Proof.Machine.execBorrowLimitWrite v s
  | .pageInDone channel page zeros => Sys2Proof.Machine.execPageInDone channel page zeros s
  | .ndlClearCounts h => Sys2Proof.Machine.execNdlClearCounts h s
  | .ndlFence h => Sys2Proof.Machine.execNdlFence h s
  | .ndlKatNow h => Sys2Proof.Machine.execNdlKatNow h s
  | .ndlKatTimer h passed => Sys2Proof.Machine.execNdlKatTimer h passed s
  | .ndlFault h parity => Sys2Proof.Machine.execNdlFault h parity s
  | .microBlock claims late => Sys2Proof.Machine.execMicroBlock claims late s
  | .schedClearCounts => Sys2Proof.Machine.execSchedClearCounts s
  | .instanceReady u => Sys2Proof.Machine.execInstanceReady u s
  | .instanceDispatch cls tile => Sys2Proof.Machine.execInstanceDispatch cls tile s
  | .instanceComplete u => Sys2Proof.Machine.execInstanceComplete u s
  | .instanceCancel u made => Sys2Proof.Machine.execInstanceCancel u made s
  | .spillRefill cls tile => Sys2Proof.Machine.execSpillRefill cls tile s
  | .readyRetry u => Sys2Proof.Machine.execReadyRetry u s
  | .hardDeadlineMiss d => Sys2Proof.Machine.execHardDeadlineMiss d s
  | .xpApply => Sys2Proof.Machine.execXpApply s
  | .xpClearCounts => Sys2Proof.Machine.execXpClearCounts s
  | .nodeRampEnd off => Sys2Proof.Machine.execNodeRampEnd off s
  | .outputMicroBlock => Sys2Proof.Machine.execOutputMicroBlock s
  | .outsApply => Sys2Proof.Machine.execOutsApply s
  | .outsClearCounts => Sys2Proof.Machine.execOutsClearCounts s
  | .prepare => Sys2Proof.Machine.execPrepare s
  | .prepareDone ok => Sys2Proof.Machine.execPrepareDone ok s
  | .swap => Sys2Proof.Machine.execSwap s
  | .discard => Sys2Proof.Machine.execDiscard s
  | .filterXfadeEnd j => Sys2Proof.Machine.execFilterXfadeEnd j s
  | .spkClearCounts j => Sys2Proof.Machine.execSpkClearCounts j s
  | .gaugeApply => Sys2Proof.Machine.execGaugeApply s
  | .gaugeClearCounts => Sys2Proof.Machine.execGaugeClearCounts s
  | .baseline => Sys2Proof.Machine.execBaseline s
  | .restartSweep => Sys2Proof.Machine.execRestartSweep s
  | .clearMute j => Sys2Proof.Machine.execClearMute j s
  | .clearInvert j => Sys2Proof.Machine.execClearInvert j s
  | .measClearCounts m => Sys2Proof.Machine.execMeasClearCounts m s
  | .pilotPeriodStart => Sys2Proof.Machine.execPilotPeriodStart s
  | .correlationJobDone k => Sys2Proof.Machine.execCorrelationJobDone k s
  | .overrideHoldEnd j => Sys2Proof.Machine.execOverrideHoldEnd j s
  | .stepAccept => Sys2Proof.Machine.execStepAccept s
  | .slew => Sys2Proof.Machine.execSlew s
  | .setTod => Sys2Proof.Machine.execSetTod s
  | .timeClearCounts => Sys2Proof.Machine.execTimeClearCounts s
  | .timeCmdRefused op => Sys2Proof.Machine.execTimeCmdRefused op s
  | .ptpMessage port sub m => Sys2Proof.Machine.execPtpMessage port sub m s
  | .ptpSourceLoss => Sys2Proof.Machine.execPtpSourceLoss s
  | .refInEdge sub falling => Sys2Proof.Machine.execRefInEdge sub falling s
  | .refLoss => Sys2Proof.Machine.execRefLoss s
  | .refRateChange rate sub => Sys2Proof.Machine.execRefRateChange rate sub s
  | .taArm n => Sys2Proof.Machine.execTaArm n s
  | .taDisarm n => Sys2Proof.Machine.execTaDisarm n s
  | .taClearCounts n => Sys2Proof.Machine.execTaClearCounts n s
  | .taFire n => Sys2Proof.Machine.execTaFire n s
  | .pulseEnd o => Sys2Proof.Machine.execPulseEnd o s
  | .captureEdge c sub falling => Sys2Proof.Machine.execCaptureEdge c sub falling s
  | .capturePop c => Sys2Proof.Machine.execCapturePop c s
  | .cuePop => Sys2Proof.Machine.execCuePop s
  | .netClearCounts n => Sys2Proof.Machine.execNetClearCounts n s
  | .retrain n => Sys2Proof.Machine.execRetrain n s
  | .gclApply n => Sys2Proof.Machine.execGclApply n s
  | .gclActivate n => Sys2Proof.Machine.execGclActivate n s
  | .gateIntervalEnd n => Sys2Proof.Machine.execGateIntervalEnd n s
  | .linkTrainingDone n up => Sys2Proof.Machine.execLinkTrainingDone n up s
  | .polarityRetry n => Sys2Proof.Machine.execPolarityRetry n s
  | .netFrameReceive n bytes fcsOk => Sys2Proof.Machine.execNetFrameReceive n bytes fcsOk s
  | .prpSupervision => Sys2Proof.Machine.execPrpSupervision s
  | .prpForget => Sys2Proof.Machine.execPrpForget s
  | .txFrameDepart n => Sys2Proof.Machine.execTxFrameDepart n s
  | .netcClearCounts => Sys2Proof.Machine.execNetcClearCounts s
  | .prpFlush => Sys2Proof.Machine.execPrpFlush s
  | .keyCtrlWrite k v => Sys2Proof.Machine.execKeyCtrlWrite k v s
  | .tunnelRequest r => Sys2Proof.Machine.execTunnelRequest r s
  | .tunnelExecute => Sys2Proof.Machine.execTunnelExecute s
  | .rtpPacket n sub bytes => Sys2Proof.Machine.execRtpPacket n sub bytes s
  | .rxStreamLost n => Sys2Proof.Machine.execRxStreamLost n s
  | .rxsEnable n => Sys2Proof.Machine.execRxsEnable n s
  | .rxsDisable n => Sys2Proof.Machine.execRxsDisable n s
  | .rxsClearCounts n => Sys2Proof.Machine.execRxsClearCounts n s
  | .txsEnable n => Sys2Proof.Machine.execTxsEnable n s
  | .txsClearCounts n => Sys2Proof.Machine.execTxsClearCounts n s
  | .txPacketSend n => Sys2Proof.Machine.execTxPacketSend n s
  | .tdmClearCounts n => Sys2Proof.Machine.execTdmClearCounts n s
  | .tdmEnable n v => Sys2Proof.Machine.execTdmEnable n v s
  | .tdmDisable n => Sys2Proof.Machine.execTdmDisable n s
  | .maskApply n => Sys2Proof.Machine.execMaskApply n s
  | .dmaCfgWrite n v => Sys2Proof.Machine.execDmaCfgWrite n v s
  | .tdmFrameReceive n wire bclks matched => Sys2Proof.Machine.execTdmFrameReceive n wire bclks matched s
  | .tdmDeviceFrameTick n wire matched => Sys2Proof.Machine.execTdmDeviceFrameTick n wire matched s
  | .tdmStall n => Sys2Proof.Machine.execTdmStall n s
  | .tdmRateWindow n err swapped => Sys2Proof.Machine.execTdmRateWindow n err swapped s
  | .tdmRunning n => Sys2Proof.Machine.execTdmRunning n s
  | .casClearCounts n => Sys2Proof.Machine.execCasClearCounts n s
  | .casRetrain n => Sys2Proof.Machine.execCasRetrain n s
  | .casFrameSend n departure => Sys2Proof.Machine.execCasFrameSend n departure s
  | .casFrameReceive n h0 blocks crc sub => Sys2Proof.Machine.execCasFrameReceive n h0 blocks crc sub s
  | .mixForward => Sys2Proof.Machine.execMixForward s
  | .masterLoss => Sys2Proof.Machine.execMasterLoss s
  | .backupYield => Sys2Proof.Machine.execBackupYield s
  | .importWrite r v => Sys2Proof.Machine.execImportWrite r v s
  | .hedgeClearCounts => Sys2Proof.Machine.execHedgeClearCounts s
  | .transfer => Sys2Proof.Machine.execTransfer s
  | .resync => Sys2Proof.Machine.execResync s
  | .query => Sys2Proof.Machine.execQuery s
  | .hedgeMessage bytes => Sys2Proof.Machine.execHedgeMessage bytes s
  | .peerLost => Sys2Proof.Machine.execPeerLost s
  | .queryRepeat => Sys2Proof.Machine.execQueryRepeat s
  | .arbTimeout => Sys2Proof.Machine.execArbTimeout s
  | .verdictApply => Sys2Proof.Machine.execVerdictApply s
  | .revertTimer => Sys2Proof.Machine.execRevertTimer s
  | .epochIssue => Sys2Proof.Machine.execEpochIssue s
  | .divergencePersists => Sys2Proof.Machine.execDivergencePersists s
  | .withholdStart => Sys2Proof.Machine.execWithholdStart s
  | .matrixClearCounts => Sys2Proof.Machine.execMatrixClearCounts s
  | .winWrite w word v => Sys2Proof.Machine.execWinWrite w word v s
  | .busTransaction b => Sys2Proof.Machine.execBusTransaction b s
  | .transactionTimeout m tag => Sys2Proof.Machine.execTransactionTimeout m tag s
  | .transactionResponse m tag => Sys2Proof.Machine.execTransactionResponse m tag s
  | .abortedBurst b beats => Sys2Proof.Machine.execAbortedBurst b beats s
  | .dramClearCounts n => Sys2Proof.Machine.execDramClearCounts n s
  | .dramOffline n => Sys2Proof.Machine.execDramOffline n s
  | .retrainNow n => Sys2Proof.Machine.execRetrainNow n s
  | .dramRetrainTimer n => Sys2Proof.Machine.execDramRetrainTimer n s
  | .dramRetrainDone n found changed => Sys2Proof.Machine.execDramRetrainDone n found changed s
  | .dramRefresh n postponed => Sys2Proof.Machine.execDramRefresh n postponed s
  | .patrolScrub n corrected uncorrectable => Sys2Proof.Machine.execPatrolScrub n corrected uncorrectable s
  | .frameMigrated n bad => Sys2Proof.Machine.execFrameMigrated n bad s
  | .storeWrite => Sys2Proof.Machine.execStoreWrite s
  | .storeRead => Sys2Proof.Machine.execStoreRead s
  | .storeDelete => Sys2Proof.Machine.execStoreDelete s
  | .storeInfo => Sys2Proof.Machine.execStoreInfo s
  | .storeClearCounts => Sys2Proof.Machine.execStoreClearCounts s
  | .storeCmdDone => Sys2Proof.Machine.execStoreCmdDone s
  | .storeMountDone ok => Sys2Proof.Machine.execStoreMountDone ok s
  | .nandUncorrectable obj sector => Sys2Proof.Machine.execNandUncorrectable obj sector s
  | .blockRefresh b corrected reads => Sys2Proof.Machine.execBlockRefresh b corrected reads s
  | .wearMove => Sys2Proof.Machine.execWearMove s
  | .grownBad b => Sys2Proof.Machine.execGrownBad b s
  | .storeScrub found => Sys2Proof.Machine.execStoreScrub found s
  | .play k => Sys2Proof.Machine.execPlay k s
  | .stop k => Sys2Proof.Machine.execStop k s
  | .stemPreloaded k => Sys2Proof.Machine.execStemPreloaded k s
  | .stemEnd k => Sys2Proof.Machine.execStemEnd k s
  | .installFw slot => Sys2Proof.Machine.execInstallFw slot s
  | .installPat slot => Sys2Proof.Machine.execInstallPat slot s
  | .setBoot => Sys2Proof.Machine.execSetBoot s
  | .bootfRead => Sys2Proof.Machine.execBootfRead s
  | .bootfProgram => Sys2Proof.Machine.execBootfProgram s
  | .bootfErase => Sys2Proof.Machine.execBootfErase s
  | .bootfCmdDone => Sys2Proof.Machine.execBootfCmdDone s
  | .bootPatternSelect => Sys2Proof.Machine.execBootPatternSelect s
  | .eventAssert source pulses crossing => Sys2Proof.Machine.execEventAssert source pulses crossing s
  | .pendingClear w v same => Sys2Proof.Machine.execPendingClear w v same s
  | .vecAck k => Sys2Proof.Machine.execVecAck k s
  | .vecCfgWrite k v => Sys2Proof.Machine.execVecCfgWrite k v s
  | .vectorTimer k => Sys2Proof.Machine.execVectorTimer k s
  | .vectorRaise => Sys2Proof.Machine.execVectorRaise s
  | .linkWakeDone => Sys2Proof.Machine.execLinkWakeDone s
  | .flush => Sys2Proof.Machine.execFlush s
  | .doorbell v => Sys2Proof.Machine.execDoorbell v s
  | .evtClearCounts => Sys2Proof.Machine.execEvtClearCounts s
  | .hostClearCounts => Sys2Proof.Machine.execHostClearCounts s
  | .functionReset => Sys2Proof.Machine.execFunctionReset s
  | .pcieLinkChange up speed width pm => Sys2Proof.Machine.execPcieLinkChange up speed width pm s
  | .d3hotChange d3 => Sys2Proof.Machine.execD3hotChange d3 s
  | .mbDoorbell => Sys2Proof.Machine.execMbDoorbell s
  | .getInfo => Sys2Proof.Machine.execGetInfo s
  | .fwLoad => Sys2Proof.Machine.execFwLoad s
  | .sdpToRxs => Sys2Proof.Machine.execSdpToRxs s
  | .txsToSdp => Sys2Proof.Machine.execTxsToSdp s
  | .ptpStatus => Sys2Proof.Machine.execPtpStatus s
  | .logRead => Sys2Proof.Machine.execLogRead s
  | .mailboxReset => Sys2Proof.Machine.execMailboxReset s
  | .mailboxReply => Sys2Proof.Machine.execMailboxReply s
  | .fwHeartbeatStall => Sys2Proof.Machine.execFwHeartbeatStall s
  | .watchdog => Sys2Proof.Machine.execWatchdog s
  | .clkClearCounts key => Sys2Proof.Machine.execClkClearCounts key s
  | .systemResetCmd key => Sys2Proof.Machine.execSystemResetCmd key s
  | .firmwareResetCmd key => Sys2Proof.Machine.execFirmwareResetCmd key s
  | .pllUnlock => Sys2Proof.Machine.execPllUnlock s
  | .pllRelock => Sys2Proof.Machine.execPllRelock s
  | .supplyWarn rails t => Sys2Proof.Machine.execSupplyWarn rails t s
  | .dipEnd last => Sys2Proof.Machine.execDipEnd last s
  | .brownout rails => Sys2Proof.Machine.execBrownout rails s
  | .por => Sys2Proof.Machine.execPor s
  | .perst => Sys2Proof.Machine.execPerst s
  | .thermalSample raw => Sys2Proof.Machine.execThermalSample raw s
  | .thermalReset => Sys2Proof.Machine.execThermalReset s
  | .resetRelease failed trained => Sys2Proof.Machine.execResetRelease failed trained s
  | .fifoResync c held offered => Sys2Proof.Machine.execFifoResync c held offered s
  | .refclkChange ref25 present => Sys2Proof.Machine.execRefclkChange ref25 present s
  | .frenusLinkTrainingDone n up inverted => Sys2Proof.Machine.execFrenusLinkTrainingDone n up inverted s
  | .slewingEnd => Sys2Proof.Machine.execSlewingEnd s

end Sys2Proof.Machine
end

