-- ==== Sys2Proof/WellFormed.lean ====
section
/-! DEFINITION. The commands that the manual's interfaces can carry: every index names a unit that the register map has a
place for (R489), every offset is an aligned register offset of BAR0 (R15, R485), and an arrival lies inside its sample
tick. Operands that any value can take have no check. -/

namespace Sys2Proof

/-- An aligned register offset of BAR0, which spans 64 MiB (R485). -/
def barOffset (off : Nat) : Bool := decide (off < 0x4000000) && off % 4 == 0

def RegTarget.ok : RegTarget → Bool
  | .bar0 off => barOffset off
  | .msixControl => true

/-- Foreground micro-blocks of a block are 0 to 7 (R193); outputs are 0 to 639 (R8). -/
def Domain.ok : Domain → Bool
  | .blockMix => true
  | .fgMix k => decide (k < 8)
  | .output j => decide (j < 640)

def Crossing.ok : Crossing → Bool
  | .net p => decide (p < 2)
  | .cas p => decide (p < 4)
  | .tdm n => decide (n < 32)

/-- A burst of a bus master (R445). -/
def Burst.ok (b : Burst) : Bool := decide (b.master < 16) && decide (b.tag < 64)

/-- A command that an interface of the block can carry. -/
def Instr.wellFormed : Instr → Bool
  | .registerWrite t _ => t.ok
  | .loReadLatch off => barOffset off
  | .absentUnitAccess off _ => barOffset off
  | .absentClear same => same.all barOffset
  | .partialWriteDiscard => true
  | .sampleTick bits => bits.all fun e => decide (e.1 < 16)
  | .blockStart => true
  | .metadataCutoff => true
  | .foregroundCutoff => true
  | .patLoad => true
  | .patVerifyDone _ => true
  | .patCommit => true
  | .patBindOff => true
  | .patDiscard => true
  | .patAbort => true
  | .patCmdRefused op => decide (op < 16)
  | .keyRevoke _ => true
  | .crossfadeRetire region => decide (region < 64)
  | .hardSwitchRetire region => decide (region < 64)
  | .bindOffRetire region => decide (region < 64)
  | .condApply => true
  | .condClearCounts => true
  | .condReleasePages => true
  | .phaseDelayWrite n _ => decide (n < 1808)
  | .delayPageGrant n => decide (n < 1808)
  | .delayLineFilled n => decide (n < 1808)
  | .trackLockTimer n => decide (n < 1024)
  | .mdecWrite m _ => decide (m < 16)
  | .fomPacket _ port sub _ => decide (port < 2) && decide (sub < 32768)
  | .oscPacket sub _ => decide (sub < 32768)
  | .omdApply => true
  | .omdClearCounts => true
  | .flushAll => true
  | .resetSenders => true
  | .mPush n => decide (n < 1024)
  | .rndrClearCounts => true
  | .tolGainWrite _ => true
  | .tileClearCounts p => decide (p < 68)
  | .tileFence p => decide (p < 68)
  | .tileKatNow p => decide (p < 68)
  | .tileKatTimer p => decide (p < 68)
  | .tileKatDone p _ => decide (p < 68)
  | .tileParityError p => decide (p < 68)
  | .spareRefillDone p => decide (p < 68)
  | .skeinClearCounts => true
  | .winSelWrite _ => true
  | .borrowLimitWrite _ => true
  | .pageInDone channel _ zeros => decide (channel < 2048) && zeros.all fun k => decide (k < 128)
  | .ndlClearCounts h => decide (h < 16)
  | .ndlFence h => decide (h < 16)
  | .ndlKatNow h => decide (h < 16)
  | .ndlKatTimer h _ => decide (h < 16)
  | .ndlFault h _ => decide (h < 16)
  | .microBlock _ _ => true
  | .schedClearCounts => true
  | .instanceReady _ => true
  | .instanceDispatch cls _ => decide (cls < 6)
  | .instanceComplete _ => true
  | .instanceCancel _ _ => true
  | .spillRefill cls _ => decide (cls < 6)
  | .readyRetry _ => true
  | .hardDeadlineMiss d => d.ok
  | .xpApply => true
  | .xpClearCounts => true
  | .nodeRampEnd off => decide (0x1000000 ≤ off) && off % 4 == 0
  | .outputMicroBlock => true
  | .outsApply => true
  | .outsClearCounts => true
  | .prepare => true
  | .prepareDone _ => true
  | .swap => true
  | .discard => true
  | .filterXfadeEnd j => decide (j < 640)
  | .spkClearCounts j => decide (j < 640)
  | .gaugeApply => true
  | .gaugeClearCounts => true
  | .baseline => true
  | .restartSweep => true
  | .clearMute j => decide (j < 640)
  | .clearInvert j => decide (j < 640)
  | .measClearCounts m => decide (m < 16)
  | .pilotPeriodStart => true
  | .correlationJobDone _ => true
  | .overrideHoldEnd j => decide (j < 640)
  | .stepAccept => true
  | .slew => true
  | .setTod => true
  | .timeClearCounts => true
  | .timeCmdRefused op => decide (op < 8)
  | .ptpMessage port sub _ => decide (port < 2) && decide (sub < 32768)
  | .ptpSourceLoss => true
  | .refInEdge sub _ => decide (sub < 32768)
  | .refLoss => true
  | .refRateChange rate sub => decide (rate < 5) && decide (sub < 32768)
  | .taArm n => decide (n < 256)
  | .taDisarm n => decide (n < 256)
  | .taClearCounts n => decide (n < 256)
  | .taFire n => decide (n < 256)
  | .pulseEnd o => decide (o < 16)
  | .captureEdge c sub _ => decide (c < 4) && decide (sub < 32768)
  | .capturePop c => decide (c < 4)
  | .cuePop => true
  | .netClearCounts n => decide (n < 2)
  | .retrain n => decide (n < 2)
  | .gclApply n => decide (n < 2)
  | .gclActivate n => decide (n < 2)
  | .gateIntervalEnd n => decide (n < 2)
  | .linkTrainingDone n _ => decide (n < 2)
  | .polarityRetry n => decide (n < 2)
  | .netFrameReceive n _ _ => decide (n < 2)
  | .prpSupervision => true
  | .prpForget => true
  | .txFrameDepart n => decide (n < 2)
  | .netcClearCounts => true
  | .prpFlush => true
  | .keyCtrlWrite k _ => decide (k < 16)
  | .tunnelRequest r => decide (r.port < 2)
  | .tunnelExecute => true
  | .rtpPacket n sub _ => decide (n < 128) && decide (sub < 32768)
  | .rxStreamLost n => decide (n < 128)
  | .rxsEnable n => decide (n < 128)
  | .rxsDisable n => decide (n < 128)
  | .rxsClearCounts n => decide (n < 128)
  | .txsEnable n => decide (n < 128)
  | .txsClearCounts n => decide (n < 128)
  | .txPacketSend n => decide (n < 128)
  | .tdmClearCounts n => decide (n < 32)
  | .tdmEnable n _ => decide (n < 32)
  | .tdmDisable n => decide (n < 32)
  | .maskApply n => decide (n < 32)
  | .dmaCfgWrite n _ => decide (n < 32)
  | .tdmFrameReceive n _ _ _ => decide (n < 32)
  | .tdmDeviceFrameTick n _ _ => decide (n < 32)
  | .tdmStall n => decide (n < 32)
  | .tdmRateWindow n _ _ => decide (n < 32)
  | .tdmRunning n => decide (n < 32)
  | .casClearCounts n => decide (n < 4)
  | .casRetrain n => decide (n < 4)
  | .casFrameSend n _ => decide (n < 4)
  | .casFrameReceive n _ _ _ sub => decide (n < 4) && decide (sub < 32768)
  | .mixForward => true
  | .masterLoss => true
  | .backupYield => true
  | .importWrite r _ => decide (r < 1024)
  | .hedgeClearCounts => true
  | .transfer => true
  | .resync => true
  | .query => true
  | .hedgeMessage _ => true
  | .peerLost => true
  | .queryRepeat => true
  | .arbTimeout => true
  | .verdictApply => true
  | .revertTimer => true
  | .epochIssue => true
  | .divergencePersists => true
  | .withholdStart => true
  | .matrixClearCounts => true
  | .winWrite w word _ => decide (w < 16) && decide (word < 4)
  | .busTransaction b => b.ok
  | .transactionTimeout m _ => decide (m < 16)
  | .transactionResponse m _ => decide (m < 16)
  | .abortedBurst b _ => b.ok
  | .dramClearCounts n => decide (n < 4)
  | .dramOffline n => decide (n < 4)
  | .retrainNow n => decide (n < 4)
  | .dramRetrainTimer n => decide (n < 4)
  | .dramRetrainDone n _ _ => decide (n < 4)
  | .dramRefresh n postponed => decide (n < 4) && decide (postponed ≤ 8)
  | .patrolScrub n _ _ => decide (n < 4)
  | .frameMigrated n bad => decide (n < 4) && bad.all fun k => decide (k < 2048)
  | .storeWrite => true
  | .storeRead => true
  | .storeDelete => true
  | .storeInfo => true
  | .storeClearCounts => true
  | .storeCmdDone => true
  | .storeMountDone _ => true
  | .nandUncorrectable obj _ => decide (obj < 65536)
  | .blockRefresh _ _ _ => true
  | .wearMove => true
  | .grownBad _ => true
  | .storeScrub _ => true
  | .play k => decide (k < 256)
  | .stop k => decide (k < 256)
  | .stemPreloaded k => decide (k < 256)
  | .stemEnd k => decide (k < 256)
  | .installFw slot => decide (slot < 4)
  | .installPat slot => decide (slot < 4)
  | .setBoot => true
  | .bootfRead => true
  | .bootfProgram => true
  | .bootfErase => true
  | .bootfCmdDone => true
  | .bootPatternSelect => true
  | .eventAssert source _ _ => decide (source < 256)
  | .pendingClear w _ _ => decide (w < 8)
  | .vecAck k => decide (k < 8)
  | .vecCfgWrite k _ => decide (k < 8)
  | .vectorTimer k => decide (k < 8)
  | .vectorRaise => true
  | .linkWakeDone => true
  | .flush => true
  | .doorbell _ => true
  | .evtClearCounts => true
  | .hostClearCounts => true
  | .functionReset => true
  | .pcieLinkChange _ speed width pm => decide (speed < 16) && decide (width < 32) && decide (pm < 4)
  | .d3hotChange _ => true
  | .mbDoorbell => true
  | .getInfo => true
  | .fwLoad => true
  | .sdpToRxs => true
  | .txsToSdp => true
  | .ptpStatus => true
  | .logRead => true
  | .mailboxReset => true
  | .mailboxReply => true
  | .fwHeartbeatStall => true
  | .watchdog => true
  | .clkClearCounts key => decide (key < 65536)
  | .systemResetCmd key => decide (key < 65536)
  | .firmwareResetCmd key => decide (key < 65536)
  | .pllUnlock => true
  | .pllRelock => true
  | .supplyWarn rails _ => decide (rails < 2048)
  | .dipEnd _ => true
  | .brownout rails => decide (rails < 2048)
  | .por => true
  | .perst => true
  | .thermalSample raw => decide (-20000 ≤ raw) && decide (raw ≤ 20000)
  | .thermalReset => true
  | .resetRelease failed trained => failed.all (fun p => decide (p < 68)) && trained.all fun n => decide (n < 4)
  | .fifoResync c _ _ => c.ok
  | .refclkChange _ _ => true
  | .frenusLinkTrainingDone n _ _ => decide (n < 4)
  | .slewingEnd => true

end Sys2Proof
end

