-- ==== Sys2Proof/Safety.lean ====
section
/-! DEFINITION. The words that claims about the block are written in: a command completes, which registers a command leaves
alone, what an event leaves behind, bytes that stay, and the invariant of the machine. -/

namespace Sys2Proof

/-- The commands that can change a byte of DRAM: accesses that may reach a memory, audio and device DMA, migrations, jobs that
write DRAM, and the resets, which empty it. -/
def Instr.reachesDram : Instr → Bool
  | .registerWrite _ _ | .absentUnitAccess _ _ | .sampleTick _ | .blockStart | .tunnelExecute | .tdmFrameReceive _ _ _ _ |
    .tdmDeviceFrameTick _ _ _ | .busTransaction _ | .transactionTimeout _ _ | .transactionResponse _ _ |
    .abortedBurst _ _ | .frameMigrated _ _ | .storeCmdDone | .bootfCmdDone | .txsToSdp | .watchdog | .systemResetCmd _ |
    .pllRelock | .brownout _ | .por | .perst | .thermalReset => true
  | _ => false

/-- The commands that can change a byte of the boot flash: the boot flash's own jobs, and the accesses that can start them. -/
def Instr.reachesFlash : Instr → Bool
  | .registerWrite _ _ | .absentUnitAccess _ _ | .blockStart | .tunnelExecute | .busTransaction _ |
    .transactionTimeout _ _ | .transactionResponse _ _ | .abortedBurst _ _ | .installFw _ | .installPat _ |
    .bootfCmdDone => true
  | _ => false

/-- The commands that can change the show store's array or the boot descriptors. -/
def Instr.reachesArray : Instr → Bool
  | .storeCmdDone | .storeMountDone _ | .nandUncorrectable _ _ | .blockRefresh _ _ _ | .wearMove | .grownBad _ |
    .storeScrub _ | .bootfCmdDone => true
  | _ => false

/-- The commands that can move local time: the tick, the jumps of the servo and of software, the instants of actions and gates
inside a tick, register accesses that may command one of them, and the resets. -/
def Instr.movesTime : Instr → Bool
  | .registerWrite _ _ | .absentUnitAccess _ _ | .sampleTick _ | .blockStart | .setTod | .timeCmdRefused _ |
    .ptpMessage _ _ _ | .taFire _ | .pulseEnd _ | .gclActivate _ | .gateIntervalEnd _ | .tunnelExecute |
    .casFrameReceive _ _ _ _ _ | .busTransaction _ | .transactionTimeout _ _ | .transactionResponse _ _ |
    .abortedBurst _ _ | .watchdog | .systemResetCmd _ | .pllRelock | .brownout _ | .por | .perst | .thermalReset => true
  | _ => false

/-- The commands after which something may have left the device: a message, a pulse, a packet, a frame or a sample. -/
def Instr.reachesOutside : Instr → Bool
  | .registerWrite _ _ | .absentUnitAccess _ _ | .sampleTick _ | .blockStart | .setTod | .timeCmdRefused _ |
    .ptpMessage _ _ _ | .taArm _ | .taFire _ | .pulseEnd _ | .gclActivate _ | .gateIntervalEnd _ | .prpSupervision |
    .txFrameDepart _ | .tunnelExecute | .tdmFrameReceive _ _ _ _ | .tdmDeviceFrameTick _ _ _ | .casFrameSend _ _ |
    .casFrameReceive _ _ _ _ _ | .busTransaction _ | .transactionTimeout _ _ | .transactionResponse _ _ |
    .abortedBurst _ _ | .vecAck _ | .vecCfgWrite _ _ | .vectorTimer _ | .vectorRaise | .linkWakeDone | .flush |
    .pcieLinkChange _ _ _ _ | .d3hotChange _ => true
  | _ => false

/-- The commands that can change what the loader holds: the bound versions, the shadow and its image. -/
def Instr.reachesScene : Instr → Bool
  | .registerWrite _ _ | .absentUnitAccess _ _ | .sampleTick _ | .blockStart | .patLoad | .patVerifyDone _ | .patCommit |
    .patBindOff | .patDiscard | .patAbort | .patCmdRefused _ | .crossfadeRetire _ | .hardSwitchRetire _ |
    .bindOffRetire _ | .tunnelExecute | .busTransaction _ | .transactionTimeout _ _ | .transactionResponse _ _ |
    .abortedBurst _ _ | .bootPatternSelect | .watchdog | .systemResetCmd _ | .pllRelock | .brownout _ | .por | .perst |
    .thermalReset => true
  | _ => false

end Sys2Proof

namespace Sys2Proof.Machine

/-- The command completes: it answers a next state, and that state has the property. -/
def Completes (c : Instr) (s : State) (P : State → Prop) : Prop := ∃ t, exec c s = .next t ∧ P t

namespace State

/-- Every register outside the list reads as it read. -/
def RegsKept (s t : State) (l : List Nat) : Prop := ∀ o, o ∉ l → t.rd o = s.rd o

/-- Nothing changed but registers and the event controller's timers. -/
def OnlyRegs (s t : State) : Prop := t = { s with regs := t.regs, evt := t.evt }

/-- Nothing changed but registers. -/
def JustRegs (s t : State) : Prop := t = { s with regs := t.regs }

/-- The registers an event of source `n` may write (R493, R494, R496): the merged counter, and the pending, live and vector
registers of its word. -/
def evtRegs (n : Nat) : List Nat := [Reg.EVT_MERGED, Reg.EVT_PENDING (n / 32), Reg.VEC_STATUS (n / 32), Reg.EVT_LIVE (n / 32)]

/-- Source `n` is pending, where the part has it (R493). -/
def Raised (t : State) (n : Nat) : Prop := t.sourceExists n = true → t.sourcePending n = true

/-- A counter's value, and its value after `k` more events (R14). -/
def counter (s : State) (o : Nat) : Nat := (s.rd o).toNat
def counterAfter (s : State) (o k : Nat) : Nat := min (s.counter o + k) 0xFFFFFFFF

/-- Every byte of DRAM and of the boot flash reads as it read, and the show store and the boot descriptors are as they were. -/
def SameBytes (s t : State) : Prop :=
  (∀ a, Memory.get 0 t.dram a = Memory.get 0 s.dram a) ∧ (∀ a, Memory.get 0xFF t.flash a = Memory.get 0xFF s.flash a) ∧
  t.nand = s.nand ∧ t.bootCopies = s.bootCopies

/-- The memories are in their canonical form, so that equal memories are equal data. -/
def Canonical (s : State) : Prop := Memory.wf 0 s.dram = true ∧ Memory.wf 0xFF s.flash = true

/-- The invariant: canonical memories, and waiting commands that an interface of the block can carry. -/
def Inv (s : State) : Prop := s.Canonical ∧ ∀ c ∈ s.pending, c.wellFormed = true

/-- The device is the same part with the same factory data, and no blown OTP bit has healed (R63). -/
def SameDevice (s t : State) : Prop :=
  t.dev = { s.dev with revoked := t.dev.revoked } ∧ ∀ k, s.dev.revoked.testBit k = true → t.dev.revoked.testBit k = true

/-- The state `t` is `u`, but for the device, the memories' representation, the free-value counter and the last read. -/
def IsRun (t u : State) : Prop :=
  { t with dev := u.dev, dram := u.dram, flash := u.flash, nand := u.nand, bootCopies := u.bootCopies, freeIdx := u.freeIdx,
           readData := u.readData, pending := u.pending } = u ∧
  (∀ a, Memory.get 0 t.dram a = Memory.get 0 u.dram a) ∧ ∀ a, Memory.get 0xFF t.flash a = Memory.get 0xFF u.flash a

/-- A step that is safe: it neither faults nor is refused, it takes one command off the queue, and the invariant and the device
survive it. -/
def SafeStep (s : State) : Prop :=
  ∃ t, step s = .next t ∧ t.Inv ∧ t.pending = s.pending.tail ∧ s.SameDevice t

end State

end Sys2Proof.Machine
end

