-- ==== Sys2Proof/Certificates/Slice0/Obligations.lean ====
section
/-! DEFINITION. The statements about the block, for the provers. -/

open Sys2Proof Sys2Proof.Machine

/-! ## The machine -/

/-- The command at the front of the queue runs with the queue's rest; with no command waiting the block idles (the idle step
is the model's choice: log entry 1). -/
def Obligations.StepRunsTheFrontCommand : Prop :=
  ∀ s : State,
    (∀ c rest, s.pending = c :: rest → step s = exec c { s with pending := rest }) ∧
    (s.pending = [] → step s = .next s)

/-- At reset the memories list nothing, no command waits, every register reads its reset value, and the invariant holds. The
model's own choices in it are those of log entries 13, 14, 15, 18, 19. -/
def Obligations.ResetIsCanonical : Prop :=
  State.reset.Inv ∧ State.reset.pending = [] ∧ State.reset.dram = [] ∧ State.reset.flash = [] ∧
  ∀ o, State.reset.rd o = resetValue State.reset.dev o

/-- From every state that keeps the invariant, a step neither faults nor is refused, takes one command off the queue, keeps
the invariant and the device, and never heals an OTP bit. -/
def Obligations.EveryStepIsSafe : Prop := ∀ s : State, s.Inv → s.SafeStep

/-- Every command completes in every state: no command faults, and none is refused. -/
def Obligations.EveryCommandCompletes : Prop := ∀ (c : Instr) (s : State), Completes c s fun t => t.pending = s.pending

/-- A command that `reachesDram`, `reachesFlash` or `reachesArray` does not name leaves every byte of that memory alone. No
command changes the part or its factory data, and none heals a blown OTP bit (R63). Where the memories are canonical before a
command, they are canonical after it. Local time and the time since reset move only under the commands that `movesTime` names;
only those of `reachesOutside` let anything leave the device; only those of `reachesScene` change what the loader holds. -/
def Obligations.OnlyNamedCommandsReachMemoryTimeAndScene : Prop :=
  (∀ (c : Instr) (s t : State), exec c s = .next t →
     (c.reachesDram = false → ∀ a, Memory.get 0 t.dram a = Memory.get 0 s.dram a) ∧
     (c.reachesFlash = false → ∀ a, Memory.get 0xFF t.flash a = Memory.get 0xFF s.flash a) ∧
     (c.reachesArray = false → t.nand = s.nand ∧ t.bootCopies = s.bootCopies)) ∧
  (∀ (c : Instr) (s t : State), exec c s = .next t → s.SameDevice t) ∧
  (∀ (c : Instr) (s t : State), s.Canonical → exec c s = .next t → t.Canonical) ∧
  (∀ (c : Instr) (s t : State), exec c s = .next t →
     (c.movesTime = false → t.now = s.now ∧ t.uptime = s.uptime) ∧
     (c.reachesOutside = false → t.outbox = s.outbox) ∧
     (c.reachesScene = false → t.pat = s.pat))

/-! ## Host accesses -/

/-- An access to an absent unit reads zero, ignores the write, and is counted in IDENT with its offset (R9, R11), whichever
command carries it; nothing else changes. A reserved offset inside a block's region reads zero and ignores writes (R490); an
access that no region covers goes to the default target, which counts it, keeps its address, master, direction and cause, and
answers a read with zero (R447). ABSENT_CLEAR clears the count and the last offset, and an access in the same cycle is counted
after the clear (R11). Where its event is not due a command changes nothing (the model's choice: log entry 2). The model's own
choices in it are those of log entries 34, 36. -/
def Obligations.AbsentAndUnmappedAccessesReadZero : Prop :=
  (∀ (s : State) (off : Nat) (v : Word), s.Canonical →
     (∃ b i o, place off = .reg b i o ∧ s.dev.part.hasReg b i o = false) ∨
       (∃ u d, place off = .ixpNode u d ∧ s.dev.part.hasIxpNode u d = false) ∨
       (∃ u d, place off = .oxpNode u d ∧ s.dev.part.hasOxpNode u d = false) →
     let counted : State → Prop := fun t =>
       t.counter Reg.IDENT_ABSENT_ACCESS_COUNT = s.counterAfter Reg.IDENT_ABSENT_ACCESS_COUNT 1 ∧
       t.rd Reg.IDENT_ABSENT_LAST_OFFSET = BitVec.ofNat 32 off ∧
       s.RegsKept t [Reg.IDENT_ABSENT_ACCESS_COUNT, Reg.IDENT_ABSENT_LAST_OFFSET]
     Completes (.absentUnitAccess off none) s (fun t => counted t ∧ t.readData = 0 ∧ t = { s with regs := t.regs, readData := 0 }) ∧
     Completes (.absentUnitAccess off (some v)) s (fun t => counted t ∧ s.JustRegs t) ∧
     Completes (.loReadLatch off) s (fun t => counted t ∧ t.readData = 0 ∧ t = { s with regs := t.regs, readData := 0 }) ∧
     Completes (.registerWrite (.bar0 off) v) s (fun t => counted t ∧ s.JustRegs t)) ∧
  (∀ (s : State) (off : Nat) (v : Word), s.Canonical →
     (place off = .reserved →
       Completes (.registerWrite (.bar0 off) v) s (fun t => t = s) ∧
       Completes (.loReadLatch off) s fun t => t = { s with readData := 0 }) ∧
     (place off = .default → off < 2 ^ 32 → ∀ w : Bool,
       Completes (if w then .registerWrite (.bar0 off) v else .loReadLatch off) s fun t =>
         t.counter Reg.MATRIX_DECODE_ERRORS = s.counterAfter Reg.MATRIX_DECODE_ERRORS 1 ∧
         t.rd Reg.MATRIX_DECODE_ADDR_LO = BitVec.ofNat 32 off ∧
         t.rd Reg.MATRIX_DECODE_INFO = BitVec.ofNat 32 (16 * b2n w) ∧
         (w = false → t.readData = 0) ∧
         s.RegsKept t ([Reg.MATRIX_DECODE_ADDR_LO, Reg.MATRIX_DECODE_ADDR_LO + 4, Reg.MATRIX_DECODE_INFO, Reg.MATRIX_DECODE_ERRORS] ++
           State.evtRegs 56) ∧
         t = { s with regs := t.regs, evt := t.evt, mtx := t.mtx, readData := t.readData })) ∧
  (∀ (s : State) (off : Nat),
     Completes (.absentClear none) s (fun t =>
       t.counter Reg.IDENT_ABSENT_ACCESS_COUNT = 0 ∧ t.rd Reg.IDENT_ABSENT_LAST_OFFSET = 0 ∧
       s.RegsKept t [Reg.IDENT_ABSENT_ACCESS_COUNT, Reg.IDENT_ABSENT_LAST_OFFSET] ∧ s.JustRegs t) ∧
     Completes (.absentClear (some off)) s (fun t =>
       t.counter Reg.IDENT_ABSENT_ACCESS_COUNT = 1 ∧ t.rd Reg.IDENT_ABSENT_LAST_OFFSET = BitVec.ofNat 32 off ∧
       s.RegsKept t [Reg.IDENT_ABSENT_ACCESS_COUNT, Reg.IDENT_ABSENT_LAST_OFFSET] ∧ s.JustRegs t))

/-- A write of a register that has no command of its own stores the writable bits of the value and clears the bits written 1
of a W1C field, and changes no other register (R17); with no field of a limited range the stored word is exactly that. The
model's own choices in it are those of log entry 126. -/
def Obligations.PlainRegisterWriteStores : Prop :=
  (∀ (s : State) (off i o : Nat) (v : Word), s.Canonical → place off = .reg .outs i o → o ≠ 0x08 →
    Completes (.registerWrite (.bar0 off) v) s fun t =>
      t.rd off = (regSpec s.dev off).store (s.rd off) v ∧ s.RegsKept t [off] ∧
      t = { s with regs := t.regs, latches := t.latches }) ∧
  (∀ (sp : RegSpec) (old v : Word), sp.ranges = [] →
    sp.store old v = ((old &&& ~~~sp.rw) ||| (v &&& sp.rw)) &&& ~~~(v &&& sp.w1c))

/-- A read of a _LO register returns it and latches its _HI register; the _HI read then returns the latched value, whatever
the pair has become (R16). The model's own choices in it are those of log entry 36. -/
def Obligations.LoReadLatchesTheHighWord : Prop :=
  ∀ (s : State) (off i o : Nat), place off = .reg .outs i o → place (off + 4) = .reg .outs i (o + 4) →
    isPairLo .outs o = true → isPairLo .outs (o + 4) = false →
    Completes (.loReadLatch off) s (fun t =>
      t.readData = s.rd off ∧ Assoc.get? off t.latches = some (s.rd (off + 4)) ∧ t.regs = s.regs ∧
      t = { s with latches := t.latches, readData := t.readData }) ∧
    ∀ w, Assoc.get? off s.latches = some w →
      Completes (.loReadLatch (off + 4)) s fun t => t = { s with readData := w }

/-- A host write whose byte enables do not cover a whole register is discarded, counted, and raises event 210 (R487). -/
def Obligations.PartialWriteIsDiscarded : Prop :=
  ∀ s : State, Completes .partialWriteDiscard s fun t =>
    t.counter Reg.HOST_PARTIAL_WRITES = s.counterAfter Reg.HOST_PARTIAL_WRITES 1 ∧ t.Raised 210 ∧
    s.RegsKept t (Reg.HOST_PARTIAL_WRITES :: State.evtRegs 210) ∧ s.OnlyRegs t

/-! ## The clock of the block, and the Pattern loader -/

/-- A sample tick takes local time to the next multiple of 32,768 counts, so that the sample number rises by one, and the time
since reset by as much as local time (R320, R321), unless a reset that firmware asked for falls due. A block starts once, at
the first sample of 32: then shadows apply, targets commit, and instances are created, in that order, before the links' own
boundary work (R321, R85, R69). At any other instant, or a second time, nothing happens. Sixteen samples into a block the
entries queued for it are merged and speculation is settled (R109); then, once, the Foreground's metadata for the block after
(R180). Neither happens twice, or at another sample. Where its event is not due a command changes nothing (the model's choice:
log entry 2). The model's own choices in it are those of log entries 3, 4, 5, 7. -/
def Obligations.TicksBlocksAndCutoffsRunOnce : Prop :=
  (∀ (s : State) (bits : List (Nat × List Bool)), s.host.resetDue = none →
     Completes (.sampleTick bits) s fun t =>
       t.now = (s.tick + 1) * 32768 ∧ t.tick = s.tick + 1 ∧ t.uptime = s.uptime + ((s.tick + 1) * 32768 - s.now) ∧
       t.dev = s.dev ∧ t.nand = s.nand ∧ t.bootCopies = s.bootCopies ∧ t.flash = s.flash ∧ t.readData = s.readData) ∧
  (∀ s : State, s.Canonical →
     (s.phase = 0 → s.ticked.block = false →
       let u := s.catchUp
       let v : State := { u with ticked := { u.ticked with block := true }, net := { u.net with raised := [] },
                                 cas := { u.cas with raised := [] }, mtx := { u.mtx with raised := [] } }
       let w := v.over (List.range 32) State.tdmRunning
       Completes .blockStart s fun t =>
         t.IsRun ((((w.audioBoundary s.block).shadowBoundary s.block).workBoundary s.block).linkBoundary s.block)) ∧
     (s.phase ≠ 0 ∨ s.ticked.block = true → Completes .blockStart s fun t => t = s)) ∧
  (∀ s : State,
     (s.phase = 16 → s.ticked.cutoff = false → Completes .metadataCutoff s fun t =>
       let u := s.blockCutoff s.block
       t.ticked = { u.ticked with cutoff := true } ∧
       t = { s with regs := u.regs, ticked := t.ticked, evt := u.evt, skein := u.skein, omd := u.omd }) ∧
     (s.phase ≠ 16 ∨ s.ticked.cutoff = true → Completes .metadataCutoff s fun t => t = s) ∧
     (s.phase = 16 → s.ticked.cutoff = true → s.ticked.fgCutoff = false → Completes .foregroundCutoff s fun t =>
       let u := s.foregroundCutoff (s.block + 1)
       t.ticked = { u.ticked with fgCutoff := true } ∧
       t = { s with regs := u.regs, ticked := t.ticked, evt := u.evt, skein := u.skein, omd := u.omd }) ∧
     (s.phase ≠ 16 ∨ s.ticked.cutoff = false ∨ s.ticked.fgCutoff = true → Completes .foregroundCutoff s fun t => t = s))

/-- A target block of zero means the first boundary after acceptance, a later one than the next is kept, and an earlier one is
refused (R69, R85). COMMIT of a verified shadow, at a target block that is not too early and with its resources and headroom
there, waits for that block: COMMIT_PENDING, with the block kept; a failure of the repeated checks keeps the shadow with code
0x23 or 0x24, and a block too early refuses the COMMIT (R66, R69). -/
def Obligations.CommitWaitsForItsBlock : Prop :=
  (∀ (s : State) (lo : Nat),
     (s.rd64 lo = 0 → s.targetBlock lo = some (s.block + 1)) ∧
     (s.rd64 lo ≠ 0 → s.rd64 lo < s.block + 2 → s.targetBlock lo = none) ∧
     (s.block + 2 ≤ s.rd64 lo → s.targetBlock lo = some (s.rd64 lo))) ∧
  (∀ (s : State) (sh : Shadow), s.pat.shadow = some sh → s.patState = 3 →
     (∀ c, s.targetBlock Reg.PAT_COMMIT_BLOCK_LO = some c →
       (s.resourcesFit (s.shadowScene sh).counted = true → State.headroomFits (s.shadowScene sh).counted = true →
         Completes .patCommit s fun t =>
           t.patState = 4 ∧ t.pat = { s.pat with commitAt := some c } ∧ s.RegsKept t [Reg.PAT_STATUS] ∧
           t = { s with regs := t.regs, pat := t.pat }) ∧
       (s.resourcesFit (s.shadowScene sh).counted = false → Completes .patCommit s fun t =>
         t.patState = 3 ∧ t.bitOf Reg.PAT_STATUS 4 = true ∧ t.rf Reg.PAT_REJECT 7 0 = 0x23 ∧ t.Raised 17 ∧ t.pat = { s.pat with commitAt := none }) ∧
       (s.resourcesFit (s.shadowScene sh).counted = true → State.headroomFits (s.shadowScene sh).counted = false → Completes .patCommit s fun t =>
         t.patState = 3 ∧ t.bitOf Reg.PAT_STATUS 4 = true ∧ t.rf Reg.PAT_REJECT 7 0 = 0x24 ∧ t.Raised 17 ∧ t.pat = { s.pat with commitAt := none })) ∧
     (s.targetBlock Reg.PAT_COMMIT_BLOCK_LO = none → Completes .patCommit s fun t =>
       t.bitOf Reg.PAT_STATUS 4 = true ∧ s.RegsKept t [Reg.PAT_STATUS] ∧ s.JustRegs t))

/-- LOAD is refused while a load or a commit is in progress or its source is not there, and then only CMD_ERROR changes. An
accepted LOAD takes the image whole: with room for its frames the loader holds it and is READING, with no room it is REJECTED
with code 0x60 (R68), and with a source that cannot be read with code 0x07 (R72). Verification ends in the shadow or in a
rejection: an image that passes every check becomes the shadow and the loader is SHADOW_READY; an unreadable byte, or a failed
check, rejects it with its code, region, record type and offset, and event 17. The model's own choices in it are those of log
entries 77, 80. -/
def Obligations.PatternIsLoadedAndVerified : Prop :=
  (∀ s : State,
     (s.loadRefused = true → Completes .patLoad s fun t =>
       t.bitOf Reg.PAT_STATUS 4 = true ∧ s.RegsKept t [Reg.PAT_STATUS] ∧ s.JustRegs t) ∧
     (∀ w b, s.loadRefused = false → ((s.patAccepted.wf Reg.PAT_STATUS 14 8 0).clrBit Reg.PAT_STATUS 3).loadSource = (w, some b) →
       ((b.length + 65535) / 65536 ≤ w.freeDramFrames → Completes .patLoad s fun t =>
         t.patState = 1 ∧ t.pat = { w.pat with image := b } ∧
         t = { s with regs := t.regs, evt := t.evt, pat := t.pat, mtx := t.mtx }) ∧
       (w.freeDramFrames < (b.length + 65535) / 65536 → Completes .patLoad s fun t =>
         t.patState = 6 ∧ t.pat.image = [] ∧ t.rd Reg.PAT_REJECT = 0x7F60 ∧
         t = { s with regs := t.regs, evt := t.evt, pat := t.pat, mtx := t.mtx })) ∧
     (∀ w, s.loadRefused = false → ((s.patAccepted.wf Reg.PAT_STATUS 14 8 0).clrBit Reg.PAT_STATUS 3).loadSource = (w, none) →
       Completes .patLoad s fun t =>
         t.patState = 6 ∧ t.pat.image = [] ∧ t.rd Reg.PAT_REJECT = 0x7F07 ∧
         t = { s with regs := t.regs, evt := t.evt, pat := t.pat, mtx := t.mtx })) ∧
  (∀ s : State, s.patState = 1 ∨ s.patState = 2 →
     (∀ sh, s.verifyImage s.pat.image (s.pat.sampled.getD s.dev.revoked) = .ok sh →
       Completes (.patVerifyDone none) s fun t =>
         t.patState = 3 ∧ t.pat.shadow = some sh ∧ t.rf Reg.PAT_STATUS 14 8 = 100 ∧ t.bitOf Reg.PAT_STATUS 3 = sh.full ∧
         t = { s with regs := t.regs, evt := t.evt, pat := t.pat, mtx := t.mtx, freeIdx := t.freeIdx }) ∧
     (∀ r, s.verifyImage s.pat.image (s.pat.sampled.getD s.dev.revoked) = .error r →
       Completes (.patVerifyDone none) s fun t =>
         t.patState = 6 ∧ t.pat.shadow = s.pat.shadow ∧ t.pat.image = [] ∧
         t.rd Reg.PAT_REJECT = BitVec.ofNat 32 (r.code % 256 + r.region % 128 * 256 + r.rtype % 65536 * 65536) ∧
         t.rd Reg.PAT_REJECT_OFFSET = BitVec.ofNat 32 r.off ∧ t.Raised 17) ∧
     ∀ o, Completes (.patVerifyDone (some o)) s fun t =>
       t.patState = 6 ∧ t.pat.image = [] ∧ t.rd Reg.PAT_REJECT = 0x7F07 ∧ t.rd Reg.PAT_REJECT_OFFSET = BitVec.ofNat 32 o ∧ t.Raised 17)

/-- BIND_OFF of bound regions that no other region needs waits for its block; DISCARD empties the shadow; ABORT rejects the
load in progress with code 0xFF; a PAT command outside its state, or an undefined one, only sets CMD_ERROR (R66). The model's
own choices in it are those of log entry 38. -/
def Obligations.LoaderCommandsActInTheirStates : Prop :=
  ∀ s : State,
    (∀ c, s.patState = 0 ∨ s.patState = 3 ∨ s.patState = 6 → s.targetBlock Reg.PAT_COMMIT_BLOCK_LO = some c →
      s.bindMask ≠ [] →
      (∀ k ∈ s.bindMask, (s.version? k).isSome = true ∧ s.bitOf (Reg.PAT_REGION k) 2 = false ∧ ∀ e ∈ s.pat.bindOff, e.1 ≠ k) →
      s.orphaned s.bindMask = none →
      Completes .patBindOff s fun t =>
        t.pat = { s.pat with bindOff := s.pat.bindOff ++ s.bindMask.map fun k => (k, c) } ∧ t.bitOf Reg.PAT_STATUS 4 = false ∧
        s.RegsKept t [Reg.PAT_STATUS] ∧ t = { s with regs := t.regs, pat := t.pat }) ∧
    (s.patState = 3 ∨ s.patState = 6 → Completes .patDiscard s fun t =>
      t.patState = 0 ∧ t.pat.shadow = none ∧ t.pat.image = [] ∧ t = { s with regs := t.regs, pat := t.pat, mtx := t.mtx }) ∧
    (s.patState = 1 ∨ s.patState = 2 → Completes .patAbort s fun t =>
      t.patState = 6 ∧ t.pat.image = [] ∧ t.rd Reg.PAT_REJECT = 0x7FFF ∧ t.rd Reg.PAT_REJECT_OFFSET = 0 ∧ t.Raised 17) ∧
    (∀ op, 6 ≤ op → op < 16 → Completes (.patCmdRefused op) s fun t =>
      t.bitOf Reg.PAT_STATUS 4 = true ∧ s.RegsKept t [Reg.PAT_STATUS] ∧ s.JustRegs t) ∧
    (s.patState ≠ 3 → s.patState ≠ 6 → Completes .patDiscard s fun t =>
      t.bitOf Reg.PAT_STATUS 4 = true ∧ s.RegsKept t [Reg.PAT_STATUS] ∧ s.JustRegs t)

/-- KEY_REVOKE blows the bits written as one, for good, as long as a key slot that holds a key stays unrevoked; a write that
would revoke the last one is refused and blows nothing (R63). Where its event is not due a command changes nothing (the
model's choice: log entry 2). The model's own choices in it are those of log entry 92. -/
def Obligations.KeyRevokeBlowsOtpBits : Prop :=
  ∀ (s : State) (v : Word),
    let after := Nat.lor s.dev.revoked (fld v 3 0)
    (fld v 3 0 ≠ 0 → (∃ k < 4, s.dev.keyHash.getD k 0 ≠ 0 ∧ after / 2 ^ k % 2 = 0) →
      Completes (.keyRevoke v) s fun t => t = { s with dev := { s.dev with revoked := after } }) ∧
    (fld v 3 0 ≠ 0 → (∀ k < 4, s.dev.keyHash.getD k 0 = 0 ∨ after / 2 ^ k % 2 ≠ 0) →
      Completes (.keyRevoke v) s fun t =>
        t.dev = s.dev ∧ t.bitOf Reg.PAT_STATUS 4 = true ∧ s.RegsKept t [Reg.PAT_STATUS] ∧ s.JustRegs t) ∧
    (fld v 3 0 = 0 → Completes (.keyRevoke v) s fun t => t = s)

/-- A version of a region that has crossfaded out, switched away or been bound off leaves at the block it was due, and the
version that came in settles; until then the retirement commands retire nothing. Where its event is not due a command changes
nothing (the model's choice: log entry 2). The model's own choices in it are those of log entry 110. -/
def Obligations.VersionsRetireWhenDue : Prop :=
  ∀ (s : State) (k : Nat),
    let switched (v : Version) : Bool := State.leavesHard v && s.pat.versions.any fun w => w.region.id == k && w.replaces && v.uid < w.uid
    let off (v : Version) : Bool := State.leavesHard v && !(s.pat.versions.any fun w => w.region.id == k && w.replaces && v.uid < w.uid)
    (∀ v, s.dueRetire k State.leavesCross = some v → (s.endLeaver v).dueSettle k State.entersCross = none →
      Completes (.crossfadeRetire k) s fun t => t.pat = (s.endLeaver v).reportRegions.pat ∧ t.regs = (s.endLeaver v).reportRegions.regs) ∧
    (∀ v w, s.dueRetire k State.leavesCross = some v → (s.endLeaver v).dueSettle k State.entersCross = some w →
      Completes (.crossfadeRetire k) s fun t => t.pat = ((s.endLeaver v).endEntry w).reportRegions.pat ∧
        t.regs = ((s.endLeaver v).endEntry w).reportRegions.regs) ∧
    (∀ v, s.dueRetire k switched = some v → (s.endLeaver v).dueSettle k State.entersHard = none →
      Completes (.hardSwitchRetire k) s fun t => t.pat = (s.endLeaver v).reportRegions.pat ∧ t.regs = (s.endLeaver v).reportRegions.regs) ∧
    (∀ v w, s.dueRetire k switched = some v → (s.endLeaver v).dueSettle k State.entersHard = some w →
      Completes (.hardSwitchRetire k) s fun t => t.pat = ((s.endLeaver v).endEntry w).reportRegions.pat ∧
        t.regs = ((s.endLeaver v).endEntry w).reportRegions.regs) ∧
    (∀ v, s.dueRetire k off = some v →
      Completes (.bindOffRetire k) s fun t => t.pat = (s.endLeaver v).pat ∧ t.regs = (s.endLeaver v).regs) ∧
    (s.dueRetire k off = none → Completes (.bindOffRetire k) s fun t => t = s)

/-! ## Shadowed registers, conditioning and object metadata -/

/-- APPLY at a target block that is not too early is accepted: the block is kept, APPLY_PENDING is set and CMD_ERROR cleared.
At one too early it is refused: CMD_ERROR is set and nothing else changes (R85). -/
def Obligations.ApplyWaitsForItsBlock : Prop :=
  ∀ (s : State) (b : Nat),
    let taken (o : Nat) (t : State) : Prop := t.bitOf o 0 = true ∧ t.bitOf o 1 = false ∧ s.RegsKept t [o]
    let refused (o : Nat) (t : State) : Prop := t.bitOf o 1 = true ∧ s.RegsKept t [o] ∧ s.JustRegs t
    (s.targetBlock Reg.COND_APPLY_BLOCK_LO = some b → Completes .condApply s fun t =>
      taken Reg.COND_STATUS t ∧
      t = { s with regs := t.regs, cond := { s.cond with bank := { s.cond.bank with applyAt := some b } } }) ∧
    (s.targetBlock Reg.COND_APPLY_BLOCK_LO = none → Completes .condApply s (refused Reg.COND_STATUS)) ∧
    (s.targetBlock Reg.OMD_APPLY_BLOCK_LO = some b → Completes .omdApply s fun t =>
      taken Reg.OMD_STATUS t ∧ t.omd.bank.applyAt = some b ∧ t.omd.bank.pending.map (·.1) = s.omd.bank.pending.map (·.1) ∧
      t = { s with regs := t.regs, omd := { s.omd with bank := t.omd.bank } }) ∧
    (s.targetBlock Reg.OMD_APPLY_BLOCK_LO = none → Completes .omdApply s (refused Reg.OMD_STATUS)) ∧
    (s.targetBlock Reg.XP_APPLY_BLOCK_LO = some b → Completes .xpApply s fun t =>
      taken Reg.XP_STATUS t ∧ t.xp.bank.applyAt = some b ∧ t.xp.bank.pending = [] ∧
      t = { s with regs := t.regs, xp := { s.xp with bank := t.xp.bank } }) ∧
    (s.targetBlock Reg.XP_APPLY_BLOCK_LO = none → Completes .xpApply s (refused Reg.XP_STATUS)) ∧
    (s.targetBlock Reg.OUTS_APPLY_BLOCK_LO = some b → Completes .outsApply s fun t =>
      taken Reg.OUTS_STATUS t ∧
      t = { s with regs := t.regs, outs := { s.outs with bank := { s.outs.bank with applyAt := some b } } }) ∧
    (s.targetBlock Reg.OUTS_APPLY_BLOCK_LO = none → Completes .outsApply s (refused Reg.OUTS_STATUS)) ∧
    (s.dev.part.hasGauge = true → s.targetBlock Reg.GAUGE_APPLY_BLOCK_LO = some b → Completes .gaugeApply s fun t =>
      taken Reg.GAUGE_STATUS t ∧
      t = { s with regs := t.regs, gauge := { s.gauge with bank := { s.gauge.bank with applyAt := some b } } }) ∧
    (s.dev.part.hasGauge = true → s.targetBlock Reg.GAUGE_APPLY_BLOCK_LO = none → Completes .gaugeApply s (refused Reg.GAUGE_STATUS))

/-- A write of PHASE_DELAY holds the 17-bit delay for its boundary; a delay of 128 samples or more on a channel without a
delay page asks for one (R82, R83). A page asked for is granted from the free pages, and the line records from then; with none
free it is denied, and the delay in force stands (R82, R159). The line is full 1,024 samples after it began to record.
RELEASE_PAGES is accepted, and every channel whose delays in force and fading in are below 128 samples gives its page back
unless the delay written last still needs it (R83); a channel without a page is left alone. Where its event is not due a
command changes nothing (the model's choice: log entry 2). The model's own choices in it are those of log entry 41. -/
def Obligations.PhaseDelaysAndTheirPages : Prop :=
  (∀ (s : State) (n : Nat) (v : Word), n < 1808 → Completes (.phaseDelayWrite n v) s fun t =>
     t.rd (Reg.CH_PHASE_DELAY n) = v &&& 0x1FFFF ∧
     t.cond.bank = s.cond.bank.write (Reg.CH_PHASE_DELAY n) (s.autoBlock Reg.COND_CTRL 0) ∧
     (128 ≤ fld (v &&& 0x1FFFF) 16 0 → s.bitOf (Reg.CH_STATUS n) 8 = false → (s.chan n).pageAsked = false →
       (t.chan n).pageAsked = true ∧ t.bitOf (Reg.CH_STATUS n) 5 = true) ∧
     (fld (v &&& 0x1FFFF) 16 0 < 128 → t.cond.ch = s.cond.ch ∧ t.rd (Reg.CH_STATUS n) = s.rd (Reg.CH_STATUS n)) ∧
     s.RegsKept t [Reg.CH_PHASE_DELAY n, Reg.CH_STATUS n] ∧
     t = { s with regs := t.regs, cond := { s.cond with bank := t.cond.bank, ch := t.cond.ch } }) ∧
  (∀ (s : State) (n : Nat), n < 1808 →
     ((s.chan n).pageAsked = true → 0 < s.skeinFree → Completes (.delayPageGrant n) s fun t =>
       (t.chan n).pageAsked = false ∧ (t.chan n).lineFrom = some s.tick ∧ t.bitOf (Reg.CH_STATUS n) 8 = true ∧
       t.skeinFree = s.skeinFree - 1 ∧ t = { s with regs := t.regs, cond := t.cond }) ∧
     ((s.chan n).pageAsked = true → s.skeinFree = 0 → Completes (.delayPageGrant n) s fun t =>
       (t.chan n).pageAsked = false ∧ t.bitOf (Reg.CH_STATUS n) 5 = false ∧ t.bitOf (Reg.CH_STATUS n) 6 = true ∧
       t.rd (Reg.CH_PHASE_DELAY n) = s.inForce (Reg.CH_PHASE_DELAY n) ∧
       s.RegsKept t [Reg.CH_STATUS n, Reg.CH_PHASE_DELAY n] ∧ t = { s with regs := t.regs, cond := t.cond }) ∧
     ((s.chan n).pageAsked = false → Completes (.delayPageGrant n) s fun t => t = s) ∧
     (∀ k, (s.chan n).lineFrom = some k → k + 1024 ≤ s.tick → Completes (.delayLineFilled n) s fun t =>
       t.bitOf (Reg.CH_STATUS n) 5 = false ∧ s.RegsKept t [Reg.CH_STATUS n] ∧ s.JustRegs t) ∧
     (∀ k, (s.chan n).lineFrom = some k → s.tick < k + 1024 → Completes (.delayLineFilled n) s fun t => t = s)) ∧
  (∀ s : State, (∀ m ∈ s.cond.ch.map (·.1), m < 1808) →
     Completes .condReleasePages s fun t =>
       t.bitOf Reg.COND_STATUS 1 = false ∧ t = { s with regs := t.regs, cond := { s.cond with ch := t.cond.ch } } ∧
       ∀ n ∈ s.cond.ch.map (·.1),
         (s.bitOf (Reg.CH_STATUS n) 8 = true → s.chDelay n < 128 → (s.chan n).xfadeTo.getD 0 < 128 →
           t.bitOf (Reg.CH_STATUS n) 8 = false ∧ (t.chan n).lineFrom = none) ∧
         (s.bitOf (Reg.CH_STATUS n) 8 = false → t.chan n = s.chan n ∧ t.rd (Reg.CH_STATUS n) = s.rd (Reg.CH_STATUS n)))

/-- A tracked channel is locked once its loop has stayed within two samples for 3,000 blocks (R81); MDEC ignores reserved
settings, refuses PDM at another format, and otherwise holds its seven bits, restarting the channel when they change (R88).
Where its event is not due a command changes nothing (the model's choice: log entry 2). -/
def Obligations.TrackingLocksAndMdecRestarts : Prop :=
  ∀ (s : State) (n m : Nat) (v : Word),
    (s.chTrack n = true → 3000 ≤ (s.chan n).track.within → Completes (.trackLockTimer n) s fun t =>
      t.bitOf (Reg.CH_STATUS n) 3 = true ∧ s.RegsKept t [Reg.CH_STATUS n] ∧ s.JustRegs t) ∧
    (s.chTrack n = false ∨ (s.chan n).track.within < 3000 → Completes (.trackLockTimer n) s fun t => t = s) ∧
    (fld v 1 0 = 3 ∨ 6 ≤ fld v 4 2 → Completes (.mdecWrite m v) s fun t => t = s) ∧
    (fld v 1 0 = 2 → fld v 4 2 ≠ 0 → fld v 4 2 < 6 → Completes (.mdecWrite m v) s fun t =>
      t.bitOf Reg.COND_STATUS 1 = true ∧ s.RegsKept t [Reg.COND_STATUS] ∧ s.JustRegs t) ∧
    (m < 16 → fld v 1 0 < 2 ∨ (fld v 1 0 = 2 ∧ fld v 4 2 = 0) → fld v 4 2 < 6 → Completes (.mdecWrite m v) s fun t =>
      t.rd (Reg.COND_MDEC m) = v &&& 0x7F ∧
      (s.rd (Reg.COND_MDEC m) ≠ v &&& 0x7F → (t.chan (1792 + m)).restart.isSome = true) ∧
      (s.rd (Reg.COND_MDEC m) = v &&& 0x7F → t.cond = s.cond) ∧
      s.RegsKept t [Reg.COND_MDEC m, Reg.CH_STATUS (1792 + m)] ∧ t = { s with regs := t.regs, cond := t.cond })

/-- The metadata receiver drops a packet of another version, another target, a wrong length or an old sequence number, each
with its own counter, and takes every entry of the others (R99 to R101); switched off, it takes nothing. An OSC packet counts
its good and bad messages, and the entry that each object's messages make is queued or dropped (R104); FLUSH_ALL empties every
object's queue; RESET_SENDERS forgets every sender (R101). Where its event is not due a command changes nothing (the model's
choice: log entry 2). The model's own choices in it are those of log entries 29, 43, 71. -/
def Obligations.ObjectPacketsAndOscAreTaken : Prop :=
  (∀ (s : State) (src port sub : Nat) (b : List Byte),
     let dropped (o : Nat) (t : State) : Prop :=
       t.counter o = s.counterAfter o 1 ∧ s.RegsKept t [o] ∧ s.JustRegs t
     let versionOk := beNat b 0 1 = 1
     let targetOk := beNat b 4 2 = 0xFFFF ∨ beNat b 4 2 = s.cascadeId
     let formatOk := b.length = 16 + 48 * beNat b 12 2 ∧ 1 ≤ beNat b 12 2 ∧ beNat b 12 2 ≤ 186
     (s.bitOf Reg.OMD_CTRL 0 = false → Completes (.fomPacket src port sub b) s fun t => t = s) ∧
     (s.bitOf Reg.OMD_CTRL 0 = true →
       (¬versionOk → Completes (.fomPacket src port sub b) s (dropped Reg.OMD_DROP_VERSION)) ∧
       (versionOk → ¬targetOk → Completes (.fomPacket src port sub b) s (dropped Reg.OMD_DROP_TARGET)) ∧
       (versionOk → targetOk → ¬formatOk → Completes (.fomPacket src port sub b) s (dropped Reg.OMD_DROP_FORMAT)) ∧
       ∀ u, versionOk → targetOk → formatOk →
         (s.senderTake src port (beNat b 8 4) (s.instant sub) = (u, false) → Completes (.fomPacket src port sub b) s fun t =>
           t.omd.senders = u.omd.senders ∧ t.regs = (u.count Reg.OMD_DROP_SEQUENCE).regs) ∧
         (s.senderTake src port (beNat b 8 4) (s.instant sub) = (u, true) → Completes (.fomPacket src port sub b) s fun t =>
           let w := (u.count Reg.OMD_RX_PACKETS).over (List.range (beNat b 12 2)) fun x i =>
             x.takeEntry (s.instant sub) (State.fomEntry b i) (beNat b 2 2 % 2 == 1)
           t = { s with regs := w.regs, evt := w.evt, omd := w.omd, cas := w.cas }))) ∧
  (∀ (s : State) (sub : Nat) (b : List Byte),
     (s.bitOf Reg.OMD_CTRL 2 = false ∨ s.rf Reg.OMD_OSC_CFG 15 0 = 0 → Completes (.oscPacket sub b) s fun t => t = s) ∧
     (s.bitOf Reg.OMD_CTRL 2 = true → s.rf Reg.OMD_OSC_CFG 15 0 ≠ 0 →
       State.oscMerge (oscElements 8 0 none b) [] = [] →
       Completes (.oscPacket sub b) s fun t =>
         t.counter Reg.OMD_OSC_MESSAGES = s.counterAfter Reg.OMD_OSC_MESSAGES ((oscElements 8 0 none b).filter fun e => e.2.isSome).length ∧
         t.counter Reg.OMD_OSC_DROPPED = s.counterAfter Reg.OMD_OSC_DROPPED ((oscElements 8 0 none b).filter fun e => e.2.isNone).length ∧
         s.RegsKept t [Reg.OMD_OSC_MESSAGES, Reg.OMD_OSC_DROPPED] ∧ s.JustRegs t) ∧
     (∀ tag n e, s.bitOf Reg.OMD_CTRL 2 = true → s.rf Reg.OMD_OSC_CFG 15 0 ≠ 0 →
       State.oscMerge (oscElements 8 0 none b) [] = [(tag, n, e)] → n < s.dev.part.objects → s.inGroup n = true → s.metaImported n = false →
       Completes (.oscPacket sub b) s fun t =>
         let u := (s.countBy Reg.OMD_OSC_MESSAGES ((oscElements 8 0 none b).filter fun e => e.2.isSome).length).countBy
           Reg.OMD_OSC_DROPPED ((oscElements 8 0 none b).filter fun e => e.2.isNone).length
         let w := match u.oscTime tag with
           | none => u.queueEntry n (s.instant sub) { (e : MetaEntry) with flags := e.flags + 32 } false
           | some v => u.queueEntry n (s.instant sub) { (e : MetaEntry) with t := v } false
         t = { s with regs := w.regs, evt := w.evt, omd := w.omd, cas := w.cas }) ∧
     Completes .flushAll s (fun t =>
       (∀ n ∈ s.omd.obj.map (·.1), (t.obj n).queue = [] ∧ t.rf (Reg.OBJ_STATUS n) 14 10 = 0) ∧
       t = { s with regs := t.regs, omd := { s.omd with obj := t.omd.obj } }) ∧
     Completes .resetSenders s (fun t =>
       t.omd = { s.omd with senders := [] } ∧ t.rf Reg.OMD_STATUS 21 16 = 0 ∧ s.RegsKept t [Reg.OMD_STATUS] ∧
       t = { s with regs := t.regs, omd := t.omd }))

/-- An entry for an object that is absent, outside every committed group or imported is dropped and counted, and one whose
time has a nanosecond field out of range is dropped with a format count of the receiver and of the object; any other is queued
(R102, R103). M_PUSH takes the object's own registers as one entry (R96). The model's own choices in it are those of log entry
44. -/
def Obligations.EntriesAreDroppedOrQueued : Prop :=
  ∀ (s : State) (n : Nat), n < s.dev.part.objects →
    (s.inGroup n = false ∨ s.metaImported n = true → Completes (.mPush n) s fun t =>
      t.counter Reg.OMD_DROP_OBJECT = s.counterAfter Reg.OMD_DROP_OBJECT 1 ∧ s.RegsKept t [Reg.OMD_DROP_OBJECT] ∧ s.JustRegs t) ∧
    (s.inGroup n = true → s.metaImported n = false → 999999999 < (s.rd (Reg.OBJ_M_TIME_NS n)).toNat → Completes (.mPush n) s fun t =>
      t.counter Reg.OMD_DROP_FORMAT = s.counterAfter Reg.OMD_DROP_FORMAT 1 ∧
      t.counter (Reg.OBJ_DROP_COUNT n) = s.counterAfter (Reg.OBJ_DROP_COUNT n) 1 ∧
      s.RegsKept t [Reg.OMD_DROP_FORMAT, Reg.OBJ_DROP_COUNT n] ∧ s.JustRegs t) ∧
    (s.inGroup n = true → s.metaImported n = false → (s.rd (Reg.OBJ_M_TIME_NS n)).toNat ≤ 999999999 → Completes (.mPush n) s fun t =>
      let sd := s.rd (Reg.OBJ_M_SD n)
      let fl := s.rd (Reg.OBJ_M_FLAGS n)
      let e : MetaEntry := {
        t := s.resolveSeconds (s.rd (Reg.OBJ_M_TIME_S n)).toNat * 3000000000 + 3 * (s.rd (Reg.OBJ_M_TIME_NS n)).toNat
        block := 0, seq := none, flags := fld fl 6 0, law := fld fl 31 16
        pos := ⟨(s.rd (Reg.OBJ_M_X n)).toInt, (s.rd (Reg.OBJ_M_Y n)).toInt, (s.rd (Reg.OBJ_M_Z n)).toInt⟩
        gain := (s.rd (Reg.OBJ_M_GAIN n)).toInt, spread := fld sd 15 0, diffuse := fld sd 31 16 }
      let u := s.queueEntry n s.now e false
      t = { s with regs := u.regs, evt := u.evt, omd := u.omd, cas := u.cas })

/-! ## Counters -/

/-- A CLEAR_COUNTS command returns exactly its unit's counters to their reset values and changes nothing else; where the unit
has a CMD_ERROR bit, the accepted command clears it. A CLEAR_COUNTS command whose unit also keeps extremes restarts them: a
greatest value from the present one, a least value from the present one, and the peaks of load from zero. Where its event is
not due a command changes nothing (the model's choice: log entry 2). The model's own choices in it are those of log entry 97. -/
def Obligations.ClearCountsReturnsCountersToReset : Prop :=
  (∀ s : State,
     let cleared (c : Instr) (l other : List Nat) : Prop := Completes c s fun t =>
       (∀ o ∈ l, t.rd o = resetValue s.dev o) ∧ s.RegsKept t (l ++ other) ∧ s.JustRegs t
     cleared .evtClearCounts ([Reg.EVT_LATE_DELIVERY, Reg.EVT_MERGED, Reg.EVT_PME_COUNT] ++ (List.range 8).map Reg.VEC_RAISES) [] ∧
     cleared .hostClearCounts [Reg.HOST_PARTIAL_WRITES, Reg.HOST_LINK_DOWNS] [] ∧
     cleared .matrixClearCounts [Reg.MATRIX_DECODE_ERRORS, Reg.MATRIX_TIMEOUTS, Reg.MATRIX_LATE_RESPONSES, Reg.MATRIX_ABORTED_BURSTS] [] ∧
     cleared .netcClearCounts State.netcCounters [] ∧
     (∀ n, cleared (.netClearCounts n) (State.netCounters n) []) ∧
     (∀ i, cleared (.rxsClearCounts i) (State.rxsCounters i) []) ∧
     (∀ i, cleared (.txsClearCounts i) [Reg.TXS_PACKETS i, Reg.TXS_LATE_DEPART i] []) ∧
     (∀ n, cleared (.taClearCounts n) [Reg.TA_FIRED n, Reg.TA_SKIPPED n] []) ∧
     (∀ n, cleared (.tdmClearCounts n)
       [Reg.TDM_SLIPS_RX n, Reg.TDM_SLIPS_TX n, Reg.TDM_BAD_FRAMES n, Reg.TDM_STALLS n, Reg.TDM_UNLOCKS n] []) ∧
     (∀ m, s.dev.part.has .meas m = true → cleared (.measClearCounts m) [Reg.MEAS_FAULTS m] []) ∧
     (∀ n, n < s.dev.part.casPorts → cleared (.casClearCounts n)
       (((List.range 6).map fun k => Reg.CAS_FRAMES_RX n + 4 * k) ++
         if n = 0 then [Reg.CAS_MIX_ABSENT, Reg.CAS_IMPORT_CONCEAL, Reg.CAS_META_FWD, Reg.CAS_META_LATE] else []) []) ∧
     cleared .timeClearCounts State.timeCounters [Reg.TIME_STATUS] ∧
     cleared .xpClearCounts [Reg.XP_REFUSED, Reg.XP_IXP_SAT, Reg.XP_OXP_SAT] [Reg.XP_STATUS] ∧
     (s.dev.part.hasGauge = true → cleared .gaugeClearCounts [Reg.GAUGE_JOBS_DONE, Reg.GAUGE_JOBS_INVALID, Reg.GAUGE_UPDATES,
       Reg.GAUGE_CLAMPS, Reg.GAUGE_OVERRIDES, Reg.GAUGE_DEFERRED] [Reg.GAUGE_STATUS]) ∧
     (s.dev.part.hasHedge = true → cleared .hedgeClearCounts ((List.range 13).map fun k => Reg.HEDGE_PEER_LOSSES + 4 * k)
       [Reg.HEDGE_STATUS]) ∧
     (s.dev.part.hasStore = true → s.bitOf Reg.STORE_STATUS 3 = false → cleared .storeClearCounts
       ([Reg.STORE_CORR_MAX, Reg.STORE_RETRIES, Reg.STORE_UNCORRECTABLE, Reg.STORE_REFRESHES, Reg.STORE_WEAR_MOVES,
         Reg.STORE_GROWN_BAD, Reg.STORE_HOLDS] ++ (List.range 256).map fun k => Reg.STEM_UNDERRUNS k) [Reg.STORE_STATUS])) ∧
  (∀ s : State,
     Completes .skeinClearCounts s (fun t =>
       (∀ o ∈ [Reg.SKEIN_PAGE_INS, Reg.SKEIN_RELEASES, Reg.SKEIN_RECLAIMS, Reg.SKEIN_DENIED, Reg.SKEIN_STARVE_STARTS,
         Reg.SKEIN_PAGEIN_WAITS], t.rd o = resetValue s.dev o) ∧
       t.rd Reg.SKEIN_FREE_MIN = s.rd Reg.SKEIN_FREE ∧ (∀ c < 7, t.rd (Reg.SKEIN_PEAK c) = s.rd (Reg.SKEIN_HELD c)) ∧
       s.JustRegs t) ∧
     Completes (.clkClearCounts 0xA5C3) s (fun t =>
       (∀ o ∈ [Reg.CLK_DIPS, Reg.CLK_CROSS_RESYNCS, Reg.CLK_FIFO_DROPS, Reg.CLK_PLL_UNLOCKS], t.rd o = resetValue s.dev o) ∧
       t.rd Reg.CLK_TJ_MAX = s.rd Reg.CLK_TJ ∧
       s.RegsKept t [Reg.CLK_DIPS, Reg.CLK_CROSS_RESYNCS, Reg.CLK_FIFO_DROPS, Reg.CLK_PLL_UNLOCKS, Reg.CLK_TJ_MAX] ∧ s.JustRegs t) ∧
     (∀ key, key ≠ 0xA5C3 → Completes (.clkClearCounts key) s fun t => t = s) ∧
     (∀ n, n < s.dev.part.dramChannels → Completes (.dramClearCounts n) s fun t =>
       (∀ o ∈ [Reg.DRAM_CE_COUNT n, Reg.DRAM_UE_COUNT n, Reg.DRAM_RETRAINS n, Reg.DRAM_RETRAIN_FAILS n, Reg.DRAM_MIGRATED_FRAMES n,
         Reg.DRAM_MIGRATE_UE n, Reg.DRAM_MIGRATE_SKIPPED n, Reg.DRAM_URGENT n, Reg.DRAM_REFRESH_POSTPONED n],
         t.rd o = resetValue s.dev o) ∧
       t.rf (Reg.DRAM_UTIL n) 25 16 = s.rf (Reg.DRAM_UTIL n) 9 0 ∧ s.JustRegs t) ∧
     (∀ p, p < s.dev.part.tiles → Completes (.tileClearCounts p) s fun t =>
       (∀ o ∈ [Reg.TILE_PARITY_COUNT p, Reg.TILE_KAT_PASS p, Reg.TILE_KAT_FAIL p, Reg.TILE_BANK_STALLS p, Reg.TILE_SAT_COUNT p,
         Reg.TILE_SLEW_COUNT p, Reg.TILE_CLAMP_COUNT p, Reg.TILE_SPEC_CANCEL p], t.rd o = resetValue s.dev o) ∧
       t.rf (Reg.TILE_LOAD p) 25 16 = 0 ∧ s.JustRegs t) ∧
     Completes .rndrClearCounts s (fun t =>
       (∀ o ∈ [Reg.RNDR_SPEC_COMMIT, Reg.RNDR_SPEC_CANCEL, Reg.RNDR_LAW_SWITCH, Reg.RNDR_AMP_OUTSIDE], t.rd o = resetValue s.dev o) ∧
       s.JustRegs t) ∧
     (∀ h, h < s.dev.part.needles → Completes (.ndlClearCounts h) s fun t =>
       (∀ k < 11, t.rd (0x1F4018 + 0x400 * h + 4 * k) = resetValue s.dev (0x1F4018 + 0x400 * h + 4 * k)) ∧
       t.rf (Reg.NDL_LOAD h) 25 16 = 0 ∧ s.JustRegs t) ∧
     (∀ j, s.dev.part.hasOutput j = true → Completes (.spkClearCounts j) s fun t =>
       (∀ o ∈ [Reg.SPK_PEAK j, Reg.SPK_LIM_BLOCKS j, Reg.SPK_CLIP_COUNT j, Reg.SPK_SAT_COUNT j], t.rd o = resetValue s.dev o) ∧
       t.rf (Reg.SPK_GR_COMP j) 31 16 = 0 ∧ t.rf (Reg.SPK_GR_LIM j) 31 16 = 0 ∧ s.JustRegs t) ∧
     Completes .outsClearCounts s (fun t =>
       (∀ o ∈ [Reg.OUTS_SWAPS, Reg.OUTS_PREP_FAILS], t.rd o = resetValue s.dev o) ∧ t.bitOf Reg.OUTS_STATUS 1 = false ∧
       t.rf Reg.OUTS_SEQ_LOAD 25 16 = 0 ∧ s.JustRegs t) ∧
     Completes .schedClearCounts s (fun t =>
       (∀ o ∈ [Reg.SCHED_READY_CANCEL, Reg.SCHED_SPEC_PREFETCH, Reg.SCHED_CANCELLED, Reg.SCHED_LATE_BLOCKS, Reg.SCHED_CONCEAL_BLOCKS,
         Reg.SCHED_DEADLINE_MISS, Reg.SCHED_SPILLED, Reg.SCHED_REFILLED, Reg.SCHED_SPILL_FULL, Reg.SCHED_ROB_FULL, Reg.SCHED_SEND_LATE,
         Reg.SCHED_GAUGE_SKIPPED], t.rd o = resetValue s.dev o) ∧
       (∀ c < 6, t.rf (Reg.SCHED_CLASS c) 31 16 = s.rf (Reg.SCHED_CLASS c) 15 0) ∧ s.JustRegs t) ∧
     Completes .omdClearCounts s (fun t =>
       (∀ k < 9, t.rd (0x200020 + 4 * k) = resetValue s.dev (0x200020 + 4 * k)) ∧ t.bitOf Reg.OMD_STATUS 1 = false ∧
       (∀ n < s.dev.part.objects, ∀ o ∈ State.objCounters n, t.rd o = resetValue s.dev o) ∧ s.JustRegs t) ∧
     ((∀ m ∈ s.cond.ch.map (·.1), m < 1808) → Completes .condClearCounts s fun t =>
       (∀ n ∈ s.cond.ch.map (·.1), t.rf (Reg.CH_STATUS n) 31 16 = 0) ∧ t.bitOf Reg.COND_STATUS 1 = false ∧ s.JustRegs t))

/-! ## Tiles, history pages and Needles -/

/-- A fence, a parity error and a started or finished known-answer test of a tile: what each counts, which STATE it leaves,
and when the tile is fenced at the next boundary. A run on a FENCED tile never unfences it, and a SPARE that fails is fenced
at once with event 20 (R312 to R314). When the refill of an ENGAGING spare is complete, the spare is ACTIVE, event 21 is
raised and every history page of the objects it hosts is in SRAM; at any other tile the command changes nothing (R317 step 5).
Where its event is not due a command changes nothing (the model's choice: log entry 2). -/
def Obligations.TilesAreTestedFencedAndRefilled : Prop :=
  (∀ (s : State) (p : Nat), p < s.dev.part.tiles →
     let only (t : State) (l : List Nat) : Prop :=
       (∀ q, q ≠ p → t.tile q = s.tile q) ∧ s.RegsKept t l ∧
       t = { s with regs := t.regs, rndr := { s.rndr with tiles := t.rndr.tiles } }
     let started (t : State) : Prop :=
       (t.tile p).katDue = true ∧ only t [Reg.TILE_STATUS p] ∧
       (s.tileState p = 2 ∨ s.tileState p = 4 → t.tileState p = 5 ∧ (t.tile p).testing = some (s.tileState p)) ∧
       (s.tileState p ≠ 2 → s.tileState p ≠ 4 → t.tileState p = s.tileState p ∧ (t.tile p).testing = (s.tile p).testing)
     Completes (.tileFence p) s (fun t => t.tile p = { s.tile p with fenceDue := true } ∧ only t []) ∧
     Completes (.tileParityError p) s (fun t => t.tile p = { s.tile p with fenceDue := true } ∧
       t.counter (Reg.TILE_PARITY_COUNT p) = s.counterAfter (Reg.TILE_PARITY_COUNT p) 1 ∧ only t [Reg.TILE_PARITY_COUNT p]) ∧
     Completes (.tileKatNow p) s started ∧
     (s.bitOf (Reg.TILE_CTRL p) 0 = true → Completes (.tileKatTimer p) s started) ∧
     (s.bitOf (Reg.TILE_CTRL p) 0 = false → Completes (.tileKatTimer p) s fun t => t = s) ∧
     (∀ ok, (s.tile p).katDue = false → Completes (.tileKatDone p ok) s fun t => t = s) ∧
     ((s.tile p).katDue = true → Completes (.tileKatDone p true) s fun t =>
       t.counter (Reg.TILE_KAT_PASS p) = s.counterAfter (Reg.TILE_KAT_PASS p) 1 ∧
       t.tile p = { s.tile p with katDue := false, testing := none } ∧
       t.tileState p = s.tileTrueState p % 8 ∧ only t [Reg.TILE_KAT_PASS p, Reg.TILE_STATUS p]) ∧
     ((s.tile p).katDue = true → s.tileTrueState p ≠ 2 → Completes (.tileKatDone p false) s fun t =>
       t.counter (Reg.TILE_KAT_FAIL p) = s.counterAfter (Reg.TILE_KAT_FAIL p) 1 ∧
       t.tile p = { s.tile p with katDue := false, testing := none, fenceDue := (s.tileTrueState p != 4) || (s.tile p).fenceDue } ∧
       t.tileState p = s.tileTrueState p % 8 ∧ only t [Reg.TILE_KAT_FAIL p, Reg.TILE_STATUS p]) ∧
     ((s.tile p).katDue = true → s.tileTrueState p = 2 → Completes (.tileKatDone p false) s fun t =>
       t.counter (Reg.TILE_KAT_FAIL p) = s.counterAfter (Reg.TILE_KAT_FAIL p) 1 ∧ t.tileState p = 4 ∧ t.Raised 20 ∧
       t.rf Reg.SKEIN_SPARE_RESERVE 15 0 = s.rf Reg.SKEIN_SPARE_RESERVE 15 0 - 256 ∧
       s.RegsKept t ([Reg.TILE_KAT_FAIL p, Reg.TILE_STATUS p, Reg.RNDR_STATUS, Reg.SKEIN_TOTAL, Reg.SKEIN_SPARE_RESERVE,
         Reg.SKEIN_OUTSIDE] ++ State.evtRegs 20))) ∧
  (∀ (s : State) (p : Nat),
     (s.tileState p = 3 → Completes (.spareRefillDone p) s fun t =>
       t.tileState p = 1 ∧ (t.tile p).refilled = true ∧ t.Raised 21 ∧
       (∀ l, s.hostedBy p = some l → ∀ n ∈ s.tileObjects l, ∀ k, k = 2 * n ∨ k = 2 * n + 1 →
         ∀ x ∈ (t.histCh k).pages, x.loaded = true) ∧
       s.RegsKept t (Reg.TILE_STATUS p :: State.evtRegs 21) ∧
       t = { s with regs := t.regs, evt := t.evt, rndr := { s.rndr with tiles := t.rndr.tiles },
                    skein := { s.skein with hist := t.skein.hist } }) ∧
     (s.tileState p ≠ 3 → Completes (.spareRefillDone p) s fun t => t = s))

/-- A write of the gain tolerance, the window channel or the borrow limit holds what the register takes, ignoring a value it
cannot take, and a page that arrives holds its words, with zeros where the pager found none (R149, R163, R173, R176). Where
its event is not due a command changes nothing (the model's choice: log entry 2). The model's own choices in it are those of
log entry 105. -/
def Obligations.TolerancesWindowsAndPages : Prop :=
  ∀ (s : State) (v : Word) (k p : Nat) (zeros : List Nat),
    Completes (.tolGainWrite v) s (fun t =>
      t.rd Reg.RNDR_TOL_GAIN = v &&& 0xFFFF ∧ s.RegsKept t [Reg.RNDR_TOL_GAIN] ∧
      t = { s with regs := t.regs, rndr := { s.rndr with tolGain := (pow10Round (-(fld v 15 0 : Int)) 20000 31).toNat } }) ∧
    Completes (.winSelWrite v) s (fun t =>
      t.rd Reg.SKEIN_WIN_SEL = v &&& 0x7FF ∧ s.RegsKept t [Reg.SKEIN_WIN_SEL] ∧
      t = { s with regs := t.regs, skein := { s.skein with winWaiting := true } }) ∧
    Completes (.borrowLimitWrite v) s (fun t =>
      t.rf Reg.SKEIN_PAGER_CFG 31 16 = (if 24576 < fld v 31 16 then s.rf Reg.SKEIN_PAGER_CFG 31 16 else fld v 31 16) ∧
      t.rf Reg.SKEIN_PAGER_CFG 3 0 = (if fld v 3 0 = 0 then s.rf Reg.SKEIN_PAGER_CFG 3 0 else fld v 3 0) ∧
      t.skein = { s.skein with limitLowered :=
        s.skein.limitLowered || decide (t.rf Reg.SKEIN_PAGER_CFG 31 16 < s.rf Reg.SKEIN_BORROWED 15 0) } ∧
      s.RegsKept t [Reg.SKEIN_PAGER_CFG] ∧ t = { s with regs := t.regs, skein := t.skein }) ∧
    ((s.histCh k).pages.any (fun x => x.idx == p && !x.loaded) = true → Completes (.pageInDone k p zeros) s fun t =>
      (t.histCh k).pages = (s.histCh k).pages.map (fun x => if x.idx = p then { x with loaded := true } else x) ∧
      (∀ j, (t.histCh k).hist.getD j 0 =
        if ∃ z ∈ zeros, z < 128 ∧ ((s.histCh k).top - j) / 8 = ((128 * p + z : Nat) : Int) then 0 else (s.histCh k).hist.getD j 0) ∧
      t.counter Reg.SKEIN_PAGE_INS = s.counterAfter Reg.SKEIN_PAGE_INS 1 ∧
      (∀ q, q ≠ k → t.histCh q = s.histCh q) ∧ s.RegsKept t [Reg.SKEIN_PAGE_INS] ∧
      t = { s with regs := t.regs, skein := { s.skein with hist := t.skein.hist },
                   hedge := { s.hedge with zeroBlocks := t.hedge.zeroBlocks } }) ∧
    ((s.histCh k).pages.any (fun x => x.idx == p && !x.loaded) = false → Completes (.pageInDone k p zeros) s fun t => t = s)

/-- A Needle's fence, test and fault: what each counts, and that the Needle is fenced at the next block boundary (R190). Once
a tick that is a multiple of four, a micro-block runs: its mix is for the four samples before it (R183). Where its event is
not due a command changes nothing (the model's choice: log entry 2). The model's own choices in it are those of log entry 6. -/
def Obligations.NeedlesAreTestedAndRunMicroBlocks : Prop :=
  ∀ (s : State) (h : Nat), h < s.dev.part.needles →
    let only (t : State) (l : List Nat) : Prop :=
      (∀ q, q ≠ h → t.needle q = s.needle q) ∧ s.RegsKept t l ∧
      t = { s with regs := t.regs, ndl := { s.ndl with needles := t.ndl.needles } }
    let counted (o : Nat) (n : NeedleState) (t : State) : Prop :=
      t.counter o = s.counterAfter o 1 ∧ t.needle h = n ∧ only t [o]
    Completes (.ndlFence h) s (fun t => t.needle h = { s.needle h with fenceDue := true } ∧ only t []) ∧
    Completes (.ndlKatNow h) s (fun t => t.needle h = { s.needle h with katDue := true } ∧ only t []) ∧
    Completes (.ndlFault h true) s (counted (Reg.NDL_PARITY_COUNT h) { s.needle h with fenceDue := true }) ∧
    Completes (.ndlFault h false) s (counted (Reg.NDL_KAT_FAIL h) { s.needle h with fenceDue := true }) ∧
    (s.bitOf (Reg.NDL_CTRL h) 0 = true ∨ (s.needle h).katDue = true →
      Completes (.ndlKatTimer h true) s (counted (Reg.NDL_KAT_PASS h) { s.needle h with katDue := false }) ∧
      Completes (.ndlKatTimer h false) s (counted (Reg.NDL_KAT_FAIL h)
        { s.needle h with katDue := false, fenceDue := decide (s.rf (Reg.NDL_STATUS h) 2 0 ≠ 2) || (s.needle h).fenceDue })) ∧
    (∀ ok, s.bitOf (Reg.NDL_CTRL h) 0 = false → (s.needle h).katDue = false → Completes (.ndlKatTimer h ok) s fun t => t = s) ∧
    (∀ claims late, s.tick % 4 = 0 → 4 ≤ s.tick → s.ticked.micro = false → Completes (.microBlock claims late) s fun t =>
      t.ticked = { s.ticked with micro := true } ∧ (t.ndl.mix.map (·.1)).head? = some (s.tick - 4) ∧ t.ndl.mix.length ≤ 4 ∧
      ∃ u, u = ({ s with ticked := { s.ticked with micro := true } } : State).microBlock claims late ∧
        t = { s with regs := u.regs, ticked := u.ticked, ndl := u.ndl, omd := u.omd, skein := u.skein, freeIdx := u.freeIdx }) ∧
    (∀ claims late, s.tick % 4 ≠ 0 ∨ s.tick < 4 ∨ s.ticked.micro = true → Completes (.microBlock claims late) s fun t => t = s)

/-! ## The scheduler -/

/-- An instance whose predecessors are done enters its ready list once its earliest time has come, and a deferred one tries
again. With room in the list, or after a page is borrowed for it, it is READY; with the list full it spills, or it is deferred
where spilling is off, and a deferral counts once per instance (R195, R209). A free engine starts the first entry of its list
that no flow holds back, which counts as dispatched; with every entry held, none starts. A ready list whose fill has fallen to
the low mark takes entries back from the spill ring in ascending deadline until the high mark or until the ring holds none for
it (R196, R200, R209). Where its event is not due a command changes nothing (the model's choice: log entry 2). The model's own
choices in it are those of log entry 124. -/
def Obligations.InstancesBecomeReadyAndDispatch : Prop :=
  (∀ (s : State) (u : Nat),
     let enters (c : Instr) (i : Instance) : Prop :=
       let k := s.listOf i
       let full (v : State) : Prop := v.listCapacity k.1 ≤ (v.onList k .ready).length
       ∃ v, (¬ full s → v = s) ∧ (full s → v = s.borrowSchedPage k.1) ∧
         (¬ full v → Completes c s fun t =>
           t.sched.inst = v.sched.inst.map (fun x => if x.uid = i.uid then { i with state := .ready } else x) ∧
           t.counter Reg.SCHED_SPILLED = s.counter Reg.SCHED_SPILLED ∧
           t = { s with regs := t.regs, evt := t.evt, sched := t.sched }) ∧
         (full v → v.bitOf Reg.SCHED_CTRL 0 = false → Completes c s fun t =>
           t.sched.inst = v.sched.inst.map (fun x => if x.uid = i.uid then { i with state := .deferred, deferredOnce := true } else x) ∧
           t.counter Reg.SCHED_SPILL_FULL = s.counterAfter Reg.SCHED_SPILL_FULL (if i.deferredOnce then 0 else 1) ∧
           t = { s with regs := t.regs, evt := t.evt, sched := t.sched }) ∧
         (full v → v.bitOf Reg.SCHED_CTRL 0 = true → v.classCount k.1 .spilled < 65536 → Completes c s fun t =>
           t.counter Reg.SCHED_SPILLED = s.counterAfter Reg.SCHED_SPILLED 1 ∧
           (∃ x, firstOf (fun a b => !a.before b) (i :: v.onList k .ready) = some x ∧ (t.inst? x.uid).map (·.state) = some .spilled) ∧
           t = { s with regs := t.regs, evt := t.evt, sched := t.sched })
     (s.inst? u = none → Completes (.instanceReady u) s (fun t => t = s) ∧ Completes (.readyRetry u) s fun t => t = s) ∧
     (∀ i, s.inst? u = some i → i.state = .waiting → 32 * i.runBlock + s.earliestOf i ≤ s.tick → s.predecessorsDone i = true →
       enters (.instanceReady u) i) ∧
     (∀ i, s.inst? u = some i → i.state ≠ .waiting ∨ s.tick < 32 * i.runBlock + s.earliestOf i ∨ s.predecessorsDone i = false →
       Completes (.instanceReady u) s fun t => t = s) ∧
     (∀ i, s.inst? u = some i → i.state = .deferred → enters (.readyRetry u) i) ∧
     (∀ i, s.inst? u = some i → i.state ≠ .deferred → Completes (.readyRetry u) s fun t => t = s)) ∧
  (∀ (s : State) (c tile : Nat), c < 6 →
     (∀ i, firstOf Instance.before ((s.onList (c, tile) .ready).filter fun x => !s.heldByFlow x) = some i →
       Completes (.instanceDispatch c tile) s fun t =>
         t.inst? i.uid = some { i with state := .running, dispatched := true } ∧
         t.counter (Reg.SCHED_CLASS c + 4) = s.counterAfter (Reg.SCHED_CLASS c + 4) 1 ∧
         (i.node.flow < 1024 → i.seq.isSome = true → s.rf (Reg.SCHED_FLOW i.node.flow) 24 16 < 511 →
           t.rf (Reg.SCHED_FLOW i.node.flow) 24 16 = s.rf (Reg.SCHED_FLOW i.node.flow) 24 16 + 1) ∧
         t.sched.inst.map (·.uid) = s.sched.inst.map (·.uid) ∧ t = { s with regs := t.regs, evt := t.evt, sched := t.sched }) ∧
     (firstOf Instance.before ((s.onList (c, tile) .ready).filter fun x => !s.heldByFlow x) = none →
       Completes (.instanceDispatch c tile) s fun t =>
         t.sched.inst.map (·.uid) = s.sched.inst.map (·.uid) ∧
         s.RegsKept t [Reg.SCHED_ROB_FULL] ∧ t = { s with regs := t.regs, sched := t.sched }) ∧
     ((s.onList (c, tile) .ready).length * 100 ≤ s.listCapacity c * s.rf Reg.SCHED_SPILL_CFG 15 8 →
       Completes (.spillRefill c tile) s fun t =>
         (s.listCapacity c * s.rf Reg.SCHED_SPILL_CFG 7 0 ≤ (t.onList (c, tile) .ready).length * 100 ∨
           t.onList (c, tile) .spilled = []) ∧
         t.sched.inst.map (·.uid) = s.sched.inst.map (·.uid) ∧ t = { s with regs := t.regs, evt := t.evt, sched := t.sched }) ∧
     (s.listCapacity c * s.rf Reg.SCHED_SPILL_CFG 15 8 < (s.onList (c, tile) .ready).length * 100 →
       Completes (.spillRefill c tile) s fun t => t = s))

/-- An instance ends DONE or CANCELLED. One that completes in time is released; one cancelled while it ran is not; a late SEND
leaves all the same and a late GAUGE is skipped, and each counts. A cancelled instance that runs completes with its result
discarded, any other leaves its list, and a result already released stays released (R201, R203, R211). Where its event is not
due a command changes nothing (the model's choice: log entry 2). The model's own choices in it are those of log entry 124. -/
def Obligations.InstancesEndDoneOrCancelled : Prop :=
  ∀ (s : State) (u : Nat),
    let schedOnly (t : State) : Prop := t = { s with regs := t.regs, evt := t.evt, sched := t.sched }
    let ended (t : State) (w : Nat) : Prop :=
      ∀ x ∈ t.sched.inst, x.uid = w → x.state = .doomed ∨ x.state = .cancelled ∨ x.state = .token false
    (s.inst? u = none → Completes (.instanceComplete u) s (fun t => t = s) ∧
      ∀ made, Completes (.instanceCancel u made) s fun t => t = s) ∧
    (∀ i, s.inst? u = some i →
      (i.state ≠ .running → i.state ≠ .doomed → Completes (.instanceComplete u) s fun t => t = s) ∧
      (¬ (i.node.flow < 1024 ∧ i.seq.isSome = true) → i.state = .doomed → Completes (.instanceComplete u) s fun t =>
        t.inst? u = some { i with state := .cancelled } ∧ schedOnly t) ∧
      (¬ (i.node.flow < 1024 ∧ i.seq.isSome = true) → i.state = .running → i.node.nkind ≠ 7 → s.now < i.deadline * 128 →
        Completes (.instanceComplete u) s fun t =>
          t.inst? u = some { i with state := .released } ∧
          t.counter Reg.SCHED_DEADLINE_MISS = s.counter Reg.SCHED_DEADLINE_MISS ∧ schedOnly t) ∧
      (¬ (i.node.flow < 1024 ∧ i.seq.isSome = true) → i.state = .running → i.deadline * 128 ≤ s.now → i.node.nkind = 6 →
        Completes (.instanceComplete u) s fun t =>
          t.inst? u = some { i with state := .released } ∧
          t.counter Reg.SCHED_SEND_LATE = s.counterAfter Reg.SCHED_SEND_LATE 1 ∧
          t.counter Reg.SCHED_DEADLINE_MISS = s.counterAfter Reg.SCHED_DEADLINE_MISS 1 ∧ schedOnly t) ∧
      (¬ (i.node.flow < 1024 ∧ i.seq.isSome = true) → i.state = .running → i.deadline * 128 ≤ s.now → i.node.nkind = 7 →
        Completes (.instanceComplete u) s fun t =>
          t.inst? u = some { i with state := .cancelled } ∧
          t.counter Reg.SCHED_GAUGE_SKIPPED = s.counterAfter Reg.SCHED_GAUGE_SKIPPED 1 ∧
          t.counter Reg.SCHED_DEADLINE_MISS = s.counterAfter Reg.SCHED_DEADLINE_MISS 1 ∧
          t = { s with regs := t.regs, evt := t.evt, sched := t.sched, gauge := { s.gauge with jobs := t.gauge.jobs } }) ∧
      (i.state.unreleased = true → ∀ made, Completes (.instanceCancel u made) s fun t =>
        ended t u ∧ s.counterAfter Reg.SCHED_CANCELLED 1 ≤ t.counter Reg.SCHED_CANCELLED ∧
        (made = true → i.state = .waiting → t.counter Reg.SCHED_READY_CANCEL = s.counterAfter Reg.SCHED_READY_CANCEL 1 ∧
          (s.sched.readyCancelRaised = false → t.Raised 36)) ∧
        t = { s with regs := t.regs, evt := t.evt, sched := t.sched, gauge := { s.gauge with jobs := t.gauge.jobs } }) ∧
      (i.state.unreleased = false → ∀ made, Completes (.instanceCancel u made) s fun t =>
        t.sched.inst = s.sched.inst ∧ t.counter Reg.SCHED_CANCELLED = s.counter Reg.SCHED_CANCELLED ∧ schedOnly t))

/-- A domain that misses its hard deadline cancels every unreleased instance of the late unit; an output domain keeps the late
block, and a domain that was not concealing counts it, reports it and starts to conceal. With nothing unreleased nothing
changes (R211, R212). Where its event is not due a command changes nothing (the model's choice: log entry 2). The model's own
choices in it are those of log entry 124. -/
def Obligations.HardDeadlineCancelsTheLateUnit : Prop :=
  ∀ (s : State) (d : Domain),
    let u := s.domainUnit d
    let late := u.2.filter fun i => i.state.unreleased && !i.node.exempt
    let cancelled (t : State) : Prop := ∀ i ∈ late, s.inst? i.uid = some i → ∀ x ∈ t.sched.inst, x.uid = i.uid →
      x.state = .doomed ∨ x.state = .cancelled ∨ x.state = .token false
    let started (t : State) (info : Nat) : Prop :=
      t.counter Reg.SCHED_LATE_BLOCKS = s.counterAfter Reg.SCHED_LATE_BLOCKS 1 ∧ t.rd Reg.SCHED_LATE_INFO = BitVec.ofNat 32 info ∧
      (s.sched.lateRaised = false → t.Raised 32)
    (late = [] → Completes (.hardDeadlineMiss d) s fun t => t = s) ∧
    (d = .blockMix → late.any (fun i => i.node.nkind == 3) = true → Completes (.hardDeadlineMiss d) s fun t =>
      cancelled t ∧ t.rndr = { s.rndr with blockLate := some (s.block - 1) } ∧
      (State.concealing s.rndr.blockConceal = false → started t 1) ∧
      t = { s with regs := t.regs, evt := t.evt, sched := t.sched, rndr := t.rndr, gauge := { s.gauge with jobs := t.gauge.jobs } }) ∧
    (∀ k, d = .fgMix k → late ≠ [] → Completes (.hardDeadlineMiss d) s fun t =>
      cancelled t ∧ t.ndl = { s.ndl with late := (32 * s.block + 4 * k) :: s.ndl.late } ∧
      (State.concealing s.ndl.conceal = false → started t (2 + k % 8 * 4)) ∧
      t = { s with regs := t.regs, evt := t.evt, sched := t.sched, ndl := t.ndl, gauge := { s.gauge with jobs := t.gauge.jobs } }) ∧
    (∀ j, d = .output j → late ≠ [] → Completes (.hardDeadlineMiss d) s fun t =>
      cancelled t ∧ (t.outConceal j).late = some (s.block - 2) ∧ (t.outConceal j).phase = (s.outConceal j).phase ∧
      (State.concealing (s.outConceal j).phase = false → started t (3 + j % 1024 * 65536)) ∧
      t = { s with regs := t.regs, evt := t.evt, sched := t.sched, gauge := { s.gauge with jobs := t.gauge.jobs } })

/-! ## Crosspoints and the output stage -/

/-- The end of a node's ramp is recorded once its last sample has come, and not before (R227). Once a tick that is a multiple
of four the output stage runs its micro-block on the four samples before it, and Gauge takes them (R239). SWAP queues every
prepared target for its block, DISCARD empties the standby banks that are not queued, and either is refused with CMD_ERROR
where its rule says. A filter crossfade whose last sample has passed exchanges the two banks, clears FILTER_XFADE and counts a
swap; event 25 marks the last one of its command (R251, R252). Where its event is not due a command changes nothing (the
model's choice: log entry 2). The model's own choices in it are those of log entries 6, 128. -/
def Obligations.NodeRampsOutputsAndFilterSwaps : Prop :=
  (∀ s : State,
     (∀ o r rs, s.nodeRamps o = r :: rs → r.start + r.len ≤ s.tick + nodeShift o → Completes (.nodeRampEnd o) s fun t =>
       t.nodeRamps o = { r with done := true } :: rs ∧ (∀ p, p ≠ o → t.nodeRamps p = s.nodeRamps p) ∧
       s.RegsKept t [Reg.XP_IXP_COUNT, Reg.XP_OXP_COUNT] ∧
       t = { s with regs := t.regs, xp := { s.xp with ramps := t.xp.ramps } }) ∧
     (∀ o r rs, s.nodeRamps o = r :: rs → s.tick + nodeShift o < r.start + r.len → Completes (.nodeRampEnd o) s fun t => t = s) ∧
     (∀ o, s.nodeRamps o = [] → Completes (.nodeRampEnd o) s fun t => t = s) ∧
     (s.tick % 4 = 0 → 4 ≤ s.tick → s.ticked.outMicro = false → Completes .outputMicroBlock s fun t =>
       t.ticked = { s.ticked with outMicro := true } ∧
       (8 ≤ s.tick → (t.outs.ports.map (·.1)).take 4 = [s.tick - 5, s.tick - 6, s.tick - 7, s.tick - 8]) ∧
       ∃ u, u = ({ s with ticked := { s.ticked with outMicro := true } } : State).outputMicroBlock.over
           [s.tick - 4, s.tick - 3, s.tick - 2, s.tick - 1] State.gaugeTick ∧
         t = { s with regs := u.regs, ticked := u.ticked, outs := u.outs, gauge := u.gauge, sched := u.sched, net := u.net,
                      freeIdx := u.freeIdx }) ∧
     (s.tick % 4 ≠ 0 ∨ s.tick < 4 ∨ s.ticked.outMicro = true → Completes .outputMicroBlock s fun t => t = s)) ∧
  (∀ (s : State) (l : List Nat) (b j : Nat),
     let refused (t : State) : Prop := t.bitOf Reg.OUTS_STATUS 1 = true ∧ s.RegsKept t [Reg.OUTS_STATUS] ∧ s.JustRegs t
     let ready := l.filter fun i => s.bitOf (Reg.SPK_STATUS i) 4
     (s.targets Reg.OUTS_TARGET = some l → s.targetBlock Reg.OUTS_SWAP_BLOCK_LO = some b → s.bitOf Reg.OUTS_STATUS 2 = false →
       ready ≠ [] → Completes .swap s fun t =>
         t.outs.swaps = s.outs.swaps + 1 ∧ t.bitOf Reg.OUTS_STATUS 1 = false ∧ t.bitOf Reg.OUTS_STATUS 3 = true ∧
         (∀ i ∈ ready, (t.outp i).queued = some (b, s.outs.swaps + 1) ∧ t.bitOf (Reg.SPK_STATUS i) 3 = true) ∧
         (∀ i, i ∉ ready → t.outp i = s.outp i) ∧ s.RegsKept t (Reg.OUTS_STATUS :: ready.map Reg.SPK_STATUS) ∧
         t = { s with regs := t.regs, outs := t.outs }) ∧
     (s.targets Reg.OUTS_TARGET = none ∨ s.targetBlock Reg.OUTS_SWAP_BLOCK_LO = none ∨ s.bitOf Reg.OUTS_STATUS 2 = true ∨
       (s.targets Reg.OUTS_TARGET = some l ∧ ready = []) → Completes .swap s refused) ∧
     (s.targets Reg.OUTS_TARGET = none → Completes .discard s refused) ∧
     (s.targets Reg.OUTS_TARGET = some l → Completes .discard s fun t =>
       t.bitOf Reg.OUTS_STATUS 1 = false ∧
       (∀ i ∈ l, s.bitOf (Reg.SPK_STATUS i) 3 = false → (s.outp i).gaugeStandby = false →
         (t.outp i).standby = [] ∧ t.bitOf (Reg.SPK_STATUS i) 4 = false) ∧
       (∀ i, i ∉ l ∨ s.bitOf (Reg.SPK_STATUS i) 3 = true ∨ (s.outp i).gaugeStandby = true → t.outp i = s.outp i) ∧
       s.RegsKept t (Reg.OUTS_STATUS :: l.map Reg.SPK_STATUS) ∧ t = { s with regs := t.regs, outs := t.outs }) ∧
     (j < 640 → ∀ f, (s.outp j).xfade = some f → 32 * f.block + 64 + f.len ≤ s.tick → Completes (.filterXfadeEnd j) s fun t =>
       t.outp j = { s.outp j with xfade := none, active := (s.outp j).standby, standby := (s.outp j).active, gaugeStandby := false } ∧
       t.bitOf (Reg.SPK_STATUS j) 2 = false ∧ t.rd (Reg.SPK_XFADE j) = 0 ∧
       t.counter Reg.OUTS_SWAPS = s.counterAfter Reg.OUTS_SWAPS 1 ∧
       (f.cmd ≠ 0 → (∀ e ∈ t.outs.out, (∀ g, e.2.xfade = some g → g.cmd ≠ f.cmd) ∧ ∀ q, e.2.queued = some q → q.2 ≠ f.cmd) →
         t.Raised 25) ∧
       (∀ i, i ≠ j → t.outp i = s.outp i) ∧
       s.RegsKept t ([Reg.OUTS_STATUS, Reg.OUTS_SWAPS, Reg.SPK_STATUS j, Reg.SPK_XFADE j] ++ State.evtRegs 25) ∧
       t = { s with regs := t.regs, evt := t.evt, outs := t.outs }) ∧
     ((∀ f, (s.outp j).xfade = some f → s.tick < 32 * f.block + 64 + f.len) → Completes (.filterXfadeEnd j) s fun t => t = s))

/-- PREPARE takes the staged coefficients of its targets, overrides their Topiary loops and reports PREPARING, or is refused
with CMD_ERROR. When it ends well, each target's standby bank holds its coefficients; when it fails, the banks are empty,
PREP_FAILS counts and event 26 is raised (R250, R294). Where its event is not due a command changes nothing (the model's
choice: log entry 2). The model's own choices in it are those of log entry 82. -/
def Obligations.PrepareStagesOrFails : Prop :=
  ∀ (s : State) (l : List Nat) (taps : Nat) (coefs : List Int) (ok : Bool),
    let free (j : Nat) : Prop := (∃ f, s.curFilter j = some f ∧ s.rf Reg.OUTS_STAGE_TAPS 15 0 ≤ f.taps) ∧
      s.bitOf (Reg.SPK_STATUS j) 3 = false ∧ s.bitOf (Reg.SPK_STATUS j) 2 = false ∧ (s.outp j).gaugeStandby = false
    let fits : Prop := s.bitOf Reg.OUTS_STATUS 2 = false ∧ 64 ≤ s.rf Reg.OUTS_STAGE_TAPS 15 0 ∧ s.rf Reg.OUTS_STAGE_TAPS 15 0 ≤ 32768
    (s.targets Reg.OUTS_TARGET = some l → fits → (∀ j ∈ l, free j) → Completes .prepare s fun t =>
      (∃ c, t.outs.prepare = some (l, s.rf Reg.OUTS_STAGE_TAPS 15 0, c) ∧
        ∀ b, (s.masterRead 6 (s.rd64 Reg.OUTS_STAGE_ADDR_LO) (4 * s.rf Reg.OUTS_STAGE_TAPS 15 0 * l.length)).2 = some b →
          c = (State.wordsOf b).map (·.toInt)) ∧
      t.bitOf Reg.OUTS_STATUS 2 = true ∧ t.bitOf Reg.OUTS_STATUS 1 = false ∧
      (s.dev.part.hasGauge = true → t.counter Reg.GAUGE_OVERRIDES = s.counterAfter Reg.GAUGE_OVERRIDES l.length) ∧
      (s.dev.part.hasGauge = false → t.gauge = s.gauge) ∧
      t = { s with regs := t.regs, evt := t.evt, mtx := t.mtx, gauge := t.gauge, outs := t.outs }) ∧
    (s.targets Reg.OUTS_TARGET = none ∨ ¬ fits ∨ (s.targets Reg.OUTS_TARGET = some l ∧ ∃ j ∈ l, ¬ free j) → Completes .prepare s fun t =>
      t.bitOf Reg.OUTS_STATUS 1 = true ∧ s.RegsKept t [Reg.OUTS_STATUS] ∧ s.JustRegs t) ∧
    (s.outs.prepare = none → Completes (.prepareDone ok) s fun t => t = s) ∧
    (s.outs.prepare = some (l, taps, coefs) → l.Nodup → (∀ j ∈ l, j < 640) → coefs.length = taps * l.length →
      Completes (.prepareDone true) s fun t =>
        t.outs.prepare = none ∧ t.bitOf Reg.OUTS_STATUS 2 = false ∧
        (∀ k j, l[k]? = some j → (t.outp j).standby = (coefs.drop (taps * k)).take taps ∧ t.bitOf (Reg.SPK_STATUS j) 4 = true) ∧
        (∀ j, j ∉ l → t.outp j = s.outp j) ∧ s.RegsKept t (Reg.OUTS_STATUS :: l.map Reg.SPK_STATUS) ∧
        t = { s with regs := t.regs, outs := t.outs }) ∧
    (s.outs.prepare = some (l, taps, coefs) → (∀ j ∈ l, j < 640) → ok = false ∨ coefs.length ≠ taps * l.length →
      Completes (.prepareDone ok) s fun t =>
        t.outs.prepare = none ∧ t.bitOf Reg.OUTS_STATUS 2 = false ∧
        (∀ j ∈ l, (t.outp j).standby = [] ∧ t.bitOf (Reg.SPK_STATUS j) 4 = false) ∧
        t.counter Reg.OUTS_PREP_FAILS = s.counterAfter Reg.OUTS_PREP_FAILS 1 ∧ t.Raised 26 ∧
        (∀ j, j ∉ l → t.outp j = s.outp j) ∧
        s.RegsKept t ([Reg.OUTS_STATUS, Reg.OUTS_PREP_FAILS] ++ l.map Reg.SPK_STATUS ++ State.evtRegs 26) ∧
        t = { s with regs := t.regs, evt := t.evt, outs := t.outs })

/-! ## Gauge -/

/-- BASELINE asks for the next microphone response and coil resistance of each speaker output it names, or is refused;
RESTART_SWEEP ends the sweep; the two clears of an output's detection flags wait for their block with the shadowed registers;
and when the time after an override ends, the loop proposes again (R278, R284, R287, R294). At a pilot period start, jobs that
have ended free their correlators, and every free correlator takes the next pending job, which starts then; between periods
nothing changes (R278). A correlation job that has its whole period is taken off and counted as done or invalid, and the
second invalid one in a row marks the pilot lost (R280). Where its event is not due a command changes nothing (the model's
choice: log entry 2). The model's own choices in it are those of log entries 57, 61. -/
def Obligations.GaugeMeasuresByPeriods : Prop :=
  (∀ (s : State) (j : Nat),
     let first := s.af Reg.GAUGE_TARGET 8 0
     let n := s.af Reg.GAUGE_TARGET 25 16
     let expired (p : Nat) : Prop := ∃ u, ((s.gout j).holds[p]?).getD none = some u ∧ u ≤ s.uptime
     (s.dev.part.hasGauge = true → 0 < n → first + n ≤ 512 → Completes .baseline s fun t =>
       t.bitOf Reg.GAUGE_STATUS 1 = false ∧
       (∀ i, first ≤ i → i < first + n → s.dev.part.hasOutput i = true →
         t.gout i = { s.gout i with wantMic := true, wantRe := true } ∧ t.bitOf Reg.GAUGE_STATUS 2 = true) ∧
       (∀ i, i < first ∨ first + n ≤ i ∨ s.dev.part.hasOutput i = false → t.gout i = s.gout i) ∧
       s.RegsKept t [Reg.GAUGE_STATUS] ∧ t = { s with regs := t.regs, gauge := { s.gauge with out := t.gauge.out } }) ∧
     (s.dev.part.hasGauge = true → n = 0 ∨ 512 < first + n → Completes .baseline s fun t =>
       t.bitOf Reg.GAUGE_STATUS 1 = true ∧ s.RegsKept t [Reg.GAUGE_STATUS] ∧ s.JustRegs t) ∧
     (s.dev.part.hasGauge = true → Completes .restartSweep s fun t =>
       t.gauge = { s.gauge with sweep := s.gauge.sweep + 1, done := [], periods := 0 } ∧ t.bitOf Reg.GAUGE_STATUS 1 = false ∧
       t.rf Reg.GAUGE_SWEEP 15 0 = t.pendingJobs.length % 65536 ∧ s.RegsKept t [Reg.GAUGE_STATUS, Reg.GAUGE_SWEEP] ∧
       t = { s with regs := t.regs, gauge := t.gauge }) ∧
     (∀ c v, (c = Instr.clearMute j ∧ v = 1) ∨ (c = Instr.clearInvert j ∧ v = 2) → s.dev.part.hasReg .spk j 0x100 = true →
       Completes c s fun t =>
         t.rd (Reg.SPK_GCMD j) = v ∧ t.gauge.bank = s.gauge.bank.write (Reg.SPK_GCMD j) (s.autoBlock Reg.GAUGE_CTRL 1) ∧
         s.RegsKept t [Reg.SPK_GCMD j] ∧ t = { s with regs := t.regs, gauge := { s.gauge with bank := t.gauge.bank } }) ∧
     Completes (.overrideHoldEnd j) s (fun t =>
       (∀ p < 4, (expired p → ((t.gout j).holds[p]?).getD none = none) ∧
         (¬ expired p → ((t.gout j).holds[p]?).getD none = ((s.gout j).holds[p]?).getD none)) ∧
       (expired 0 → (t.gout j).micDiff = []) ∧ (expired 2 → (t.gout j).negative = 0 ∧ (t.gout j).positive = 0) ∧
       t.bitOf (Reg.SPK_GAUGE_STATUS j) 6 = (t.gout j).holds.any Option.isSome ∧
       (∀ i, i ≠ j → t.gout i = s.gout i) ∧ s.RegsKept t [Reg.SPK_GAUGE_STATUS j] ∧
       t = { s with regs := t.regs, gauge := { s.gauge with out := t.gauge.out } })) ∧
  (∀ s : State,
     (s.dev.part.hasGauge = false ∨ s.tick % pilotPeriod ≠ 0 → Completes .pilotPeriodStart s fun t => t = s) ∧
     (s.dev.part.hasGauge = true → s.tick % pilotPeriod = 0 → Completes .pilotPeriodStart s fun t =>
       (∀ k < 32, ∀ job, (k, job) ∈ t.gauge.jobs → ((k, job) ∈ s.gauge.jobs ∧ s.tick < job.ends) ∨ job.t0 = s.tick) ∧
       (∀ k < 32, ∀ job, (k, job) ∈ s.gauge.jobs → job.ends ≤ s.tick → (Assoc.get? (k + 32) t.gauge.jobs).isSome = true) ∧
       s.RegsKept t [Reg.GAUGE_SWEEP, Reg.GAUGE_STATUS] ∧ t = { s with regs := t.regs, gauge := t.gauge }) ∧
     (∀ k, Assoc.get? k s.gauge.jobs = none → Assoc.get? (k + 32) s.gauge.jobs = none →
       Completes (.correlationJobDone k) s fun t => t = s) ∧
     (∀ k job, Assoc.get? k s.gauge.jobs = some job → Assoc.get? (k + 32) s.gauge.jobs = none →
       ((s.gout job.out).pilotTop + 1 < job.ends → Completes (.correlationJobDone k) s fun t => t = s) ∧
       (job.ends ≤ (s.gout job.out).pilotTop + 1 → job.response.2 = true → Completes (.correlationJobDone k) s fun t =>
         t.gauge.jobs = Assoc.del k s.gauge.jobs ∧
         t.counter Reg.GAUGE_JOBS_DONE = s.counterAfter Reg.GAUGE_JOBS_DONE 1 ∧
         t.counter Reg.GAUGE_JOBS_INVALID = s.counter Reg.GAUGE_JOBS_INVALID) ∧
       (job.ends ≤ (s.gout job.out).pilotTop + 1 → job.response.2 = false → Completes (.correlationJobDone k) s fun t =>
         t.gauge.jobs = Assoc.del k s.gauge.jobs ∧
         t.counter Reg.GAUGE_JOBS_INVALID = s.counterAfter Reg.GAUGE_JOBS_INVALID 1 ∧
         (1 ≤ (s.gout job.out).invalid.getD (State.channelNo job.chan) 0 → t.bitOf (Reg.SPK_GAUGE_STATUS job.out) 3 = true) ∧
         s.RegsKept t ([Reg.GAUGE_STATUS, Reg.GAUGE_JOBS_INVALID, Reg.SPK_GAUGE_STATUS job.out] ++ State.evtRegs 149) ∧
         t = { s with regs := t.regs, evt := t.evt, gauge := t.gauge })))

/-! ## Time -/

/-- STEP_ACCEPT plans a step at its block, SLEW steers the offset away at 200 ppm, and either is refused while no jump is
pending; SET_TOD sets local time at once where no Pattern is active, plans a step where one is, and is refused while a source
holds a time of day; an operation without a meaning is refused. A slew that followed a SET_TOD ends in FREERUN (R326, R328,
R330). Where its event is not due a command changes nothing (the model's choice: log entry 2). The model's own choices in it
are those of log entries 38, 106. -/
def Obligations.StepSlewAndSetTod : Prop :=
  ∀ (s : State) (e : Nat),
    let refused (c : Instr) : Prop := Completes c s fun t =>
      t.bitOf Reg.TIME_STATUS 9 = true ∧ s.RegsKept t [Reg.TIME_STATUS] ∧ s.JustRegs t
    let stepping (t : State) (u : Int) (tod : Bool) : Prop :=
      t.timeState = 5 ∧ t.bitOf Reg.TIME_STATUS 9 = false ∧
      t.time.step = some { atBlock := e, samples := (State.splitStep u).1, remainder := (State.splitStep u).2, setTod := tod } ∧
      t.time = { s.time with settle := t.time.settle, exceed := t.time.exceed, step := t.time.step } ∧
      s.RegsKept t (Reg.TIME_STATUS :: (State.evtRegs 8 ++ State.evtRegs 11)) ∧
      t = { s with regs := t.regs, evt := t.evt, time := t.time }
    (s.jumpPending = true → s.stepBlock = some e → Completes .stepAccept s fun t =>
      stepping t (-s.refusedOffset) false ∧ t.jumpPending = false) ∧
    (s.jumpPending = false ∨ s.stepBlock = none → refused .stepAccept) ∧
    (s.jumpPending = true → Completes .slew s fun t =>
      t.timeState = 4 ∧ t.bitOf Reg.TIME_STATUS 9 = false ∧ t.jumpPending = false ∧
      t.rd Reg.TIME_STEER = wordOfInt (if 0 ≤ s.refusedOffset then -200000 else 200000) ∧
      t.time = { s.time with settle := t.time.settle, exceed := t.time.exceed, slew := some ⟨s.now, s.refusedOffset, false⟩ } ∧
      s.RegsKept t ([Reg.TIME_STATUS, Reg.TIME_STEER] ++ State.evtRegs 8 ++ State.evtRegs 11) ∧
      t = { s with regs := t.regs, evt := t.evt, time := t.time }) ∧
    (s.jumpPending = false → refused .slew) ∧
    (s.timeSource ≠ 2 → s.todValid = true → refused .setTod) ∧
    (s.timeSource = 2 ∨ s.todValid = false → s.patternActive = true → s.stepBlock = none → refused .setTod) ∧
    (s.timeSource = 2 ∨ s.todValid = false → s.patternActive = true → s.stepBlock = some e → Completes .setTod s fun t =>
      stepping t ((s.setTodUnits : Int) - s.nowUnits) true) ∧
    (s.timeSource = 2 ∨ s.todValid = false → s.patternActive = false → Completes .setTod s fun t =>
      t.now = (countsOfUnits s.setTodUnits).toNat ∧ t.uptime = s.uptime ∧ t.timeState = 6 ∧ t.todValid = true ∧
      t.rd Reg.TIME_STEER = 0 ∧
      t = { s with regs := t.regs, evt := t.evt, time := t.time, now := t.now, ticked := t.ticked, net := t.net, cas := t.cas,
                   outbox := t.outbox }) ∧
    (∀ op, 5 ≤ op → op < 8 → refused (.timeCmdRefused op)) ∧
    (s.jumpPending = false → refused (.timeCmdRefused 1) ∧ refused (.timeCmdRefused 2)) ∧
    (∀ w, s.time.slew = some w → w.afterSetTod = true → s.timeState = 4 → Completes .slewingEnd s fun t =>
      t.timeState = 6 ∧ t.rd Reg.TIME_STEER = 0 ∧ t.Raised 8 ∧ t.time = { s.time with settle := 0, exceed := 0, slew := none } ∧
      s.RegsKept t ([Reg.TIME_STATUS, Reg.TIME_STEER] ++ State.evtRegs 8) ∧
      t = { s with regs := t.regs, evt := t.evt, time := t.time }) ∧
    (s.time.slew = none ∨ s.timeState ≠ 4 → Completes .slewingEnd s fun t => t = s)

/-- What a PTP message does: a Sync on the slave port reports the offset and, at the selected source, steers by it, locks
after sixteen measurements in a row within LOCK_THRESH, or refuses a jump beyond JUMP_LIMIT; an Announce reports the
grandmaster; a port state and a path delay are kept (R324 to R327). The loss of the slave port enters holdover (R326). Where
its event is not due a command changes nothing (the model's choice: log entry 2). The model's own choices in it are those of
log entries 26, 29. -/
def Obligations.PtpSteersLocksAndRefusesJumps : Prop :=
  ∀ (s : State) (port sub src : Nat),
    let u : Int := divEven (s.instant sub * 62500 : Nat) 3 - src
    let heard : Prop := s.bitOf Reg.TIME_CTRL 2 = true ∧ s.time.ptp.portState.getD port 0 = 9 ∧ s.linkTimed = false
    (¬ heard ∨ s.timeSource = 2 → Completes (.ptpMessage port sub (.sync src)) s fun t => t = s) ∧
    (heard → s.timeSource ≠ 2 → s.timeState = 5 ∨ (s.todValid = true ∧ s.timeSource ≠ 0) →
      Completes (.ptpMessage port sub (.sync src)) s fun t =>
        t.rd Reg.TIME_OFFSET = satWord (divEven u 65536) ∧ s.RegsKept t [Reg.TIME_OFFSET] ∧ s.JustRegs t) ∧
    (heard → s.timeSource = 0 → s.todValid = true → s.timeState = 1 → -s.jumpLimit ≤ u → u ≤ s.jumpLimit →
      Completes (.ptpMessage port sub (.sync src)) s fun t =>
        t.rd Reg.TIME_OFFSET = satWord (divEven u 65536) ∧
        t.timeState = (if -s.lockThresh ≤ u ∧ u ≤ s.lockThresh ∧ s.time.settle = 15 then 2 else 1) ∧
        s.RegsKept t ([Reg.TIME_OFFSET, Reg.TIME_STEER, Reg.TIME_STATUS] ++ State.evtRegs 8) ∧
        t = { s with regs := t.regs, evt := t.evt, time := t.time }) ∧
    (heard → s.timeSource = 0 → s.todValid = true → (s.timeState = 1 ∨ s.timeState = 2 ∨ s.timeState = 6) →
      u < -s.jumpLimit ∨ s.jumpLimit < u → Completes (.ptpMessage port sub (.sync src)) s fun t =>
        t.rd Reg.TIME_OFFSET = satWord (divEven u 65536) ∧ t.timeState = 3 ∧ t.jumpPending = true ∧
        t.rd64 Reg.TIME_STEP_LO = ((divEven u 65536) % 2 ^ 64).toNat ∧
        t.counter Reg.TIME_JUMPS_REFUSED = s.counterAfter Reg.TIME_JUMPS_REFUSED 1 ∧ (s.jumpPending = false → t.Raised 9) ∧
        t.now = s.now ∧ t = { s with regs := t.regs, evt := t.evt, time := t.time }) ∧
    (∀ gm prio steps utc, Completes (.ptpMessage port sub (.announce gm prio steps utc)) s fun t =>
      t.rd64 Reg.TIME_GM_ID_LO = gm.toNat ∧ t.time.ptp.gmKnown = true ∧ t.time.ptp.stepsRemoved = steps ∧
      (s.rd64 Reg.TIME_GM_ID_LO ≠ gm.toNat →
        t.counter Reg.TIME_GM_CHANGES = s.counterAfter Reg.TIME_GM_CHANGES 1 ∧ t.Raised 14) ∧
      (s.timeSource = 0 → t.rf Reg.TIME_UTC_OFFSET 15 0 = (utc % 65536).toNat) ∧
      t = { s with regs := t.regs, evt := t.evt, time := { s.time with ptp := t.time.ptp } }) ∧
    (∀ ns, Completes (.ptpMessage port sub (.pathDelay ns)) s fun t =>
      t = { s with time := { s.time with ptp := { s.time.ptp with pathDelay := s.time.ptp.pathDelay.set port ns } } }) ∧
    (∀ st, port < 2 → s.time.ptp.portState.getD port 0 ≠ st → Completes (.ptpMessage port sub (.portState st)) s fun t =>
      t.time.ptp = { s.time.ptp with portState := s.time.ptp.portState.set port st } ∧ t.Raised 8 ∧
      t = { s with regs := t.regs, evt := t.evt, time := t.time }) ∧
    (s.timeSource = 0 → s.linkTimed = false → s.time.ptp.portState.any (· == 9) = true →
      s.timeState = 1 ∨ s.timeState = 2 ∨ s.timeState = 4 → Completes .ptpSourceLoss s fun t =>
        t.timeState = 3 ∧ t.Raised 10 ∧ t.counter Reg.TIME_HOLDOVERS = s.counterAfter Reg.TIME_HOLDOVERS 1 ∧
        t.rd Reg.TIME_STEER = wordOfInt (clampInt (-200000) 200000 (divEven s.time.integral 65536)) ∧
        s.RegsKept t ([Reg.TIME_STATUS, Reg.TIME_STEER, Reg.TIME_HOLDOVERS] ++ State.evtRegs 10) ∧
        t = { s with regs := t.regs, evt := t.evt, time := { s.time with settle := 0, exceed := 0 } }) ∧
    (s.timeSource ≠ 0 ∨ s.timeState = 0 ∨ s.timeState = 3 ∨ 5 ≤ s.timeState → Completes .ptpSourceLoss s fun t => t = s)

/-- An edge of the selected polarity: the first one is kept; one that fits the rate is the reference; one that does not is a
glitch, which event 6 reports once a block. A lost reference clears REF_VALID, counts, and enters holdover; a changed rate is
reported and steered by (R331). Where its event is not due a command changes nothing (the model's choice: log entry 2). -/
def Obligations.ReferenceEdgesLossAndRate : Prop :=
  ∀ (s : State) (sub rate last : Nat) (falling : Bool),
    let c := s.instant sub
    let mine : Prop := s.timeSource = 1 ∧ s.bitOf Reg.TIME_REF_CFG 3 = falling
    (¬ mine → Completes (.refInEdge sub falling) s fun t => t = s) ∧
    (mine → s.refRate = none ∨ s.time.ref.lastEdge = none → Completes (.refInEdge sub falling) s fun t =>
      t = { s with time := { s.time with ref := { s.time.ref with lastEdge := some c } } }) ∧
    (mine → s.refRate = some rate → s.time.ref.lastEdge = some last → State.refEdgeValid rate last c = true →
      Completes (.refInEdge sub falling) s fun t =>
        t.bitOf Reg.TIME_STATUS 5 = true ∧ t.rf Reg.TIME_STATUS 8 6 = rate % 8 ∧ t.time.ref.lastEdge = some c ∧
        (rate = 0 → t.rd Reg.TIME_OFFSET = satWord (divEven (State.refOffset 0 c) 65536)) ∧
        (rate ≠ 0 → t.time.ref.sum = s.time.ref.sum + State.refOffset rate c ∧ t.time.ref.edges = s.time.ref.edges + 1 ∧
          s.RegsKept t (Reg.TIME_STATUS :: State.evtRegs 5)) ∧
        t = { s with regs := t.regs, evt := t.evt, time := t.time }) ∧
    (mine → s.refRate = some rate → s.time.ref.lastEdge = some last → State.refEdgeValid rate last c = false →
      Completes (.refInEdge sub falling) s fun t =>
        t.counter Reg.TIME_REF_GLITCHES = s.counterAfter Reg.TIME_REF_GLITCHES 1 ∧ t.time.ref.glitched = true ∧
        (s.time.ref.glitched = false → t.Raised 6) ∧
        t.time.ref.lastEdge = (if s.bitOf Reg.TIME_STATUS 5 then some last else some c) ∧
        s.RegsKept t (Reg.TIME_REF_GLITCHES :: State.evtRegs 6) ∧
        t = { s with regs := t.regs, evt := t.evt, time := { s.time with ref := t.time.ref } }) ∧
    (s.timeSource = 1 → s.bitOf Reg.TIME_STATUS 5 = true → Completes .refLoss s fun t =>
      t.bitOf Reg.TIME_STATUS 5 = false ∧ t.rf Reg.TIME_STATUS 8 6 = 7 ∧ t.time.ref.lastEdge = none ∧
      t.counter Reg.TIME_REF_LOSSES = s.counterAfter Reg.TIME_REF_LOSSES 1 ∧ (t.sourceExists 5 = true → t.sourceLive 5 = true) ∧
      t.timeState = (if s.timeState = 1 ∨ s.timeState = 2 ∨ s.timeState = 4 then 3 else s.timeState) ∧
      t = { s with regs := t.regs, evt := t.evt, time := t.time }) ∧
    (s.timeSource ≠ 1 ∨ s.bitOf Reg.TIME_STATUS 5 = false → Completes .refLoss s fun t => t = s) ∧
    (s.timeSource = 1 → s.rf Reg.TIME_REF_CFG 2 0 = 5 → rate < 5 → s.rf Reg.TIME_STATUS 8 6 ≠ rate →
      Completes (.refRateChange rate sub) s fun t =>
        t.bitOf Reg.TIME_STATUS 5 = true ∧ t.rf Reg.TIME_STATUS 8 6 = rate ∧ t.time.ref.lastEdge = some c ∧
        t.rd Reg.TIME_OFFSET = satWord (divEven (State.refOffset rate c) 65536) ∧
        t = { s with regs := t.regs, evt := t.evt, time := t.time }) ∧
    (s.timeSource ≠ 1 ∨ s.rf Reg.TIME_REF_CFG 2 0 ≠ 5 ∨ 5 ≤ rate ∨ s.rf Reg.TIME_STATUS 8 6 = rate →
      Completes (.refRateChange rate sub) s fun t => t = s)

/-- An action that cannot be armed is refused with CMD_ERROR; one with no occurrence in the next two seconds' past is armed; a
late one is discarded or fired at once by its policy. Disarming takes it off. A due occurrence fires at its instant and
counts, and a pulse that ends is taken off at its end (R332 to R335). Where its event is not due a command changes nothing
(the model's choice: log entry 2). -/
def Obligations.ActionsArmFireAndEnd : Prop :=
  ∀ (s : State) (n : Nat), n < 256 →
    let past := s.pastOccurrences n 0 (s.nowUnits + 2000 * 65536)
    (s.armRefused n = true → Completes (.taArm n) s fun t =>
      t.bitOf (Reg.TA_STATUS n) 4 = true ∧ s.RegsKept t [Reg.TA_STATUS n] ∧ s.JustRegs t) ∧
    (s.armRefused n = false → past = 0 → Completes (.taArm n) s fun t =>
      t.taArmed n = true ∧ t.bitOf (Reg.TA_STATUS n) 1 = false ∧ Assoc.get? n t.time.armed = some ⟨0, none⟩ ∧
      (∀ m, m ≠ n → Assoc.get? m t.time.armed = Assoc.get? m s.time.armed) ∧
      s.RegsKept t [Reg.TA_STATUS n, Reg.TA_REMAIN n] ∧
      t = { s with regs := t.regs, time := { s.time with armed := t.time.armed } }) ∧
    (s.armRefused n = false → past ≠ 0 → s.taKind n ≠ 1 → s.bitOf (Reg.TA_CTRL n) 4 = false → Completes (.taArm n) s fun t =>
      t.taArmed n = false ∧ t.bitOf (Reg.TA_STATUS n) 2 = true ∧ t.Raised 12 ∧ Assoc.get? n t.time.armed = none ∧
      s.RegsKept t (Reg.TA_STATUS n :: State.evtRegs 12) ∧
      t = { s with regs := t.regs, evt := t.evt, time := { s.time with armed := t.time.armed } }) ∧
    (s.armRefused n = false → past ≠ 0 → s.taKind n ≠ 1 → s.bitOf (Reg.TA_CTRL n) 4 = true → Completes (.taArm n) s fun t =>
      t.taArmed n = false ∧ t.bitOf (Reg.TA_STATUS n) 1 = true ∧ t.bitOf (Reg.TA_STATUS n) 3 = true ∧
      t.counter (Reg.TA_FIRED n) = s.counterAfter (Reg.TA_FIRED n) 1 ∧
      t = { s with regs := t.regs, evt := t.evt, time := t.time, net := t.net, outbox := t.outbox }) ∧
    (s.taArmed n = true → Completes (.taDisarm n) s fun t =>
      t.taArmed n = false ∧ t.time = { s.time with armed := Assoc.del n s.time.armed } ∧ s.RegsKept t [Reg.TA_STATUS n] ∧
      t = { s with regs := t.regs, time := t.time }) ∧
    (s.taArmed n = false → Completes (.taDisarm n) s fun t => t = s) ∧
    (∀ k, s.occurrenceDue n = some k → Completes (.taFire n) s fun t =>
      t.now = max s.now (countsOfUnits (s.taInstant n k)).toNat ∧ t.uptime = s.uptime + (t.now - s.now) ∧
      t.counter (Reg.TA_FIRED n) = s.counterAfter (Reg.TA_FIRED n) 1 ∧
      (t.bitOf (Reg.TA_STATUS n) 5 = false → s.taKind n ≤ 1 → ∃ p ∈ t.time.pulses, p.output = s.taOutput n ∧ p.ta = n) ∧
      ((∃ x, s.taTotal n = some x ∧ x ≤ k + 1) → t.taArmed n = false ∧ t.bitOf (Reg.TA_STATUS n) 1 = true) ∧
      ((∀ x, s.taTotal n = some x → k + 1 < x) → (Assoc.get? n t.time.armed).map (·.next) = some (k + 1)) ∧
      t = { s with regs := t.regs, evt := t.evt, time := t.time, now := t.now, uptime := t.uptime, net := t.net, outbox := t.outbox }) ∧
    (s.occurrenceDue n = none → Completes (.taFire n) s fun t => t = s) ∧
    (∀ o p, s.time.pulses.find? (fun p => p.output == o && decide (p.ends < (s.tick + 1) * 32768)) = some p →
      Completes (.pulseEnd o) s fun t =>
        t.time = { s.time with pulses := s.time.pulses.erase p } ∧ t.now = max s.now p.ends ∧
        t = { s with regs := t.regs, evt := t.evt, time := t.time, now := t.now, uptime := t.uptime, outbox := t.outbox }) ∧
    (∀ o, s.time.pulses.find? (fun p => p.output == o && decide (p.ends < (s.tick + 1) * 32768)) = none →
      Completes (.pulseEnd o) s fun t => t = s)

/-- A selected edge of a capture input that is not too close to the last one is stamped and raises its event; a full FIFO
counts it as lost. A read of a FIFO's data register takes its oldest entry, and an empty FIFO reads zero (R338, R339). Where
its event is not due a command changes nothing (the model's choice: log entry 2). -/
def Obligations.CapturesAndCuesAreQueued : Prop :=
  ∀ (s : State) (c sub : Nat) (falling : Bool), c < 4 →
    let cfg := 0x30080 + 0x20 * c
    let fifo := (s.time.captures[c]?).getD []
    let selected : Prop := s.bitOf cfg 0 = true ∧ (s.rf cfg 2 1 = 2 ∨ (s.rf cfg 2 1 = 1 ↔ falling = true))
    let close : Prop := ∃ l, Assoc.get? c s.time.lastEdges = some l ∧ l ≤ s.instant sub ∧ (s.instant sub - l) * 15625 < 20 * 49152
    (¬ selected ∨ close → Completes (.captureEdge c sub falling) s fun t => t = s) ∧
    (selected → ¬ close → fifo.length < 16 → Completes (.captureEdge c sub falling) s fun t =>
      t.time.captures = s.time.captures.set c (fifo ++ [⟨s.instant sub, falling⟩]) ∧
      Assoc.get? c t.time.lastEdges = some (s.instant sub) ∧ t.Raised (224 + s.rf cfg 7 3) ∧
      s.RegsKept t (State.evtRegs (224 + s.rf cfg 7 3)) ∧
      t = { s with regs := t.regs, evt := t.evt, time := { s.time with captures := t.time.captures, lastEdges := t.time.lastEdges } }) ∧
    (selected → ¬ close → 16 ≤ fifo.length → Completes (.captureEdge c sub falling) s fun t =>
      t.time.captures = s.time.captures ∧ Assoc.get? c t.time.lastEdges = some (s.instant sub) ∧
      t.counter (cfg + 0x18) = s.counterAfter (cfg + 0x18) 1 ∧ s.RegsKept t [cfg + 0x18] ∧
      t = { s with regs := t.regs, time := { s.time with lastEdges := t.time.lastEdges } }) ∧
    (fifo = [] → Completes (.capturePop c) s fun t => t = { s with readData := 0 }) ∧
    (∀ e r, fifo = e :: r → Completes (.capturePop c) s fun t =>
      t.readData = BitVec.ofNat 32 (State.splitUnits (divEven (e.counts * 62500 : Nat) 3).toNat).1 ∧
      t = { s with readData := t.readData,
                   time := { s.time with captures := s.time.captures.set c r, captured := s.time.captured.set c e } }) ∧
    (s.time.cues = [] → Completes .cuePop s fun t => t = { s with readData := 0 }) ∧
    (∀ e r, s.time.cues = e :: r → Completes .cuePop s fun t =>
      t.readData = BitVec.ofNat 32 (e.ta + b2n e.late * 256 + e.occurrence * 65536 + 2 ^ 31) ∧
      t = { s with readData := t.readData, time := { s.time with cues := r } })

/-! ## The network, PRP, keys, the tunnel and streams -/

/-- A retrain or a failed training takes the link down and trains again; a training that ends well brings the link up with its
polarity; a retry inverts the polarity tried (R343, R344). A gate list waits for its cycle start, then becomes operational
with event 90, and each interval's end goes to the next entry or the next cycle (R348). Where its event is not due a command
changes nothing (the model's choice: log entry 2). -/
def Obligations.LinksTrainAndGateListsRun : Prop :=
  ∀ (s : State) (n : Nat), n < 2 →
    let p := s.netPort n
    let regsNet (t : State) : Prop := t = { s with regs := t.regs, evt := t.evt, net := { s.net with ports := t.net.ports } }
    let down (t : State) : Prop :=
      t.bitOf (Reg.NET_STATUS n) 0 = false ∧
      (s.netLinkUp n = true → t.counter (Reg.NET_LINK_DOWNS n) = s.counterAfter (Reg.NET_LINK_DOWNS n) 1 ∧
        t.bitOf (Reg.NET_STICKY n) 0 = true ∧ t.Raised (80 + n)) ∧
      t.net.ports = s.net.ports.set n { p with training := true, invertedTry := false } ∧
      s.RegsKept t ([Reg.NET_STATUS n, Reg.NET_LINK_DOWNS n, Reg.NET_STICKY n] ++ State.evtRegs (80 + n)) ∧ regsNet t
    let moved (t : State) (u : Nat) : Prop := t.now = max s.now (divEven ((u : Int) * 3) 62500).toNat ∧
      t = { s with regs := t.regs, evt := t.evt, now := t.now, uptime := t.uptime, net := { s.net with ports := t.net.ports }, outbox := t.outbox }
    Completes (.retrain n) s (fun t => down t ∧ t.bitOf (Reg.NET_STATUS n) 1 = false) ∧
    Completes (.linkTrainingDone n false) s down ∧
    (p.training = true → s.netEnabled n = true → s.netRefOk n = true → Completes (.linkTrainingDone n true) s fun t =>
      t.bitOf (Reg.NET_STATUS n) 0 = true ∧ t.bitOf (Reg.NET_STATUS n) 1 = p.invertedTry ∧ t.Raised (80 + n) ∧
      (p.invertedTry = true → t.Raised 82) ∧ t.net.ports = s.net.ports.set n { p with training := false } ∧
      t.net.prpTrained.contains n = true ∧ s.RegsKept t (Reg.NET_STATUS n :: (State.evtRegs (80 + n) ++ State.evtRegs 82)) ∧
      t = { s with regs := t.regs, evt := t.evt, net := { s.net with ports := t.net.ports, prpTrained := t.net.prpTrained, prp := t.net.prp } }) ∧
    (p.training = false ∨ s.netEnabled n = false ∨ s.netRefOk n = false → Completes (.linkTrainingDone n true) s fun t => t = s) ∧
    (p.training = true → Completes (.polarityRetry n) s fun t =>
      t = { s with net := { s.net with ports := s.net.ports.set n { p with invertedTry := !p.invertedTry } } }) ∧
    (p.training = false → Completes (.polarityRetry n) s fun t => t = s) ∧
    Completes (.gclApply n) s (fun t =>
      t.bitOf (Reg.NET_STATUS n) 2 = true ∧
      (let start := State.cycleAtOrAfter (s.gclBase n) (State.netNs (s.rd (Reg.NET_GCL_CYCLE n)).toNat) s.nowUnits
       t.net.ports = s.net.ports.set n { p with gclStart := some start }) ∧
      s.RegsKept t [Reg.NET_STATUS n] ∧ regsNet t) ∧
    (∀ start, p.gclStart = some start → s.unitsDue start = true → Completes (.gclActivate n) s fun t =>
      t.bitOf (Reg.NET_STATUS n) 2 = false ∧ t.Raised 90 ∧ (∀ k < 64, t.rd (Reg.NET_GCL_OPER n k) = s.rd (Reg.NET_GCL_ADMIN n k)) ∧
      (∀ q, t.net.ports[n]? = some q → q.gclStart = none ∧
        ∀ g, q.gcl = some g → g.cycleStart = start ∧ g.index = 0 ∧ g.base = s.gclBase n) ∧ moved t start) ∧
    (p.gclStart = none → Completes (.gclActivate n) s fun t => t = s) ∧
    (∀ start, p.gclStart = some start → s.unitsDue start = false → Completes (.gclActivate n) s fun t => t = s) ∧
    (∀ g, p.gcl = some g → s.unitsDue g.entryEnd = true → 0 < g.cycle → Completes (.gateIntervalEnd n) s fun t =>
      (∀ q, t.net.ports[n]? = some q → ∃ h, q.gcl = some h ∧ h.entries = g.entries ∧ h.cycle = g.cycle ∧
        (g.cycleStart + g.cycle ≤ g.entryEnd → h.cycleStart = g.cycleStart + g.cycle ∧ h.index = 0) ∧
        (g.entryEnd < g.cycleStart + g.cycle → h.cycleStart = g.cycleStart ∧ h.index = g.index + 1)) ∧ moved t g.entryEnd) ∧
    (∀ g, p.gcl = some g → s.unitsDue g.entryEnd = false ∨ g.cycle = 0 → Completes (.gateIntervalEnd n) s fun t => t = s) ∧
    (p.gcl = none → Completes (.gateIntervalEnd n) s fun t => t = s)

/-- A received frame is counted, and goes where its addresses and ports say, once; a frame with a bad check sequence, too
long, of another VLAN, or already received on the other network goes nowhere (R345, R346, R351). The node table forgets
sources it has not heard and a flush empties it (R352). The first frame of the highest queue that its gate and its credit let
go departs (R347, R349). Where its event is not due a command changes nothing (the model's choice: log entry 2). The model's
own choices in it are those of log entry 29. -/
def Obligations.FramesAreReceivedAndSent : Prop :=
  ∀ (s : State) (n : Nat) (b : List Byte), n < 2 →
    let got := s.count (Reg.NET_RX_FRAMES n)
    let f := State.parseFrame b
    let fits : Prop := b.length + 4 ≤ (if s.bitOf (Reg.NET_CFG0 n) 4 then 9216 else 1522) ∧
      (f.vid = none ∨ f.vid = some 0 ∨ f.vid = some (s.rf (Reg.NET_CFG0 n) 27 16))
    let sorted (t : State) (d : RxDest) : Prop := t = { got with net := { s.net with lastDest := some d } }
    (s.netLinkUp n = false → ∀ ok, Completes (.netFrameReceive n b ok) s fun t => t = s) ∧
    (s.netLinkUp n = true → Completes (.netFrameReceive n b false) s fun t => t = s.count (Reg.NET_RX_ERRORS n)) ∧
    (s.netLinkUp n = true → ¬ fits → Completes (.netFrameReceive n b true) s (sorted · .dropped)) ∧
    (s.netLinkUp n = true → fits → s.net.prp = true → (got.prpAccept n b).2 = false → Completes (.netFrameReceive n b true) s fun t =>
      t.net.lastDest = some .duplicate ∧ t.counter (Reg.NET_RX_FRAMES n) = s.counterAfter (Reg.NET_RX_FRAMES n) 1 ∧
      t.net.ports = s.net.ports ∧ t = { s with regs := t.regs, evt := t.evt, net := t.net }) ∧
    (s.netLinkUp n = true → fits → s.net.prp = false →
      (got.sortFrame n f = .firmware → Completes (.netFrameReceive n b true) s fun t =>
        t.net.ports = s.net.ports.set n { s.netPort n with fwQueue := (s.netPort n).fwQueue ++ [b] } ∧
        t = { got with net := { s.net with lastDest := some .firmware, ports := t.net.ports } }) ∧
      (got.sortFrame n f = .fwOverflow → Completes (.netFrameReceive n b true) s fun t =>
        t.counter (Reg.NET_RX_DROPS n) = s.counterAfter (Reg.NET_RX_DROPS n) 1 ∧ t.Raised 91 ∧
        t = { s with regs := t.regs, evt := t.evt, net := { s.net with lastDest := some .fwOverflow } }) ∧
      (got.sortFrame n f ≠ .firmware → got.sortFrame n f ≠ .fwOverflow →
        Completes (.netFrameReceive n b true) s (sorted · (got.sortFrame n f)))) ∧
    (s.net.prp = true → s.rf Reg.HOST_STATUS 1 0 = 2 → Completes .prpSupervision s fun t => t = s.emit .prpSupervision) ∧
    (s.net.prp = false ∨ s.rf Reg.HOST_STATUS 1 0 ≠ 2 → Completes .prpSupervision s fun t => t = s) ∧
    Completes .prpFlush s (fun t =>
      t.net = { s.net with nodes := [] } ∧ t.rf Reg.NETC_STATUS 8 0 = 0 ∧ t.bitOf Reg.NETC_STATUS 9 = false ∧
      s.RegsKept t [Reg.NETC_STATUS] ∧ t = { s with regs := t.regs, net := t.net }) ∧
    Completes .prpForget s (fun t =>
      t.net.nodes = s.net.nodes.filter (fun e => decide (s.uptime - e.heard < s.rf Reg.NETC_PRP_CFG 15 0 * countsPerSecond)) ∧
      t.rf Reg.NETC_STATUS 8 0 = t.net.nodes.length % 512 ∧ s.RegsKept t (Reg.NETC_STATUS :: State.evtRegs 86) ∧
      t = { s with regs := t.regs, evt := t.evt, net := { s.net with nodes := t.net.nodes } }) ∧
    (s.netLinkUp n = false → Completes (.txFrameDepart n) s fun t => t = s) ∧
    (s.netLinkUp n = true →
      let m := (s.bringCredit n).markHeld n
      ([7, 6, 5, 4, 3, 2, 1, 0].find? (m.queueReady n) = none → Completes (.txFrameDepart n) s fun t => t = m) ∧
      (∀ q x r, [7, 6, 5, 4, 3, 2, 1, 0].find? (m.queueReady n) = some q → (m.netPort n).queues.getD q [] = x :: r →
        Completes (.txFrameDepart n) s fun t =>
          t.outbox = (s.emit (.frame n x)).outbox ∧ t.counter (Reg.NET_TX_FRAMES n) = s.counterAfter (Reg.NET_TX_FRAMES n) 1 ∧
          (∀ y, t.net.ports[n]? = some y → y.queues = (m.netPort n).queues.set q r) ∧
          t = { s with regs := t.regs, net := { s.net with ports := t.net.ports }, outbox := t.outbox }))

/-- A write of KEY_CTRL commits the staged words as the key or erases the slot, and restarts its replay window. A tunnel
request is dropped while its queue is full, dropped for its form, refused for its tag or its number, or accepted in order; a
repeated one is answered from the cached reply. Execution takes the oldest one, and a malformed one changes nothing but its
count (R365 to R370). Where its event is not due a command changes nothing (the model's choice: log entry 2). The model's own
choices in it are those of log entries 74, 103, 104, 127. -/
def Obligations.KeysAndTunnelRequests : Prop :=
  ∀ (s : State) (r : TunnelRequest) (k : Nat) (v : Word),
    let b := r.bytes
    let x := s.keySlot (State.tunnelSlot (byteAt b 2))
    let q := beNat b 4 4
    let on : Prop := r.port < 2 ∧ (if r.tcp then s.bitOf Reg.NETC_CTRL 3 = true ∧ s.fwState = 2 else s.bitOf Reg.NETC_CTRL 1 = true)
    let formed : Prop := 16 ≤ b.length ∧ b.length ≤ State.tunnelLimit r ∧ byteAt b 0 / 16 = 1 ∧ byteAt b 1 = 1
    let counted (o : Nat) (t : State) : Prop :=
      t.counter o = s.counterAfter o 1 ∧ s.RegsKept t [o] ∧ s.JustRegs t
    let accepted (w : SeqWindow) (t : State) : Prop :=
      t.net.tunnel = s.net.tunnel ++ [r] ∧ t.counter Reg.NETC_TUN_REQUESTS = s.counterAfter Reg.NETC_TUN_REQUESTS 1 ∧
      (State.tunnelSlot (byteAt b 2) < 16 → t.rd (Reg.NETC_LAST_SEQ (byteAt b 2)) = BitVec.ofNat 32 w.last) ∧
      t.rf Reg.NETC_STATUS 12 10 = s.net.tunnel.length + 1 ∧
      t = { s with regs := t.regs, net := { s.net with tunnel := t.net.tunnel, slots := t.net.slots } }
    (k < 16 → Completes (.keyCtrlWrite k v) s fun t =>
      t.net.slots = s.net.slots.set k (if bitAt v 0 then
        { staged := (s.keySlot k).staged, key := some ((s.keySlot k).staged.flatMap fun w => beBytes 4 w.toNat) } else {}) ∧
      t.rd (Reg.NETC_KEY_CTRL k) = v &&& 3 ∧ t.rd (Reg.NETC_LAST_SEQ k) = 0 ∧
      s.RegsKept t [Reg.NETC_KEY_CTRL k, Reg.NETC_LAST_SEQ k] ∧ t = { s with regs := t.regs, net := { s.net with slots := t.net.slots } }) ∧
    (¬ on → Completes (.tunnelRequest r) s fun t => t = s) ∧
    (on → 4 ≤ s.net.tunnel.length → Completes (.tunnelRequest r) s (counted Reg.NETC_TUN_BUSY_DROPS)) ∧
    (on → s.net.tunnel.length < 4 → ¬ formed → Completes (.tunnelRequest r) s (counted Reg.NETC_TUN_DROP_FORMAT)) ∧
    (on → s.net.tunnel.length < 4 → formed → s.tunnelAuth b = false → Completes (.tunnelRequest r) s fun t =>
      t.counter Reg.NETC_TUN_AUTH_FAIL = s.counterAfter Reg.NETC_TUN_AUTH_FAIL 1 ∧ t.Raised 87 ∧
      s.RegsKept t (Reg.NETC_TUN_AUTH_FAIL :: State.evtRegs 87) ∧ s.OnlyRegs t) ∧
    (on → s.net.tunnel.length < 4 → formed → s.tunnelAuth b = true → x.window = none →
      Completes (.tunnelRequest r) s (accepted { last := q, seen := 1 })) ∧
    (on → s.net.tunnel.length < 4 → formed → s.tunnelAuth b = true → ∀ w y, x.window = some w → w.take q = (some y, true) →
      Completes (.tunnelRequest r) s (accepted y)) ∧
    (on → s.net.tunnel.length < 4 → formed → s.tunnelAuth b = true → ∀ w, x.window = some w → (w.take q).2 = false →
      ¬ (w.last = q ∧ x.lastRequest = b) → Completes (.tunnelRequest r) s fun t =>
        t.counter Reg.NETC_TUN_REPLAY = s.counterAfter Reg.NETC_TUN_REPLAY 1 ∧ t.Raised 88 ∧ s.OnlyRegs t) ∧
    (on → s.net.tunnel.length < 4 → formed → s.tunnelAuth b = true → ∀ w, x.window = some w → (w.take q).2 = false →
      w.last = q → x.lastRequest = b → x.lastReply ≠ [] → Completes (.tunnelRequest r) s fun t =>
        t.counter Reg.NETC_TUN_REPLAYS_ANSWERED = s.counterAfter Reg.NETC_TUN_REPLAYS_ANSWERED 1 ∧ t.net.tunnel = s.net.tunnel) ∧
    (s.net.tunnel = [] → s.Canonical → Completes .tunnelExecute s fun t => t = s) ∧
    (∀ req rest, s.net.tunnel = req :: rest →
      (let n := beNat req.bytes 8 2
       n = 0 ∨ 64 < n → s.Canonical → Completes .tunnelExecute s fun t =>
        t.net.tunnel = rest ∧ t.counter Reg.NETC_TUN_MALFORMED = s.counterAfter Reg.NETC_TUN_MALFORMED 1 ∧ t.now = s.now ∧
        s.SameBytes t) ∧
      (let m := req.bytes
       let tag := if byteAt m 2 = 0xFF then 0 else 32
       ∀ l, 1 ≤ beNat m 8 2 → beNat m 8 2 ≤ 64 → parseOps (beNat m 8 2) ((m.take (m.length - tag)).drop 16) = some l →
        16 + tag + (l.map (·.replyBytes)).sum ≤ State.tunnelLimit req →
        let z := State.tunnelRun req (decide (byteAt m 2 < 16) && s.bitOf (Reg.NETC_KEY_CTRL (byteAt m 2)) 1)
          (byteAt m 3 % 2 == 1) l false s
        z.1.net.tunnel.head? = some req → Completes .tunnelExecute s fun t =>
          t.net.tunnel = rest ∧ t.pat = z.1.pat ∧ t.time = z.1.time ∧ t.outs = z.1.outs ∧ t.xp = z.1.xp ∧
          t.host = z.1.host ∧ t.now = z.1.now))

/-- A packet of a receive stream is counted, and its samples are kept where it arrives in time, new and well formed; late,
early, duplicate and malformed packets count as such (R355, R357, R359). A stream that goes quiet is reported. Enabling a
stream opens it unless its configuration is refused, and disabling one closes it at the next block (R353, R356). A due
transmit packet is sent once (R362). Where its event is not due a command changes nothing (the model's choice: log entry 2).
The model's own choices in it are those of log entry 29. -/
def Obligations.StreamsOpenReceiveSendAndClose : Prop :=
  ∀ (s : State) (i sub : Nat) (b : List Byte), i < 128 →
    let one (o : Nat) (t : State) : Prop := t.counter o = s.counterAfter o 1 ∧ t.net.rx = s.net.rx
    let netRegs (t : State) : Prop := t = { s with regs := t.regs, evt := t.evt, net := t.net }
    (s.sharesAddress i = false →
      (s.rxsEnabled i = false → Completes (.rtpPacket i sub b) s fun t => t = s) ∧
      (s.rxsEnabled i = true → parseRtp b = none → Completes (.rtpPacket i sub b) s fun t =>
        one (Reg.RXS_FORMAT_ERRORS i) t ∧ netRegs t) ∧
      (s.rxsEnabled i = true → ∀ p, parseRtp b = some p →
        let wrong : Prop := p.pt ≠ s.rf (Reg.RXS_CTRL i) 22 16 ∨ p.payload.length ≠ s.rxsPayload i
        let foreign : Prop := (s.rxs i).locked = true ∧ p.ssrc ≠ (s.rd (Reg.RXS_SSRC i)).toNat
        let n := s.rxsIndex i p.ts
        let lead := s.rxsLead i n (s.instant sub)
        let held : Prop := ∀ f < s.rxsFrames i, (Assoc.get? (n.toNat + f) (s.rxs i).buffer).isSome = true
        (wrong → Completes (.rtpPacket i sub b) s fun t => one (Reg.RXS_FORMAT_ERRORS i) t ∧ netRegs t) ∧
        (¬ wrong → foreign → Completes (.rtpPacket i sub b) s fun t =>
          t.counter (Reg.RXS_FORMAT_ERRORS i) = s.counterAfter (Reg.RXS_FORMAT_ERRORS i) 1) ∧
        (¬ wrong → ¬ foreign → lead ≤ 0 ∨ n < 0 → Completes (.rtpPacket i sub b) s fun t => one (Reg.RXS_LATE i) t ∧ netRegs t) ∧
        (¬ wrong → ¬ foreign → 0 ≤ n → 0 < lead → 20000000 * countsPerSecond * s.rxsHz i < lead →
          Completes (.rtpPacket i sub b) s fun t => one (Reg.RXS_EARLY i) t ∧ s.RegsKept t [Reg.RXS_EARLY i] ∧ s.JustRegs t) ∧
        (¬ wrong → ¬ foreign → 0 ≤ n → 0 < lead → lead ≤ 20000000 * countsPerSecond * s.rxsHz i → held →
          Completes (.rtpPacket i sub b) s fun t => one (Reg.RXS_DUPLICATES i) t ∧ s.RegsKept t [Reg.RXS_DUPLICATES i] ∧ s.JustRegs t) ∧
        (¬ wrong → ¬ foreign → 0 ≤ n → 0 < lead → lead ≤ 20000000 * countsPerSecond * s.rxsHz i → ¬ held →
          Completes (.rtpPacket i sub b) s fun t =>
            t.counter (Reg.RXS_PACKETS i) = s.counterAfter (Reg.RXS_PACKETS i) 1 ∧ t.bitOf (Reg.RXS_STATUS i) 0 = true ∧
            t.rd (Reg.RXS_SSRC i) = BitVec.ofNat 32 p.ssrc ∧ (t.rxs i).lastAccept = s.uptime ∧ (t.rxs i).locked = true ∧
            s.RegsKept t [Reg.RXS_PACKETS i, Reg.RXS_STATUS i, Reg.RXS_SSRC i, Reg.RXS_LOST i] ∧
            t = { s with regs := t.regs, net := { s.net with rx := t.net.rx } }))) ∧
    (let quiet := max (8 * s.rxsFrames i * countsPerSecond / s.rxsHz i) (countsPerSecond / 250)
     let lost : Prop := s.rxsEnabled i = true ∧ s.bitOf (Reg.RXS_STATUS i) 0 = true ∧ quiet ≤ s.uptime - (s.rxs i).lastAccept
     (lost → Completes (.rxStreamLost i) s fun t =>
        t.bitOf (Reg.RXS_STATUS i) 0 = false ∧ t.Raised 83 ∧ s.RegsKept t (Reg.RXS_STATUS i :: State.evtRegs 83) ∧ s.OnlyRegs t) ∧
     (¬ lost → Completes (.rxStreamLost i) s fun t => t = s)) ∧
    (s.rxsEnabled i = true → Completes (.rxsEnable i) s fun t => t = s) ∧
    (s.rxsEnabled i = false → s.rxsRefused i = true → Completes (.rxsEnable i) s fun t =>
      t.bitOf (Reg.RXS_STICKY i) 0 = true ∧ s.RegsKept t [Reg.RXS_STICKY i] ∧ s.JustRegs t) ∧
    (s.rxsEnabled i = false → s.rxsRefused i = false → Completes (.rxsEnable i) s fun t =>
      t.rxsEnabled i = true ∧ t.bitOf (Reg.RXS_STATUS i) 1 = true ∧ (t.rxs i).buffer = [] ∧ (t.rxs i).lastAccept = s.uptime ∧
      (∀ c < s.rxsChannels i, (t.chan (s.rxsFirst i + c)).restart.isSome = true) ∧
      t = { s with regs := t.regs, net := t.net, cond := t.cond, mtx := t.mtx }) ∧
    (s.rxsEnabled i = false → Completes (.rxsDisable i) s fun t => t = s) ∧
    (s.rxsEnabled i = true → Completes (.rxsDisable i) s fun t =>
      t.rxsEnabled i = false ∧ t.rd (Reg.RXS_STATUS i) = 0 ∧ (t.rxs i).closing = some (s.block + 1) ∧
      (∀ c < s.rxsChannels i, (t.chan (s.rxsFirst i + c)).muteFrom = some (s.block + 1)) ∧
      t = { s with regs := t.regs, net := t.net, cond := t.cond, mtx := t.mtx }) ∧
    (s.txsEnabled i = true → Completes (.txsEnable i) s fun t => t = s) ∧
    (s.txsEnabled i = false → s.txsRefused i = true → Completes (.txsEnable i) s fun t =>
      t.bitOf (Reg.TXS_STICKY i) 0 = true ∧ s.RegsKept t [Reg.TXS_STICKY i] ∧ s.JustRegs t) ∧
    (s.txsEnabled i = false → s.txsRefused i = false → Completes (.txsEnable i) s fun t =>
      t.txsEnabled i = true ∧ t.bitOf (Reg.TXS_STATUS i) 0 = true ∧
      t.net = { s.net with tx := Assoc.put i { next := s.txsFirstPacket i } s.net.tx } ∧
      s.RegsKept t [Reg.TXS_CTRL i, Reg.TXS_STATUS i] ∧ t = { s with regs := t.regs, net := t.net }) ∧
    (let u := s.outputStep
     (u.rootUnlocked = true ∨ (u.txDue (State.oldStream i) = none ∧ u.txDue i = none) → Completes (.txPacketSend i) s fun t => t = u) ∧
     (∀ k, u.rootUnlocked = false → u.txDue (State.oldStream i) = none → u.txDue i = some k →
       u.packetWithheld (((k + 1) * u.txsTicks i - 1 - 72) / 32) = false → Completes (.txPacketSend i) s fun t =>
         t.counter (Reg.TXS_PACKETS i) = u.counterAfter (Reg.TXS_PACKETS i) 1 ∧
         (∀ x, Assoc.get? i t.net.tx = some x → x.next = k + 1) ∧ t.now = s.now ∧ t.outs = u.outs))

/-! ## TDM ports -/

/-- Enabling a TDM port with a good configuration starts it ACQUIRING with its channels restarted; a bad one is refused;
disabling it closes the slots (R376, R391). Masks written come into force together, with a new epoch (R388). A port without
frames stalls, one whose rate is wrong or whose channels are swapped unlocks, and one that is ready runs from the next block
boundary (R384, R385). Where its event is not due a command changes nothing (the model's choice: log entry 2). The model's own
choices in it are those of log entry 62. -/
def Obligations.TdmPortsStartMaskStallAndRun : Prop :=
  ∀ (s : State) (n : Nat) (v : Word), n < 32 →
    let w := setFld v 0 0 1 &&& 0x3FFFF
    let p := s.tdmPort n
    let frame (t : State) : Prop := t = { s with regs := t.regs, evt := t.evt, tdm := t.tdm } ∧ ∀ m, m ≠ n → t.tdmPort m = s.tdmPort m
    let running : Prop := s.phase = 0 ∧ s.tdmReady n = true
    (s.tdmEnabled n = true → Completes (.tdmEnable n v) s fun t => t = s) ∧
    (s.tdmEnabled n = false → s.tdmRefused n w = true → Completes (.tdmEnable n v) s fun t =>
      t.rd (Reg.TDM_CFG0 n) = setFld w 0 0 0 ∧ t.bitOf (Reg.TDM_STICKY n) 7 = true ∧ frame t) ∧
    (s.tdmEnabled n = false → s.tdmRefused n w = false → Completes (.tdmEnable n v) s fun t =>
      t.rd (Reg.TDM_CFG0 n) = w ∧ t.rf (Reg.TDM_STATUS n) 6 0 = 1 ∧ t.rd (Reg.TDM_FRAME_COUNT n) = 0 ∧
      (t.tdmPort n).valid = 0 ∧ (t.tdmPort n).rxFifo = [] ∧ (t.tdmPort n).lastValid = s.tick ∧
      (∀ k < t.tdmRange n, (t.chan (1024 + 16 * n + k)).restart.isSome = true) ∧
      t = { s with regs := t.regs, cond := t.cond, tdm := t.tdm }) ∧
    (s.tdmEnabled n = true → Completes (.tdmDisable n) s fun t =>
      t.tdmEnabled n = false ∧ (t.tdmPort n).shape = (match p.shape with | .silent => .closing 32 | _ => .closing 0) ∧
      s.RegsKept t [Reg.TDM_CFG0 n] ∧ frame t) ∧
    (s.tdmEnabled n = false → Completes (.tdmDisable n) s fun t =>
      t.rd (Reg.TDM_CFG0 n) = setFld (s.rd (Reg.TDM_CFG0 n)) 0 0 0 &&& 0x3FFFF ∧ s.RegsKept t [Reg.TDM_CFG0 n] ∧ s.JustRegs t) ∧
    (p.maskAt = none → Completes (.maskApply n) s fun t => t = s) ∧
    (p.maskAt ≠ none → Completes (.maskApply n) s fun t =>
      t.inForce (Reg.TDM_RX_MASK n) = s.rd (Reg.TDM_RX_MASK n) ∧ t.inForce (Reg.TDM_TX_MASK n) = s.rd (Reg.TDM_TX_MASK n) ∧
      t.rf (Reg.TDM_MASK_EPOCH n) 15 0 = (s.rf (Reg.TDM_MASK_EPOCH n) 15 0 + 1) % 65536 ∧ t.bitOf (Reg.TDM_STATUS n) 7 = false ∧
      t.rd (Reg.TDM_MASK_FRAME n) = s.rd (Reg.TDM_FRAME_COUNT n) + 1 ∧ t.tdm = Assoc.put n { p with maskAt := none } s.tdm ∧
      s.RegsKept t [Reg.TDM_MASK_EPOCH n, Reg.TDM_MASK_FRAME n, Reg.TDM_STATUS n] ∧
      t = { s with regs := t.regs, applied := t.applied, tdm := t.tdm }) ∧
    (bitAt v 0 = true → fld v 31 16 = 0 → Completes (.dmaCfgWrite n v) s fun t => t.bitOf (Reg.TDM_STICKY n) 7 = true ∧ frame t) ∧
    (bitAt v 0 = false ∨ fld v 31 16 ≠ 0 → Completes (.dmaCfgWrite n v) s fun t =>
      t.rd (Reg.TDM_DMA_CFG n) = v &&& 0xFFFF0001 ∧ s.RegsKept t [Reg.TDM_DMA_CFG n] ∧ s.JustRegs t) ∧
    (let stalls : Prop := s.tdmEnabled n = true ∧ s.tdmMaster n = false ∧ s.tdmState n ≠ 3 ∧ p.lastValid + 4 * s.tdmStep n ≤ s.tick
     (stalls → Completes (.tdmStall n) s fun t =>
       t.tdmState n = 3 ∧ t.counter (Reg.TDM_STALLS n) = s.counterAfter (Reg.TDM_STALLS n) 1 ∧ t.bitOf (Reg.TDM_STICKY n) 2 = true ∧
       (t.tdmPort n).valid = 0 ∧ frame t) ∧
     (¬ stalls → Completes (.tdmStall n) s fun t => t = s)) ∧
    (∀ err swapped, s.tdmEnabled n = false ∨ s.tdmMaster n = true → Completes (.tdmRateWindow n err swapped) s fun t => t = s) ∧
    (∀ err, s.tdmEnabled n = true → s.tdmMaster n = false → err.natAbs ≤ 10000 * 65536 → Completes (.tdmRateWindow n err false) s fun t =>
      t.rd (Reg.TDM_RATE_ERR n) = satWord err ∧ t.tdm = Assoc.put n { p with rateOk := true } s.tdm ∧
      s.RegsKept t [Reg.TDM_RATE_ERR n] ∧ t = { s with regs := t.regs, tdm := t.tdm }) ∧
    (∀ err swapped, s.tdmEnabled n = true → s.tdmMaster n = false → 10000 * 65536 < err.natAbs ∨ swapped = true →
      Completes (.tdmRateWindow n err swapped) s fun t =>
        t.rd (Reg.TDM_RATE_ERR n) = satWord err ∧ (t.tdmPort n).rateOk = false ∧ t.tdmState n = (if s.tdmState n = 3 then 3 else 4) ∧
        (s.tdmState n ≠ 3 → (t.tdmPort n).needed = 256 ∧ t.bitOf (Reg.TDM_STICKY n) (if swapped then 4 else 3) = true) ∧ frame t) ∧
    (running → Completes (.tdmRunning n) s fun t =>
      t.tdmState n = 2 ∧ (s.tdmMaster n = false →
        (t.tdmPort n).rxFifo = p.rxFifo.drop (p.rxFifo.length - 4) ∧ (t.tdmPort n).txFifo.length = 4 ∧ (t.tdmPort n).shape = .rampIn 0 ∧
        t.bitOf (Reg.TDM_STATUS n) 3 = false) ∧ frame t) ∧
    (¬ running → Completes (.tdmRunning n) s fun t => t = s)

/-- A frame that a slave port receives is counted; one of a wrong length is bad and restarts the count of valid frames, and a
good one joins the receive FIFO, which holds eight (R382, R387). A frame tick of the device side runs once a frame: a master
port counts and sends its frame, and a running slave port takes one frame from its receive FIFO and gives one to its transmit
FIFO (R380, R381). Where its event is not due a command changes nothing (the model's choice: log entry 2). The model's own
choices in it are those of log entries 6, 63. -/
def Obligations.TdmFramesPassTheFifos : Prop :=
  ∀ (s : State) (n : Nat) (wire : List Nat) (bclks : Nat) (matched : Bool), n < 32 →
    let u := s.outputStep
    let quiet : Prop := (u.tdmMaster n = true ∧ u.rootUnlocked = true) ∨ u.tdmState n = 0 ∨ u.tick % u.tdmStep n ≠ 0 ∨
      u.ticked.tdmTick.contains n = true
    (s.tdmState n = 0 ∨ s.tdmMaster n = true → s.Canonical → Completes (.tdmFrameReceive n wire bclks matched) s fun t => t = s) ∧
    (s.tdmState n ≠ 0 → s.tdmMaster n = false → Completes (.tdmFrameReceive n wire bclks matched) s fun t =>
      t.rd (Reg.TDM_FRAME_COUNT n) = s.rd (Reg.TDM_FRAME_COUNT n) + 1 ∧
      (bclks ≠ s.tdmSlots n * s.tdmBits n → (t.tdmPort n).valid = 0 ∧
        t.counter (Reg.TDM_BAD_FRAMES n) = s.counterAfter (Reg.TDM_BAD_FRAMES n) 1 ∧ t.bitOf (Reg.TDM_STICKY n) 1 = true) ∧
      (bclks = s.tdmSlots n * s.tdmBits n → (t.tdmPort n).valid = (s.tdmPort n).valid + 1 ∧ (t.tdmPort n).lastValid = s.tick ∧
        (t.tdmPort n).rxFifo.length ≤ 8 ∧ t.counter (Reg.TDM_BAD_FRAMES n) = s.counter (Reg.TDM_BAD_FRAMES n)) ∧
      (s.tdmState n = 1 ∨ s.tdmState n = 2 ∨ s.tdmState n = 4 → t.outbox.length = s.outbox.length + 1) ∧
      (∀ m, m ≠ n → t.tdmPort m = s.tdmPort m) ∧
      t = { s with dram := t.dram, regs := t.regs, evt := t.evt, tdm := t.tdm, mtx := t.mtx, applied := t.applied, outbox := t.outbox }) ∧
    (quiet → s.Canonical → Completes (.tdmDeviceFrameTick n wire matched) s fun t => t = u) ∧
    (¬ quiet → (∀ i, (u.tdmPort n).shape ≠ .closing i) → Completes (.tdmDeviceFrameTick n wire matched) s fun t =>
      t.ticked.tdmTick = n :: u.ticked.tdmTick ∧
      (u.tdmMaster n = true → t.rd (Reg.TDM_FRAME_COUNT n) = u.rd (Reg.TDM_FRAME_COUNT n) + 1 ∧ t.outbox.length = u.outbox.length + 1) ∧
      (u.tdmMaster n = false → u.tdmState n = 2 →
        (t.tdmPort n).rxFifo = (u.tdmPort n).rxFifo.drop 1 ∧ (t.tdmPort n).txFifo.length = min 8 ((u.tdmPort n).txFifo.length + 1)))

/-! ## Frenus Link -/

/-- A retrain takes a link down and forgets its neighbour (R397). Each tick an enabled link that is up sends one frame, and it
takes a frame that its check word and its sections agree with; others are counted (R398 to R400). Imports hold what is written
unless two sources would meet (R407). Where its event is not due a command changes nothing (the model's choice: log entry 2).
The model's own choices in it are those of log entries 65, 66, 70. -/
def Obligations.LinkFramesAndImports : Prop :=
  ∀ (s : State) (n : Nat), n < s.dev.part.casPorts →
    (s.casUp n = false → Completes (.casRetrain n) s fun t => t = s) ∧
    (s.casUp n = true → Completes (.casRetrain n) s fun t =>
      t.casUp n = false ∧ t.bitOf (Reg.CAS_STATUS n) 2 = false ∧ t.bitOf (Reg.CAS_STICKY n) 0 = true ∧
      t.counter (Reg.CAS_LINK_DOWNS n) = s.counterAfter (Reg.CAS_LINK_DOWNS n) 1 ∧ t.Raised 160 ∧
      t.cas = { s.cas with ports := s.cas.ports.set n {} } ∧
      s.RegsKept t ([Reg.CAS_STATUS n, Reg.CAS_STICKY n, Reg.CAS_LINK_DOWNS n] ++ State.evtRegs 160) ∧
      t = { s with regs := t.regs, evt := t.evt, cas := t.cas }) ∧
    (∀ d, let u := s.outputStep
      let sends : Prop := u.casEnabled n = true ∧ u.casUp n = true ∧ u.ticked.casSent.contains n = false ∧ u.rootUnlocked = false
      (¬ sends → Completes (.casFrameSend n d) s fun t => t = u) ∧
      (sends → Completes (.casFrameSend n d) s fun t =>
        let h := 1 + u.casId * 2 ^ 4 + u.tick % 2 ^ 32 * 2 ^ 24
        (∃ blocks, t.outbox = (u.emit (.cas n h blocks (casCrc h blocks))).outbox) ∧
        t.counter (Reg.CAS_FRAMES_TX n) = u.counterAfter (Reg.CAS_FRAMES_TX n) 1 ∧ t.ticked.casSent = n :: u.ticked.casSent ∧
        u.RegsKept t [Reg.CAS_FRAMES_TX n, Reg.CAS_META_FWD])) ∧
    (∀ h blocks crc sub,
      (s.casEnabled n = false ∨ s.casUp n = false → Completes (.casFrameReceive n h blocks crc sub) s fun t => t = s) ∧
      (s.casEnabled n = true → s.casUp n = true → crc ≠ casCrc h blocks → Completes (.casFrameReceive n h blocks crc sub) s fun t =>
        t.counter (Reg.CAS_CRC_ERRORS n) = s.counterAfter (Reg.CAS_CRC_ERRORS n) 1 ∧ t.bitOf (Reg.CAS_STICKY n) 1 = true ∧
        t.cas.ports = s.cas.ports ∧ s.RegsKept t ([Reg.CAS_CRC_ERRORS n, Reg.CAS_STICKY n] ++ State.evtRegs 163) ∧
        t = { s with regs := t.regs, evt := t.evt, cas := t.cas }) ∧
      (s.casEnabled n = true → s.casUp n = true → crc = casCrc h blocks →
        natField h 3 0 ≠ 1 ∨ parseSections (blocks.length + 1) blocks = none →
        Completes (.casFrameReceive n h blocks crc sub) s fun t => t = s.count (Reg.CAS_BAD_SECTIONS n)) ∧
      (s.casEnabled n = true → s.casUp n = true → crc = casCrc h blocks → natField h 3 0 = 1 →
        parseSections (blocks.length + 1) blocks = some [] →
        Completes (.casFrameReceive n h blocks crc sub) s fun t => t = s.count (Reg.CAS_FRAMES_RX n)) ∧
      (∀ x, s.casEnabled n = true → s.casUp n = true → crc = casCrc h blocks → natField h 3 0 = 1 →
        parseSections (blocks.length + 1) blocks = some [x] → x.type = 2 → x.words.getD 0 0 < 2 ^ 64 →
        Completes (.casFrameReceive n h blocks crc sub) s fun t =>
          t.counter (Reg.CAS_FRAMES_RX n) = s.counterAfter (Reg.CAS_FRAMES_RX n) 1 ∧
          t.rd64 (Reg.CAS_NEIGHBOUR_LO n) = x.words.getD 0 0 ∧
          (let port : CasPort := { s.casPort n with hello := some (x.words.getD 0 0), helloAt := s.block, neighbour := natField h 15 4 }
           t.cas = { s.cas with ports := s.cas.ports.set n port }) ∧
          t = { s with regs := t.regs, evt := t.evt, cas := t.cas })) ∧
    (∀ r v, r < 1024 →
      let w : Word := v &&& 0xC03FFFFF
      let meets : Prop := bitAt w 31 = true ∧
        ((∃ i < 128, s.rxsEnabled i = true ∧ s.rf (Reg.RXS_FORMAT i) 25 16 ≤ r ∧
            r < s.rf (Reg.RXS_FORMAT i) 25 16 + s.rf (Reg.RXS_FORMAT i) 6 0) ∨
          ∃ e ∈ s.imports, e.1 ≠ r ∧ fld e.2 21 0 = fld w 21 0)
      (meets → Completes (.importWrite r v) s fun t => t = s) ∧
      (¬ meets → Completes (.importWrite r v) s fun t =>
        t.rd (Reg.CAS_IMPORT r) = w ∧ s.RegsKept t [Reg.CAS_IMPORT r] ∧
        t.cas = (if bitAt w 31 then s.cas else { s.cas with link := Assoc.del r s.cas.link }) ∧
        t = { s with regs := t.regs, cas := t.cas }))

/-- A member forwards the sums of the present block once, feed by feed, towards the sink (R410). Without its master for
LOSS_CFG blocks it reports the loss, and the backup takes over (R413); a backup that has been offered its master back for a
second yields (R414). Where its event is not due a command changes nothing (the model's choice: log entry 2). The model's own
choices in it are those of log entry 69. -/
def Obligations.MixForwardAndMasterLoss : Prop :=
  ∀ s : State,
    let forwards : Prop := s.casMember = true ∧ s.isSink = false ∧ s.upPort.isSome = true ∧ s.block ≠ 0
    let f := if s.cas.sentBlock = s.block - 1 then s.cas.sentFeed else 0
    let lost : Prop := s.casMember = true ∧ s.isMaster = false ∧ s.bitOf Reg.CAS_STATE 24 = false ∧
      s.rf Reg.CAS_LOSS_CFG 7 0 ≤ s.cas.lone
    let yields : Prop := s.isMaster = true ∧ s.actingMaster ≠ s.casMaster ∧ 3000 ≤ s.cas.offered
    (¬ forwards → Completes .mixForward s fun t => t = s) ∧
    (forwards → Completes .mixForward s fun t =>
      t.cas.sentBlock = s.block - 1 ∧ t.cas.sentFeed = f + (s.readyFeeds (s.block - 1) (512 - f) f).length ∧
      t.cas = { s.cas with ports := t.cas.ports, sentBlock := t.cas.sentBlock, sentFeed := t.cas.sentFeed } ∧
      t = { s with cas := t.cas }) ∧
    (¬ lost → Completes .masterLoss s fun t => t = s) ∧
    (lost → Completes .masterLoss s fun t =>
      t.bitOf Reg.CAS_STATE 24 = true ∧ t.Raised 166 ∧ t.cas = { s.cas with taking := decide (s.casId = s.casBackup) || s.cas.taking } ∧
      t = { s with regs := t.regs, evt := t.evt, time := t.time, cas := t.cas }) ∧
    (¬ yields → Completes .backupYield s fun t => t = s) ∧
    (yields → Completes .backupYield s fun t => t = { s with cas := { s.cas with yielding := true } })

/-! ## Hedge pairs -/

/-- How a Hedge unit's role moves. A handover starts at its block by command, or at the revert time, and is refused where its
rule says; a lost peer turns the unit ASKING; a query is repeated while no verdict has come; a verdict and the end of the wait
settle who holds (R422, R424, R426, R428, R436). Where its event is not due a command changes nothing (the model's choice: log
entry 2). The model's own choices in it are those of log entry 72. -/
def Obligations.HedgeRolesMoveByTheirRules : Prop :=
  ∀ s : State, s.dev.part.hasHedge = true →
    let v := s.rd64 Reg.HEDGE_HANDOVER_BLOCK_LO
    let mayTransfer : Prop := s.hedgeOn = true ∧ s.hedgeRole = 2 ∧ s.hedgePeer = 1 ∧ s.peerFlag 0 = true ∧
      s.rf Reg.HEDGE_STATUS 10 9 = 0 ∧ s.peerFlag 2 = false ∧ s.peerFlag 3 = false ∧ (v = 0 ∨ s.block + 6 ≤ v)
    let refused (c : Instr) : Prop := Completes c s fun t =>
      t.bitOf Reg.HEDGE_STATUS 16 = true ∧ s.RegsKept t [Reg.HEDGE_STATUS] ∧ s.JustRegs t
    let handed (t : State) (h : Nat) : Prop :=
      t.hedge = { s.hedge with handover := some h, echoed := false } ∧ t.bitOf Reg.HEDGE_STATUS 15 = true ∧
      s.RegsKept t [Reg.HEDGE_STATUS] ∧ t = { s with regs := t.regs, hedge := t.hedge }
    let missing : Prop := s.rf Reg.HEDGE_CFG 7 0 ≤ s.hedge.missing
    let asking (q : HedgeQuery) : Prop := s.hedgeOn = true ∧ s.hedgeRole = 3 ∧ s.hedge.verdict = none ∧ s.hedge.query = some q
    let settled (t : State) (holder : Bool) (basis : Nat) : Prop :=
      t.hedgeRole = (if holder then 2 else 1) ∧ t.rf Reg.HEDGE_STATUS 6 4 = (if holder then basis else 0) ∧
      t.hedge = { s.hedge with query := none, verdict := none, drives := false, yielding := false, noHolder := 0 } ∧
      (holder = true → s.hedgeDrives = false → t.counter Reg.HEDGE_TAKEOVERS = s.counterAfter Reg.HEDGE_TAKEOVERS 1 ∧ t.Raised 178) ∧
      (holder = false → s.hedgeDrives = true → t.counter Reg.HEDGE_RELEASES = s.counterAfter Reg.HEDGE_RELEASES 1 ∧ t.Raised 179) ∧
      t = { s with regs := t.regs, evt := t.evt, hedge := t.hedge }
    (mayTransfer → Completes .transfer s fun t => handed t (if v = 0 then s.block + 12 else v) ∧ t.bitOf Reg.HEDGE_STATUS 16 = false) ∧
    (¬ mayTransfer → refused .transfer) ∧
    (s.hedgeOn = false → refused .resync ∧ refused .query) ∧
    (s.hedgeOn = true → Completes .resync s fun t =>
      ∃ u, u = (s.hedgeAccepted).sendResync 4 ∧ t = { s with regs := u.regs, evt := u.evt, net := u.net, hedge := u.hedge }) ∧
    (s.hedgeOn = true → Completes .query s fun t =>
      t.counter Reg.HEDGE_QUERIES = s.counterAfter Reg.HEDGE_QUERIES 1 ∧ t.bitOf Reg.HEDGE_STATUS 16 = false ∧
      t.hedge.nextQuery = s.takeQueryId.2 + 1 ∧ t = { s with regs := t.regs, evt := t.evt, net := t.net, hedge := t.hedge }) ∧
    (s.hedgeOn = false → Completes .peerLost s fun t => t = s) ∧
    (s.hedgeOn = true → s.hedgePeer = 1 → missing ∨ 2 ≤ s.hedge.unhealthy → Completes .peerLost s fun t =>
      t.hedgePeer = 2 ∧ t.hedgeRole = 3 ∧ t.counter Reg.HEDGE_PEER_LOSSES = s.counterAfter Reg.HEDGE_PEER_LOSSES 1 ∧ t.Raised 176 ∧
      t.hedge.handover = none ∧ (s.hedgeRole ≠ 3 → (∃ q, t.hedge.query = some q ∧ q.since = s.uptime) ∧
        t.hedge.drives = decide (s.hedgeRole = 2)) ∧ t = { s with regs := t.regs, evt := t.evt, net := t.net, hedge := t.hedge }) ∧
    (s.hedgeOn = true → s.hedgePeer = 0 → missing → s.hedgeRole ≠ 3 → Completes .peerLost s fun t =>
      t.hedgeRole = 3 ∧ t.hedgePeer = 0 ∧ (∃ q, t.hedge.query = some q ∧ q.since = s.uptime) ∧
      t = { s with regs := t.regs, evt := t.evt, net := t.net, hedge := t.hedge }) ∧
    (¬ missing → s.hedge.unhealthy < 2 → Completes .peerLost s fun t => t = s) ∧
    (∀ q, asking q → q.last + 3 ≤ s.block → Completes .queryRepeat s fun t =>
      t.hedge.query = some { q with last := s.block } ∧ t.hedgeRole = 3 ∧
      t.counter Reg.HEDGE_QUERIES = s.counterAfter Reg.HEDGE_QUERIES 1 ∧
      t = { s with regs := t.regs, evt := t.evt, net := t.net, hedge := t.hedge }) ∧
    ((∀ q, asking q → s.block < q.last + 3) → Completes .queryRepeat s fun t => t = s) ∧
    (∀ q, asking q → q.since + s.arbTimeout ≤ s.uptime → Completes .arbTimeout s fun t =>
      t.counter Reg.HEDGE_ARB_TIMEOUTS = s.counterAfter Reg.HEDGE_ARB_TIMEOUTS 1 ∧ t.Raised 180 ∧
      settled t (decide (s.hedgeOwn < s.hedgeOther)) 3) ∧
    ((∀ q, asking q → s.uptime < q.since + s.arbTimeout) → Completes .arbTimeout s fun t => t = s) ∧
    (∀ who b, s.hedgeOn = true → s.hedgeRole = 3 → s.hedge.verdict = some (who, b) → b ≤ s.block → Completes .verdictApply s fun t =>
      settled t (who == s.hedgeOwn) 2) ∧
    (s.hedge.verdict = none ∨ s.hedgeRole ≠ 3 → Completes .verdictApply s fun t => t = s) ∧
    (∀ since, s.hedge.revertSince = some since → s.mayRevert = true → s.hedge.handover = none →
      since + s.rf Reg.HEDGE_REVERT 11 0 * countsPerSecond ≤ s.uptime → Completes .revertTimer s (handed · (s.block + 12))) ∧
    (s.hedge.revertSince = none ∨ s.mayRevert = false → Completes .revertTimer s fun t => t = s)

/-- A message is dropped and counted where its key, its tag, its form or its number does not hold, and counted as a duplicate
where it has come before; otherwise it acts by its type (R421, R423). The holder issues the updates with the earliest target
as the next epoch (R429). A difference that outlasts a full epoch is reported (R432), and tainted output is withheld (R420).
Where its event is not due a command changes nothing (the model's choice: log entry 2). The model's own choices in it are
those of log entries 72, 73, 74. -/
def Obligations.HedgeMessagesAndEpochs : Prop :=
  ∀ (s : State) (m : List Byte),
    let n := beNat m 12 2
    let sender := beNat m 4 2
    let arbiter : Prop := sender = 0xFFFF
    let authentic : Prop := m.length = 56 + n ∧ n ≤ 1416 ∧ beNat m 2 1 < 16 ∧
      ∃ k, ((s.net.slots[beNat m 2 1]?).getD {}).key = some k ∧ hmacSha256 k (m.take (24 + n)) = m.drop (24 + n)
    let formed : Prop := byteAt m 0 / 16 = 1 ∧ 1 ≤ beNat m 1 1 ∧ beNat m 1 1 ≤ 7 ∧ beNat m 6 2 = s.hedgeOwn ∧
      (arbiter ∨ sender = s.hedgeOther)
    let good (t : Nat) : Prop := s.hedgeOn = true ∧ authentic ∧ formed ∧ beNat m 1 1 = t
    let q := beNat m 8 4
    let first : SeqWindow := { last := q, seen := 1 }
    let e := (s.rd Reg.HEDGE_EPOCH_ISSUED).toNat + 1
    (s.hedgeOn = false → Completes (.hedgeMessage m) s fun t => t = s) ∧
    (s.hedgeOn = true → ¬ (authentic ∧ formed) → Completes (.hedgeMessage m) s fun t =>
      t.counter Reg.HEDGE_AUTH_FAILS = s.counterAfter Reg.HEDGE_AUTH_FAILS 1 ∧ t.hedge = { s.hedge with authRaised := true } ∧
      (s.hedge.authRaised = false → t.Raised 189) ∧ s.RegsKept t (Reg.HEDGE_AUTH_FAILS :: State.evtRegs 189) ∧
      t = { s with regs := t.regs, evt := t.evt, hedge := t.hedge }) ∧
    (∀ w k, good k → (arbiter → s.hedge.arbWin = some w) → (¬ arbiter → s.hedge.peerWin = some w) → w.seenBefore q = true →
      Completes (.hedgeMessage m) s fun t => t = s.count Reg.HEDGE_DUPLICATES) ∧
    (good 4 → arbiter → s.hedge.arbWin = none → Completes (.hedgeMessage m) s fun t =>
      t.counter Reg.HEDGE_VERDICTS = s.counterAfter Reg.HEDGE_VERDICTS 1 ∧ t.hedge.arbWin = some first ∧
      t.hedge.arbAt = some s.uptime ∧
      (∀ k, s.hedge.query = some k → s.hedgeRole = 3 → beNat ((m.drop 24).take n) 0 4 = k.id →
        t.hedge.verdict = some (beNat ((m.drop 24).take n) 4 2, max (beNat ((m.drop 24).take n) 8 8) (s.block + 1))) ∧
      t = { s with regs := t.regs, evt := t.evt, hedge := t.hedge }) ∧
    (good 7 → ¬ arbiter → s.hedge.peerWin = none → s.hedgeRole = 2 → Completes (.hedgeMessage m) s fun t =>
      t = { s with hedge := { s.hedge with peerWin := some first, fullAsked := true } }) ∧
    (good 1 → ¬ arbiter → s.hedge.peerWin = none → Completes (.hedgeMessage m) s fun t =>
      t.hedge.peerWin = some first ∧ t.hedge.heard = true ∧ t.rf Reg.HEDGE_AGES 7 0 = 0 ∧
      (s.hedgeRole ≠ 3 → t.hedgeRole = s.hedgeRole) ∧
      t = { s with regs := t.regs, evt := t.evt, net := t.net, hedge := t.hedge }) ∧
    (s.hedgeOn = false ∨ s.hedgeRole ≠ 2 → Completes .epochIssue s fun t => t = s) ∧
    (s.hedgeOn = true → s.hedgeRole = 2 → ∀ u r, s.hedge.unsent = u :: r → Completes .epochIssue s fun t =>
      let b := r.foldl (fun a x => min a x.target) u.target
      t.rd Reg.HEDGE_EPOCH_ISSUED = BitVec.ofNat 32 e ∧ t.hedge.unsent = s.hedge.unsent.filter (fun x => x.target != b) ∧
      t.hedge.epochs = s.hedge.epochs ++ [(e, b)] ∧ t = { s with regs := t.regs, evt := t.evt, net := t.net, hedge := t.hedge }) ∧
    (s.hedgeOn = true → s.hedgeRole = 2 → s.hedge.unsent = [] → s.hedge.fullAsked = true → Completes .epochIssue s fun t =>
      t.rd Reg.HEDGE_EPOCH_ISSUED = BitVec.ofNat 32 e ∧ t.hedge.fullAsked = false ∧
      t = { s with regs := t.regs, evt := t.evt, net := t.net, hedge := t.hedge }) ∧
    (s.hedge.unsent = [] → s.hedge.fullAsked = false → Completes .epochIssue s fun t => t = s) ∧
    (∀ b, s.hedge.fullAt = some b → s.hedgeOn = true → s.bitOf Reg.HEDGE_STATUS 10 = true → b + 4 ≤ s.block →
      Completes .divergencePersists s fun t =>
        t.hedge = { s.hedge with fullAt := none } ∧ t.Raised 184 ∧ s.RegsKept t (State.evtRegs 184) ∧
        t = { s with regs := t.regs, evt := t.evt, hedge := t.hedge }) ∧
    (s.hedge.fullAt = none ∨ s.bitOf Reg.HEDGE_STATUS 10 = false → Completes .divergencePersists s fun t => t = s) ∧
    (let v := s.markTaint
     let withholds : Prop := v.hedgeOn = true ∧ v.bitOf Reg.HEDGE_STATUS 8 = true ∧ v.hedge.holding = false ∧ v.mayWithhold = true
     (withholds → Completes .withholdStart s fun t =>
       t.hedge = { v.hedge with holding := true } ∧ t.bitOf Reg.HEDGE_STATUS 9 = true ∧ t.Raised 186 ∧
       t = { s with regs := t.regs, evt := t.evt, hedge := t.hedge }) ∧
     (¬ withholds → Completes .withholdStart s fun t => t = v))

/-! ## The fabric and DRAM -/

/-- On an idle bus a burst takes effect when it goes to its target: an undecoded one is answered with an error and counted, a
DRAM write stores exactly its bytes, and a DRAM or boot flash read holds its data for its response (R443, R444, R447). The
response is given once; one that comes after the timeout is counted as late (R448). An aborted burst writes the beats it had
and is counted (R446). A window that is written must be aligned to its size, or it is turned off (R441). Where its event is
not due a command changes nothing (the model's choice: log entry 2). The model's own choices in it are those of log entries
99, 101, 102. -/
def Obligations.BurstsReachTheirTargetsAndAreAnswered : Prop :=
  ∀ (s : State) (b : Burst), s.Canonical →
    let n := if b.write then b.data.length else b.len
    let d := s.busTarget b.master b.addr b.write n
    let idle : Prop := s.mtx.txns = [] ∧ State.burstOk b = true
    let sent : Txn := { burst := b, target := d.1, fabric := d.2.1, issued := true, executed := true }
    (State.burstOk b = false → Completes (.busTransaction b) s (fun t => t = s) ∧
      ∀ beats, Completes (.abortedBurst b beats) s fun t => t = s) ∧
    (idle → d.1 = .default → Completes (.busTransaction b) s fun t =>
      t.mtx.txns = [] ∧ t.mtx.response = some (b.master, b.tag, List.replicate b.len 0, true) ∧
      t.counter Reg.MATRIX_DECODE_ERRORS = s.counterAfter Reg.MATRIX_DECODE_ERRORS 1 ∧ s.SameBytes t ∧
      s.RegsKept t ([Reg.MATRIX_DECODE_ADDR_LO, Reg.MATRIX_DECODE_ADDR_LO + 4, Reg.MATRIX_DECODE_INFO, Reg.MATRIX_DECODE_ERRORS] ++
        State.evtRegs 56) ∧
      t = { s with regs := t.regs, evt := t.evt, mtx := t.mtx, freeIdx := t.freeIdx }) ∧
    (∀ k, idle → b.write = true → d.1 = .dram k → Completes (.busTransaction b) s fun t =>
      t.mtx.txns = [sent] ∧
      (∀ i v, b.data[i]? = some (some v) → (t.frameAt (frameOf (d.2.1 + i))).isSome = true → Memory.get 0 t.dram (d.2.1 + i) = v) ∧
      (∀ a, a < d.2.1 ∨ d.2.1 + b.data.length ≤ a → Memory.get 0 t.dram a = Memory.get 0 s.dram a) ∧
      t = { s with regs := t.regs, mtx := t.mtx, dram := t.dram }) ∧
    (∀ k, idle → b.write = false → d.1 = .dram k → b.corrected = [] → b.uncorrected = [] → s.markedIn d.2.1 b.len = [] →
      Completes (.busTransaction b) s fun t =>
        t.mtx.txns = [{ sent with data := s.dramBytes d.2.1 b.len }] ∧ s.SameBytes t ∧ s.RegsKept t [Reg.DRAM_URGENT k]) ∧
    (idle → b.write = false → d.1 = .bootFlash → Completes (.busTransaction b) s fun t =>
      t.mtx.txns = [{ sent with data := s.flashBytes (d.2.1 - 0x20000000) b.len }] ∧ t = { s with mtx := t.mtx }) ∧
    (∀ m tag x, s.mtx.txns = [x] → x.burst.master = m → x.burst.tag = tag → x.issued = true →
      (x.executed = true → Completes (.transactionResponse m tag) s fun t =>
        t.mtx.txns = [] ∧
        (x.timedOut = false → x.orphan = false →
          t.mtx.response = some (m, tag, x.data, x.error) ∧ t = { s with mtx := t.mtx }) ∧
        (x.timedOut = true → t.mtx.response = s.mtx.response ∧
          t.counter Reg.MATRIX_LATE_RESPONSES = s.counterAfter Reg.MATRIX_LATE_RESPONSES 1 ∧
          s.RegsKept t [Reg.MATRIX_LATE_RESPONSES] ∧ t = { s with regs := t.regs, mtx := t.mtx })) ∧
      (x.executed = false → x.timedOut = false → x.target = .registers → Completes (.transactionTimeout m tag) s fun t =>
        t.mtx.txns = [{ x with timedOut := true }] ∧ t.counter Reg.MATRIX_TIMEOUTS = s.counterAfter Reg.MATRIX_TIMEOUTS 1 ∧
        t.rd Reg.MATRIX_TIMEOUT_INFO = BitVec.ofNat 32 (m + 16 * b2n x.burst.write) ∧
        (x.orphan = false → t.mtx.response = some (m, tag, List.replicate x.burst.len 0, true)) ∧
        t = { s with regs := t.regs, evt := t.evt, mtx := t.mtx })) ∧
    (s.mtx.txns = [] → ∀ m tag, Completes (.transactionResponse m tag) s (fun t => t = s) ∧
      Completes (.transactionTimeout m tag) s fun t => t = s) ∧
    (∀ k beats, idle → b.write = true → d.1 = .dram k → Completes (.abortedBurst b beats) s fun t =>
      t.mtx.txns = [] ∧ t.counter Reg.MATRIX_ABORTED_BURSTS = s.counterAfter Reg.MATRIX_ABORTED_BURSTS 1 ∧ t.Raised 55 ∧
      (∀ i v, i < 32 * beats → b.data[i]? = some (some v) → (t.frameAt (frameOf (d.2.1 + i))).isSome = true →
        Memory.get 0 t.dram (d.2.1 + i) = v) ∧
      (∀ a, a < d.2.1 ∨ d.2.1 + 32 * beats ≤ a → Memory.get 0 t.dram a = Memory.get 0 s.dram a) ∧
      t = { s with regs := t.regs, evt := t.evt, mtx := t.mtx, dram := t.dram }) ∧
    (∀ w word v, w < 16 → word < 4 →
      let o := Reg.MATRIX_WIN w
      let u := s.wr (o + 4 * word) ((regSpec s.dev (o + 4 * word)).store (s.rd (o + 4 * word)) v)
      let k := u.rf o 13 8
      let wrong : Prop := k < 12 ∨ 32 < k ∨ (u.rd (o + 4)).toNat % 2 ^ k ≠ 0 ∨ u.rd64 (o + 8) % 2 ^ k ≠ 0
      (u.bitOf o 0 = true → wrong → Completes (.winWrite w word v) s fun t =>
        t.bitOf o 0 = false ∧ t.bitOf Reg.MATRIX_STATUS 0 = true ∧ u.RegsKept t [o, Reg.MATRIX_STATUS] ∧ s.JustRegs t) ∧
      (u.bitOf o 0 = false ∨ ¬ wrong → Completes (.winWrite w word v) s fun t =>
        t.bitOf Reg.MATRIX_STATUS 0 = false ∧ u.RegsKept t [Reg.MATRIX_STATUS] ∧ s.JustRegs t))

/-- A channel is retrained when it is due, stays degraded where no setting was found, and is taken offline at the next
boundary by command (R453 to R455). The patrol scrub counts what it finds on its channel (R451). A migrating channel moves its
frames, one by one and with their contents, to the online channel with the fewest, until none is left (R457). Where its event
is not due a command changes nothing (the model's choice: log entry 2). The model's own choices in it are those of log entry
20. -/
def Obligations.DramChannelsRetrainScrubAndMigrate : Prop :=
  ∀ (s : State) (n : Nat), n < s.dev.part.dramChannels →
    let c := s.dramChan n
    let chan (t : State) (x : DramChannel) : Prop := t.mtx = { s.mtx with chans := Assoc.put n x s.mtx.chans }
    let regsMtx (t : State) : Prop := t = { s with regs := t.regs, mtx := t.mtx }
    (s.dramOnline n = true →
      Completes (.dramOffline n) s (fun t => t = s.setDramChan n { c with offlineDue := true }) ∧
      Completes (.retrainNow n) s (fun t => t = s.setDramChan n { c with retrainDue := true }) ∧
      Completes (.dramRetrainTimer n) s (fun t => chan t { c with retrainDue := false } ∧ t.bitOf (Reg.DRAM_STATUS n) 2 = true ∧
        s.RegsKept t [Reg.DRAM_STATUS n] ∧ regsMtx t) ∧
      (∀ k, c.retrainDue = true → Completes (.dramRefresh n k) s fun t =>
        chan t { c with retrainDue := false } ∧ t.bitOf (Reg.DRAM_STATUS n) 2 = true ∧
        t.counter (Reg.DRAM_REFRESH_POSTPONED n) = s.counterAfter (Reg.DRAM_REFRESH_POSTPONED n) (min k 8) ∧
        s.RegsKept t [Reg.DRAM_STATUS n, Reg.DRAM_REFRESH_POSTPONED n] ∧ regsMtx t) ∧
      (∀ k, c.retrainDue = false → Completes (.dramRefresh n k) s fun t =>
        t.counter (Reg.DRAM_REFRESH_POSTPONED n) = s.counterAfter (Reg.DRAM_REFRESH_POSTPONED n) (min k 8) ∧
        s.RegsKept t [Reg.DRAM_REFRESH_POSTPONED n] ∧ s.JustRegs t) ∧
      (∀ changed, s.bitOf (Reg.DRAM_STATUS n) 2 = true → Completes (.dramRetrainDone n true changed) s fun t =>
        t.bitOf (Reg.DRAM_STATUS n) 2 = false ∧ t.dramState n = 1 ∧
        t.counter (Reg.DRAM_RETRAINS n) = s.counterAfter (Reg.DRAM_RETRAINS n) 1 ∧ (changed = true → t.Raised 50) ∧
        s.RegsKept t ([Reg.DRAM_STATUS n, Reg.DRAM_RETRAINS n] ++ State.evtRegs 50 ++ State.evtRegs 51) ∧ s.OnlyRegs t) ∧
      (∀ changed, s.bitOf (Reg.DRAM_STATUS n) 2 = true → Completes (.dramRetrainDone n false changed) s fun t =>
        t.bitOf (Reg.DRAM_STATUS n) 2 = false ∧ t.dramState n = 2 ∧
        t.counter (Reg.DRAM_RETRAIN_FAILS n) = s.counterAfter (Reg.DRAM_RETRAIN_FAILS n) 1 ∧
        s.RegsKept t ([Reg.DRAM_STATUS n, Reg.DRAM_RETRAIN_FAILS n] ++ State.evtRegs 51) ∧ s.OnlyRegs t) ∧
      (∀ a, isDram a = true → s.chanOfAddr a = some n →
        Completes (.patrolScrub n [a] []) s (fun t =>
          t.counter (Reg.DRAM_CE_COUNT n) = s.counterAfter (Reg.DRAM_CE_COUNT n) 1 ∧
          (a < 2 ^ 40 → t.rd64 (Reg.DRAM_CE_ADDR_LO n) = a / 32 * 32) ∧
          t = { s with regs := t.regs, evt := t.evt, mtx := { s.mtx with raised := t.mtx.raised } }) ∧
        Completes (.patrolScrub n [] [a]) s fun t =>
          t.counter (Reg.DRAM_UE_COUNT n) = s.counterAfter (Reg.DRAM_UE_COUNT n) 1 ∧
          (a < 2 ^ 40 → t.rd64 (Reg.DRAM_UE_ADDR_LO n) = a / 32 * 32) ∧
          t = { s with regs := t.regs, evt := t.evt, mtx := { s.mtx with raised := t.mtx.raised, chans := t.mtx.chans } }) ∧
      (∀ l m, (∀ a ∈ l ++ m, s.chanOfAddr a ≠ some n) → Completes (.patrolScrub n l m) s fun t => t = s)) ∧
    (s.dramOnline n = false → ∀ c, (c = Instr.dramOffline n ∨ c = .retrainNow n ∨ c = .dramRetrainTimer n ∨
      (∃ k, c = .dramRefresh n k) ∨ (∃ x y, c = .dramRetrainDone n x y) ∨ ∃ x y, c = .patrolScrub n x y) →
      Completes c s fun t => t = s) ∧
    (s.bitOf (Reg.DRAM_STATUS n) 3 = false → s.Canonical → ∀ bad, Completes (.frameMigrated n bad) s fun t => t = s) ∧
    (s.bitOf (Reg.DRAM_STATUS n) 3 = true → s.Canonical →
      (∀ bad, s.mtx.frames.find? (fun e => e.2.chan == n) = none → s.framesOn n = 0 → Completes (.frameMigrated n bad) s fun t =>
        t.bitOf (Reg.DRAM_STATUS n) 3 = false ∧ t.Raised 57 ∧ t.mtx = s.mtx ∧ s.SameBytes t) ∧
      (∀ f e m, s.mtx.frames.find? (fun e => e.2.chan == n) = some (f, e) →
        ¬ (s.capacityFrames < s.backedFrames ∧ e.owner = .host) → s.roomiest = some m → s.framesOn m < s.channelFrames →
        Assoc.get? f s.mtx.frames = some e → Completes (.frameMigrated n []) s fun t =>
          t.frameAt f = some { e with chan := m } ∧ (∀ g, g ≠ f → t.frameAt g = s.frameAt g) ∧ s.SameBytes t ∧
          t.counter (Reg.DRAM_MIGRATED_FRAMES n) = s.counterAfter (Reg.DRAM_MIGRATED_FRAMES n) 1 ∧
          t = { s with regs := t.regs, evt := t.evt, mtx := { s.mtx with frames := t.mtx.frames }, dram := t.dram }))

/-! ## The show store and the boot flash -/

/-- A store command is refused while the store is busy or not up, refused with its code where its rule says, and otherwise
taken; when it is done it has acted on the array or on DRAM, and reports its result (R464). A mount ends READY, READ_ONLY or
FAILED (R465, R469). A word that cannot be corrected is lost and counted, worn, weak and old blocks move, and bad ones take a
spare (R467 to R469). Where its event is not due a command changes nothing (the model's choice: log entry 2). The model's own
choices in it are those of log entries 84, 85, 86. -/
def Obligations.StoreCommandsAndArrayCare : Prop :=
  ∀ s : State, s.dev.part.hasStore = true → s.Canonical →
    let n := s.rf Reg.STORE_OBJECT 15 0
    let kind := s.rf Reg.STORE_OBJECT 17 16
    let len := s.rd64 Reg.STORE_LEN_LO
    let refused (c : Instr) : Prop := Completes c s fun t =>
      t.bitOf Reg.STORE_STATUS 4 = true ∧ s.RegsKept t [Reg.STORE_STATUS] ∧ s.JustRegs t
    let denied (c : Instr) (code : Nat) : Prop := Completes c s fun t =>
      t.bitOf Reg.STORE_STATUS 4 = true ∧ t.rd Reg.STORE_RESULT = BitVec.ofNat 32 code ∧ t.Raised 65 ∧
      s.RegsKept t ([Reg.STORE_STATUS, Reg.STORE_RESULT] ++ State.evtRegs 65) ∧ s.OnlyRegs t
    let taken (t : State) : Prop := t.bitOf Reg.STORE_STATUS 3 = true ∧ t.bitOf Reg.STORE_STATUS 4 = false ∧ t.rd Reg.STORE_RESULT = 0
    let wrongKind : Prop := ¬ (kind = 1 ↔ n < 64)
    let full : Prop := s.nand.capacityMiB * 256 < s.usedSectors + sectorsOf len
    (s.storeReady = false → refused .storeWrite ∧ refused .storeRead ∧ refused .storeDelete ∧ refused .storeInfo) ∧
    (s.storeReady = true →
      (wrongKind → denied .storeWrite 2) ∧ (¬ wrongKind → s.stemUses n = true → denied .storeWrite 3) ∧
      (¬ wrongKind → s.stemUses n = false → full → denied .storeWrite 4) ∧
      (¬ wrongKind → s.stemUses n = false → ¬ full → s.storeState = 3 → denied .storeWrite 5) ∧
      (¬ wrongKind → s.stemUses n = false → ¬ full → s.storeState ≠ 3 → Completes .storeWrite s fun t =>
        let r := s.masterRead 12 s.storeStage len
        t.store.cmd = some { op := 1, object := n, kind := kind, stage := s.storeStage, bytes := r.2.getD [],
                             code := if r.2.isNone then 0x07 else 0 } ∧ taken t ∧ t.nand = s.nand) ∧
      (s.storeObject n = none → denied .storeRead 1 ∧ denied .storeDelete 1 ∧ Completes .storeInfo s fun t =>
        t.rd64 Reg.STORE_INFO_LEN_LO = 0 ∧ t.rd Reg.STORE_INFO_KIND = 0 ∧ t.Raised 64) ∧
      (∀ o, s.storeObject n = some o →
        Completes .storeRead s (fun t => taken t ∧
          (∃ c, t.store.cmd = some c ∧ c.op = 2 ∧ c.object = n ∧ c.bytes = o.bytes.take (min len o.bytes.length)) ∧ t.nand = s.nand) ∧
        Completes .storeInfo s (fun t => t.rd Reg.STORE_INFO_KIND = BitVec.ofNat 32 (o.kind + 4) ∧ t.rd Reg.STORE_RESULT = 0 ∧
          (o.bytes.length < 2 ^ 64 → t.rd64 Reg.STORE_INFO_LEN_LO = o.bytes.length) ∧ t.Raised 64) ∧
        (s.stemUses n = true → denied .storeDelete 3) ∧ (s.stemUses n = false → s.storeState = 3 → denied .storeDelete 5) ∧
        (s.stemUses n = false → s.storeState ≠ 3 → Completes .storeDelete s fun t =>
          t.store.cmd = some { op := 3, object := n, kind := 0, stage := 0 } ∧ taken t ∧ t.nand = s.nand))) ∧
    (s.store.cmd = none → Completes .storeCmdDone s fun t => t = s) ∧
    (∀ c, s.store.cmd = some c →
      let ends (t : State) (code : Nat) : Prop := t.store = { s.store with cmd := none } ∧ t.bitOf Reg.STORE_STATUS 3 = false ∧
        t.rf Reg.STORE_RESULT 7 0 = code % 256 ∧ t.Raised (if code = 0 then 64 else 65)
      (c.op = 1 → s.storeHeld = true → Completes .storeCmdDone s fun t => t = s) ∧
      (c.op ≠ 1 ∨ s.storeHeld = false →
        (0 < c.code → c.code < 256 → Completes .storeCmdDone s fun t => ends t c.code ∧ t.nand = s.nand) ∧
        (c.code = 0 → c.op = 1 → 64 ≤ c.object → Completes .storeCmdDone s fun t => ends t 0 ∧
          t.nand = { s.nand with objects := Assoc.put c.object { kind := c.kind, bytes := c.bytes } s.nand.objects }) ∧
        (let checked := checkOuter s.dev s.dev.revoked c.bytes fun n => n == c.bytes.length
         c.code = 0 → c.op = 1 → c.object < 64 →
          (∀ r, checked = .error r → Completes .storeCmdDone s fun t => ends t 8 ∧ t.nand = s.nand) ∧
          ∀ x, checked = .ok x → Completes .storeCmdDone s fun t => ends t 0 ∧
            t.nand = { s.nand with objects := Assoc.put c.object { kind := c.kind, bytes := c.bytes } s.nand.objects }) ∧
        (c.code = 0 → c.op = 3 → Completes .storeCmdDone s fun t => ends t 0 ∧
          t.nand = { s.nand with objects := Assoc.del c.object s.nand.objects }) ∧
        (c.code = 0 → c.op = 2 → Completes .storeCmdDone s fun t => t.nand = s.nand ∧
          ends t (if (({ s with store := { s.store with cmd := none } } : State).clrBit Reg.STORE_STATUS 3 |>.masterWrite 12 c.stage c.bytes).2
            then 0 else 7)))) ∧
    (∀ ok, s.storeState ≠ 1 → Completes (.storeMountDone ok) s fun t => t = s) ∧
    (s.storeState = 1 → Completes (.storeMountDone false) s fun t =>
      t.storeState = 4 ∧ s.RegsKept t [Reg.STORE_STATUS] ∧ s.JustRegs t) ∧
    (s.storeState = 1 → Completes (.storeMountDone true) s fun t =>
      t.nand.mounted = true ∧ t.nand.objects = s.nand.objects ∧ t.storeState = (if t.nand.spareLeft = 0 then 3 else 2) ∧
      (t.nand.spareLeft ≠ 0 → t.Raised 72) ∧ t = { s with regs := t.regs, evt := t.evt, nand := t.nand, store := t.store }) ∧
    (∀ obj o sector, s.storeObject obj = some o → s.storeUp = true → sector < sectorsOf o.bytes.length → sector ∉ o.lost →
      Completes (.nandUncorrectable obj sector) s fun t =>
        t.storeObject obj = some { o with lost := sector :: o.lost } ∧ t.Raised 69 ∧
        t.counter Reg.STORE_UNCORRECTABLE = s.counterAfter Reg.STORE_UNCORRECTABLE 1 ∧
        t.counter Reg.STORE_RETRIES = s.counterAfter Reg.STORE_RETRIES 1 ∧
        t = { s with regs := t.regs, evt := t.evt, nand := { s.nand with objects := t.nand.objects }, store := { s.store with stems := t.store.stems } }) ∧
    (∀ obj sector, s.storeObject obj = none ∨ s.storeUp = false → Completes (.nandUncorrectable obj sector) s fun t => t = s) ∧
    (∀ b corrected reads,
      let due : Prop := s.rf Reg.STORE_MAINT_CFG 31 24 ≤ corrected ∨ s.rf Reg.STORE_MAINT_CFG 23 16 * 1000 ≤ reads
      (s.storeUp = false → Completes (.blockRefresh b corrected reads) s fun t => t = s) ∧
      (due → s.mayErase b = true → Completes (.blockRefresh b corrected reads) s fun t =>
        t.eraseCount b = s.eraseCount b + 1 ∧ t.counter Reg.STORE_REFRESHES = s.counterAfter Reg.STORE_REFRESHES 1 ∧
        t = { s with regs := t.regs, nand := { s.nand with erases := t.nand.erases } }) ∧
      (s.storeUp = true → ¬ due ∨ s.mayErase b = false → Completes (.blockRefresh b corrected reads) s fun t =>
        t.counter Reg.STORE_RETRIES = s.counterAfter Reg.STORE_RETRIES (if 100 < corrected then 1 else 0) ∧
        s.RegsKept t [Reg.STORE_RETRIES, Reg.STORE_CORR_MAX] ∧ s.JustRegs t)) ∧
    (∀ b, s.leastWorn = some b → s.mayErase b = true → s.rf Reg.STORE_MAINT_CFG 15 0 < s.highestErase - s.lowestErase →
      Completes .wearMove s fun t =>
        t.eraseCount b = s.eraseCount b + 1 ∧ t.counter Reg.STORE_WEAR_MOVES = s.counterAfter Reg.STORE_WEAR_MOVES 1 ∧
        t = { s with regs := t.regs, nand := { s.nand with erases := t.nand.erases } }) ∧
    (s.highestErase - s.lowestErase ≤ s.rf Reg.STORE_MAINT_CFG 15 0 → Completes .wearMove s fun t => t = s) ∧
    (∀ b, s.storeUp = true → b < s.nand.blocks → b ∉ s.nand.bad → Completes (.grownBad b) s fun t =>
      t.nand = { s.nand with bad := b :: s.nand.bad, spareLeft := s.nand.spareLeft - 1 } ∧ t.Raised 66 ∧
      t.counter Reg.STORE_GROWN_BAD = s.counterAfter Reg.STORE_GROWN_BAD 1 ∧
      (4 * (s.nand.spareLeft - 1) < s.nand.spareInitial → t.bitOf Reg.STORE_STATUS 6 = true) ∧
      (s.nand.spareLeft ≤ 1 → t.storeState = 3) ∧ t = { s with regs := t.regs, evt := t.evt, nand := t.nand }) ∧
    (∀ b, s.storeUp = false ∨ s.nand.blocks ≤ b ∨ b ∈ s.nand.bad → Completes (.grownBad b) s fun t => t = s) ∧
    (∀ found,
      let due : Prop := s.storeUp = true ∧ s.store.scrubFrom + s.rf Reg.STORE_SCRUB_CFG 7 0 * 86400 * countsPerSecond ≤ s.uptime
      (due → Completes (.storeScrub found) s fun t =>
        t.store = { s.store with scrubFrom := s.uptime } ∧ t.nand = { s.nand with erases := t.nand.erases } ∧
        t = { s with regs := t.regs, nand := t.nand, store := t.store }) ∧
      (¬ due → Completes (.storeScrub found) s fun t => t = s))

/-- PLAY arms a stem whose object, capability and start block allow it, and is refused otherwise; STOP ends an armed stem at
once and a playing one at its block; a preloaded stem says so, and a stem whose samples have run out ends with event 71 (R475
to R478). Where its event is not due a command changes nothing (the model's choice: log entry 2). The model's own choices in
it are those of log entries 87, 128. -/
def Obligations.StemsPlayStopAndEnd : Prop :=
  ∀ (s : State) (k : Nat), s.dev.part.hasStore = true → k < 256 →
    let first := s.rd64 (Reg.STEM_START_SAMPLE_LO k)
    let refused (c : Instr) : Prop := Completes c s fun t =>
      t.bitOf (Reg.STEM_STATUS k) 4 = true ∧ s.RegsKept t [Reg.STEM_STATUS k] ∧ s.JustRegs t
    let plays (o : StoreObject) (b : Nat) : Prop :=
      s.storeObject (s.rf (Reg.STEM_OBJECT k) 15 0) = some o ∧ s.stemStart k = some b ∧ s.patternActive = true ∧
      s.pat.caps / 2 % 2 = 1 ∧ s.storeUp = true ∧ s.stemActive k = false ∧ o.kind = 3 ∧ 4 * first < o.bytes.length
    let regsCondStore (t : State) : Prop := t = { s with regs := t.regs, cond := { s.cond with ch := t.cond.ch }, store := { s.store with stems := t.store.stems } }
    (∀ o b, plays o b → Completes (.play k) s fun t =>
      t.stemState k = 1 ∧ t.bitOf (Reg.STEM_STATUS k) 4 = false ∧
      t.stem k = { first := first, start := b, pos := first, content := o } ∧ (t.chan (1536 + k)).restart.isSome = true ∧
      s.RegsKept t [Reg.STEM_STATUS k, Reg.CH_STATUS (1536 + k)] ∧ regsCondStore t) ∧
    ((∀ o b, ¬ plays o b) → refused (.play k)) ∧
    (s.stemState k = 1 → Completes (.stop k) s fun t =>
      t.stemState k = 0 ∧ s.RegsKept t [Reg.STEM_STATUS k] ∧ s.JustRegs t) ∧
    (∀ b, s.stemState k = 2 → s.targetBlock (Reg.STEM_STOP_BLOCK_LO k) = some b → Completes (.stop k) s fun t =>
      t.stem k = { s.stem k with stop := some b } ∧ (t.chan (1536 + k)).gateOut = some b ∧ t.stemState k = 2 ∧
      s.RegsKept t [Reg.STEM_STATUS k] ∧ regsCondStore t) ∧
    (s.stemState k = 0 ∨ s.stemState k = 3 ∨ (s.stemState k = 2 ∧ s.targetBlock (Reg.STEM_STOP_BLOCK_LO k) = none) → refused (.stop k)) ∧
    (s.stemActive k = true → s.storeUp = true → Completes (.stemPreloaded k) s fun t =>
      t.bitOf (Reg.STEM_STATUS k) 3 = true ∧ s.RegsKept t [Reg.STEM_STATUS k] ∧ s.JustRegs t) ∧
    (s.stemActive k = false ∨ s.storeUp = false → Completes (.stemPreloaded k) s fun t => t = s) ∧
    (s.stemActive k = true → (s.stem k).ended = true → Completes (.stemEnd k) s fun t =>
      t.stemState k = 3 ∧ t.Raised 71 ∧ s.RegsKept t (Reg.STEM_STATUS k :: State.evtRegs 71) ∧ s.OnlyRegs t) ∧
    (s.stemActive k = false ∨ (s.stem k).ended = false → Completes (.stemEnd k) s fun t => t = s)

/-- A boot flash command is refused while one runs or where its rule says; otherwise it is busy, an install erasing its slot,
until it is done, when it has programmed, read, erased or written the boot descriptor and raises event 212 (R479, R481). The
boot Pattern is chosen once the firmware runs and nothing is bound (R473). Where its event is not due a command changes
nothing (the model's choice: log entry 2). The model's own choices in it are those of log entries 90, 91. -/
def Obligations.BootFlashCommands : Prop :=
  ∀ (s : State) (slot : Nat), s.Canonical →
    let len := (s.rd Reg.BOOTF_LEN).toNat
    let at' := (s.rd Reg.BOOTF_FLASH_ADDR).toNat
    let refused (c : Instr) : Prop := Completes c s fun t =>
      t.bitOf Reg.BOOTF_STATUS 1 = true ∧ s.RegsKept t [Reg.BOOTF_STATUS] ∧ s.JustRegs t
    let busy (t : State) (op slot addr n : Nat) : Prop :=
      t.bitOf Reg.BOOTF_STATUS 0 = true ∧ t.bitOf Reg.BOOTF_STATUS 1 = false ∧
      ∃ c, t.bootf.cmd = some c ∧ c.op = op ∧ c.slot = slot ∧ c.addr = addr ∧ c.len = n
    let erased (t : State) (a n : Nat) : Prop :=
      ∀ x, Memory.get 0xFF t.flash x = if a ≤ x ∧ x < a + n then 0xFF else Memory.get 0xFF s.flash x
    let fits (kind slot : Nat) : Prop := s.bootNameable kind slot = true
    let c := s.bootf.cfg
    (s.bootBusy = true ∨ s.host.runningSlot = some slot ∨ 0x800000 < len → refused (.installFw slot)) ∧
    (s.bootBusy = false → s.host.runningSlot ≠ some slot → len ≤ 0x800000 → Completes (.installFw slot) s fun t =>
      busy t 1 slot (State.fwSlot slot) len ∧ (s.storeHeld = false → erased t (State.fwSlot slot) 0x800000) ∧
      (s.storeHeld = true → erased t 0 0)) ∧
    (s.bootBusy = true ∨ 0x2000000 < len → refused (.installPat slot)) ∧
    (s.bootBusy = false → len ≤ 0x2000000 → Completes (.installPat slot) s fun t =>
      busy t 2 slot (State.patSlot slot) len ∧ (s.storeHeld = false → erased t (State.patSlot slot) 0x2000000) ∧
      (s.storeHeld = true → erased t 0 0)) ∧
    (s.bootBusy = true ∨ ¬ fits (fld c 1 0) (fld c 7 2) ∨ ¬ fits (fld c 9 8) (fld c 15 10) → refused .setBoot) ∧
    (s.bootBusy = false → fits (fld c 1 0) (fld c 7 2) → fits (fld c 9 8) (fld c 15 10) → Completes .setBoot s fun t =>
      busy t 3 0 0 0 ∧ s.SameBytes t) ∧
    (∀ op i, (op = 4 ∧ i = Instr.bootfRead) ∨ (op = 5 ∧ i = .bootfProgram) ∨ (op = 6 ∧ i = .bootfErase) →
      (s.bootBusy = true ∨ State.inUserArea at' len = false → refused i) ∧
      (s.bootBusy = false → State.inUserArea at' len = true → Completes i s fun t => busy t op 0 at' len ∧ s.SameBytes t)) ∧
    (s.bootf.cmd = none → Completes .bootfCmdDone s fun t => t = s) ∧
    (∀ k, s.bootf.cmd = some k →
      let ends (t : State) (code : Nat) : Prop := t.bootf.cmd = none ∧ t.bitOf Reg.BOOTF_STATUS 0 = false ∧
        t.rf Reg.BOOTF_STATUS 15 8 = code ∧ t.Raised 212
      (k.op ≠ 4 → s.storeHeld = true → Completes .bootfCmdDone s fun t => t = s) ∧
      (s.storeHeld = false → (k.op = 1 ∨ k.op = 2 ∨ k.op = 5) → k.failed = true → Completes .bootfCmdDone s fun t => ends t 7) ∧
      (s.storeHeld = false → k.op = 3 → Completes .bootfCmdDone s fun t =>
        ends t 0 ∧ t.bootCopies = s.writeDescriptor.bootCopies ∧ t.nand = s.nand ∧
        (∀ a, Memory.get 0xFF t.flash a = Memory.get 0xFF s.flash a)) ∧
      (s.storeHeld = false → k.op = 5 → k.failed = false → Completes .bootfCmdDone s fun t =>
        ends t 0 ∧
        (∀ i v, k.bytes[i]? = some v → Memory.get 0xFF t.flash (k.addr + i) = v &&& Memory.get 0xFF s.flash (k.addr + i)) ∧
        (∀ a, a < k.addr ∨ k.addr + k.bytes.length ≤ a → Memory.get 0xFF t.flash a = Memory.get 0xFF s.flash a)) ∧
      (s.storeHeld = false → k.op = 6 → 0 < k.len → Completes .bootfCmdDone s fun t =>
        ends t 0 ∧ erased t (k.addr / 65536 * 65536) ((k.addr + k.len + 65535) / 65536 * 65536 - k.addr / 65536 * 65536)) ∧
      (k.op = 4 → Completes .bootfCmdDone s fun t =>
        t.bootf.cmd = none ∧ t.Raised 212 ∧ (∀ a, Memory.get 0xFF t.flash a = Memory.get 0xFF s.flash a))) ∧
    (let waits (kind : Nat) : Prop := kind = 1 ∧ s.storeState = 1
     let mustWait : Prop := s.rf Reg.HOST_STATUS 1 0 ≠ 2 ∨ s.patternActive = true ∨ s.patState ≠ 0 ∨ waits (fld s.bootCfg 1 0) ∨
       waits (fld s.bootCfg 9 8)
     (mustWait → Completes .bootPatternSelect s fun t => t = s) ∧
     (¬ mustWait → fld s.bootCfg 1 0 = 0 → fld s.bootCfg 9 8 = 0 → Completes .bootPatternSelect s fun t =>
       t.patState = 0 ∧ t.rf Reg.BOOTF_PAT_REJECT 7 0 = 0 ∧ t.rf Reg.BOOTF_PAT_REJECT 15 8 = 0 ∧ t.bitOf Reg.BOOTF_STATUS 3 = false ∧
       s.RegsKept t [Reg.PAT_STATUS, Reg.BOOTF_PAT_REJECT, Reg.BOOTF_STATUS] ∧ s.JustRegs t) ∧
     (let a := s.bootLoad (fld s.bootCfg 1 0) (fld s.bootCfg 7 2)
      ¬ mustWait → a.2.2 = true → Completes .bootPatternSelect s fun t =>
       t.pat = a.1.pat ∧ t.rd Reg.BOOTF_PAT_REJECT = BitVec.ofNat 32 a.2.1 ∧ t.bitOf Reg.BOOTF_STATUS 3 = false ∧
       a.1.RegsKept t [Reg.BOOTF_PAT_REJECT, Reg.BOOTF_STATUS]))

/-! ## The event controller and the host interface -/

/-- An assertion latches the pending bit of its source, merges when the bit is already set, and counts towards the vector of
an enabled source; pulses that cross a clock domain arrive as a count, and those beyond 255 are lost with the crossing's bit
set. A clear of pending bits leaves a level that still stands, and an edge of the same cycle, latched. A doorbell asserts the
source of each bit written 1 (R493 to R497, R517). The model's own choices in it are those of log entry 98. -/
def Obligations.EventsLatchMergeAndCount : Prop :=
  ∀ s : State,
    let counts (n : Nat) : Prop := s.bitOf Reg.EVT_CTRL 0 = true ∧ s.sourceEnabled n = true
    let onlyEvents (t : State) (l : List Nat) : Prop := s.RegsKept t l ∧ s.OnlyRegs t
    (∀ n pulses crossing, n < 256 →
      let kept := if Option.isSome crossing then min pulses 255 else pulses
      let regs := [Reg.EVT_MERGED, Reg.EVT_PENDING (n / 32), Reg.VEC_STATUS (n / 32), Reg.CLK_CROSS_OVF]
      (s.sourceExists n = true → sourceIsLevel n = false → 0 < kept → Completes (.eventAssert n pulses crossing) s fun t =>
        t.sourcePending n = true ∧
        t.counter Reg.EVT_MERGED = s.counterAfter Reg.EVT_MERGED (if s.sourcePending n then kept else kept - 1) ∧
        (counts n → t.countNow (n / 32) = min (s.countNow (n / 32) + kept) 1024 ∧
          (s.evt.timers.length = 8 → (t.vecTimer (n / 32)).isSome = true)) ∧
        (¬ counts n → t.countNow (n / 32) = s.countNow (n / 32) ∧ t.evt = s.evt) ∧ onlyEvents t regs) ∧
      (s.sourceExists n = true → sourceIsLevel n = true → Completes (.eventAssert n pulses crossing) s fun t =>
        t.sourcePending n = true ∧ t.rd Reg.EVT_MERGED = s.rd Reg.EVT_MERGED ∧
        (counts n → t.countNow (n / 32) = min (s.countNow (n / 32) + 1) 1024) ∧
        (¬ counts n → t.countNow (n / 32) = s.countNow (n / 32)) ∧ onlyEvents t regs) ∧
      (s.sourceExists n = false → Completes (.eventAssert n pulses crossing) s fun t => onlyEvents t [Reg.CLK_CROSS_OVF]) ∧
      (∀ c, crossing = some c → c < 7 → 255 < pulses → Completes (.eventAssert n pulses crossing) s fun t =>
        t.bitOf Reg.CLK_CROSS_OVF c = true) ∧
      (crossing = none ∨ pulses ≤ 255 → Completes (.eventAssert n pulses crossing) s fun t =>
        t.rd Reg.CLK_CROSS_OVF = s.rd Reg.CLK_CROSS_OVF)) ∧
    (∀ w v same, w < 8 →
      let relatched (b : Nat) : Prop := bitAt v b = true ∧ s.sourceLive (32 * w + b) = true ∧ s.sourceExists (32 * w + b) = true
      let again (b : Nat) : Prop :=
        same = some (32 * w + b) ∧ sourceIsLevel (32 * w + b) = false ∧ s.sourceExists (32 * w + b) = true
      Completes (.pendingClear w v same) s fun t =>
        (∀ b, b < 32 → (t.sourcePending (32 * w + b) = true ↔
          (s.sourcePending (32 * w + b) = true ∧ bitAt v b = false) ∨ relatched b ∨ again b)) ∧
        (∀ b, b < 32 → relatched b → counts (32 * w + b) → s.countNow w < 1024 → s.countNow w < t.countNow w) ∧
        ((∀ b, b < 32 → relatched b ∨ again b → ¬ counts (32 * w + b)) → t.countNow w = s.countNow w ∧ t.evt = s.evt) ∧
        onlyEvents t [Reg.EVT_MERGED, Reg.EVT_PENDING w, Reg.VEC_STATUS w]) ∧
    (∀ v, Completes (.doorbell v) s fun t =>
      (∀ d, d < 32 → (t.sourcePending (224 + d) = true ↔ s.sourcePending (224 + d) = true ∨
        (bitAt v d = true ∧ s.sourceExists (224 + d) = true))) ∧
      onlyEvents t [Reg.EVT_MERGED, Reg.EVT_PENDING 7, Reg.VEC_STATUS 7])

/-- A vector is raised when its condition is met and it does not await an acknowledgement, in ascending order, and its message
is sent, held while the vector is masked, delayed while the link sleeps, or replaced by a PME message in D3hot. An
acknowledgement raises it again when its condition is met. A new limit acts at once, a timer at its time, and FLUSH raises all
that count anything (R496 to R503, R509). Where its event is not due a command changes nothing (the model's choice: log entry
2). The model's own choices in it are those of log entries 30, 125. -/
def Obligations.VectorsAreRaisedAndSent : Prop :=
  ∀ s : State,
    let shared := [0x270800, Reg.EVT_PME_COUNT, Reg.EVT_LATE_DELIVERY]
    let onlyVectors (t : State) (l : List Nat) : Prop :=
      s.RegsKept t (l ++ shared) ∧ t = { s with regs := t.regs, evt := t.evt, outbox := t.outbox }
    let message (k : Nat) : Emit := .msix k (s.rd (0x270000 + 16 * k)) (s.rd (0x270004 + 16 * k)) (s.rd (0x270008 + 16 * k))
    let awake : Prop := s.inD3 = false ∧ s.evt.msixEnable = true ∧ s.linkPm ≠ 1 ∧ s.linkPm ≠ 2
    let raise (t : State) (k : Nat) : Prop :=
      t.raised k = true ∧ t.countNow k = 0 ∧ t.vecTimer k = none ∧ t.counter (Reg.VEC_RAISES k) = s.counterAfter (Reg.VEC_RAISES k) 1 ∧
      (s.inD3 = true → Emit.pme ∈ t.outbox ∧ (s.evt.d3Held.length = 8 → t.evt.d3Held[k]? = some true)) ∧
      (s.inD3 = false → s.evt.msixEnable = true → s.vectorMasked k = true → t.bitOf 0x270800 k = true) ∧
      (s.inD3 = false → s.evt.msixEnable = true → s.vectorMasked k = false → s.linkPm = 1 ∨ s.linkPm = 2 →
        t.bitOf (Reg.VEC_STATUS k) 1 = true)
    let quiet (t : State) (k : Nat) : Prop :=
      t.rd (Reg.VEC_STATUS k) = s.rd (Reg.VEC_STATUS k) ∧ t.rd (Reg.VEC_RAISES k) = s.rd (Reg.VEC_RAISES k) ∧ t.vecTimer k = s.vecTimer k
    let raises (c : Instr) (due : Nat → Bool) : Prop := Completes c s fun t =>
      (∀ k, k < 8 → (due k = true → raise t k) ∧ (due k = false → quiet t k)) ∧
      (awake → t.outbox = (((List.range 8).filter fun k => due k && !s.vectorMasked k).map message).reverse ++ s.outbox) ∧
      (s.inD3 = false → s.evt.msixEnable = false → t.outbox = s.outbox) ∧
      onlyVectors t ((List.range 8).flatMap fun k => [Reg.VEC_STATUS k, Reg.VEC_RAISES k])
    let timed (k time : Nat) : Prop := ∃ x, s.vecTimer k = some x ∧ time * 3145728 ≤ x * 1000
    raises .vectorRaise (fun k => !s.raised k && s.coalesced k) ∧
    raises .flush (fun k => !s.raised k && decide (0 < s.countNow k)) ∧
    (∀ k v, k < 8 →
      let count := if 1 ≤ fld v 10 0 ∧ fld v 10 0 ≤ 1024 then fld v 10 0 else s.rf (Reg.VEC_CFG k) 10 0
      let time := if 1 ≤ fld v 29 16 ∧ fld v 29 16 ≤ 10000 then fld v 29 16 else s.rf (Reg.VEC_CFG k) 29 16
      let met : Prop := s.raised k = false ∧ (count ≤ s.countNow k ∨ timed k time)
      Completes (.vecCfgWrite k v) s fun t =>
        t.rf (Reg.VEC_CFG k) 10 0 = count ∧ t.rf (Reg.VEC_CFG k) 29 16 = time ∧ (met → raise t k) ∧ (¬ met → quiet t k) ∧
        onlyVectors t [Reg.VEC_CFG k, Reg.VEC_STATUS k, Reg.VEC_RAISES k]) ∧
    (∀ k, k < 8 →
      let left : Prop := s.countNow k = 0 ∧ s.groupPending k = true
      let met (n : Nat) : Prop := s.rf (Reg.VEC_CFG k) 10 0 ≤ n ∨ timed k (s.rf (Reg.VEC_CFG k) 29 16)
      0 < s.rf (Reg.VEC_CFG k) 29 16 →
      (left → ¬ met 1 → Completes (.vecAck k) s fun t =>
        t.raised k = false ∧ t.countNow k = 1 ∧ (s.evt.timers.length = 8 → (t.vecTimer k).isSome = true) ∧
        onlyVectors t [Reg.VEC_STATUS k]) ∧
      (¬ left → ¬ met (s.countNow k) → Completes (.vecAck k) s fun t =>
        t.raised k = false ∧ t.countNow k = s.countNow k ∧ t.vecTimer k = s.vecTimer k ∧ onlyVectors t [Reg.VEC_STATUS k]) ∧
      ((left ∧ met 1) ∨ (¬ left ∧ met (s.countNow k)) → Completes (.vecAck k) s fun t =>
        raise t k ∧ onlyVectors t [Reg.VEC_STATUS k, Reg.VEC_RAISES k])) ∧
    (∀ k, k < 8 →
      (s.vecTimer k = none → Completes (.vectorTimer k) s fun t => t = s) ∧
      ((s.vecTimer k).isSome = true → s.raised k = false → Completes (.vectorTimer k) s fun t =>
        raise t k ∧ onlyVectors t [Reg.VEC_STATUS k, Reg.VEC_RAISES k]) ∧
      (∀ x, s.vecTimer k = some x → s.raised k = true → Completes (.vectorTimer k) s fun t =>
        (∃ y, t.vecTimer k = some y ∧ x ≤ y ∧ s.rf (Reg.VEC_CFG k) 29 16 * 3145728 ≤ y * 1000) ∧
        t = { s with evt := { s.evt with timers := t.evt.timers } }))

/-- A link that wakes sends what waited for it. A change of the PCIe link or of D3hot shows in STATUS and raises its event;
the link's fall is counted, and a function back in D0 sends the messages held for it (R502, R511). Where its event is not due
a command changes nothing (the model's choice: log entry 2). The model's own choices in it are those of log entries 30, 93. -/
def Obligations.LinkAndPowerStateChanges : Prop :=
  ∀ s : State,
    let message (k : Nat) : Emit := .msix k (s.rd (0x270000 + 16 * k)) (s.rd (0x270004 + 16 * k)) (s.rd (0x270008 + 16 * k))
    let sends (l : List Nat) : List Emit := ((l.filter fun k => !s.vectorMasked k).map message).reverse ++ s.outbox
    let waiting := (List.range 8).filter fun k => s.bitOf (Reg.VEC_STATUS k) 1
    let statuses := (List.range 8).map Reg.VEC_STATUS
    let woken (t : State) : Prop := (∀ k, k < 8 → t.bitOf (Reg.VEC_STATUS k) 1 = false) ∧
      (s.evt.msixEnable = true → t.outbox = sends waiting ∧ ∀ k ∈ waiting, s.vectorMasked k = true → t.bitOf 0x270800 k = true) ∧
      (s.evt.msixEnable = false → t.outbox = s.outbox)
    let frame (t : State) (l : List Nat) : Prop :=
      s.RegsKept t (Reg.HOST_STATUS :: 0x270800 :: l) ∧ t = { s with regs := t.regs, evt := t.evt, outbox := t.outbox }
    Completes .linkWakeDone s (fun t => t.linkPm = 0 ∧ woken t ∧ t.evt = s.evt ∧ frame t statuses) ∧
    (∀ up speed width pm, speed < 8 → width < 8 → pm < 4 →
      let was : Prop := s.bitOf Reg.HOST_STATUS 2 = up ∧ s.rf Reg.HOST_STATUS 5 3 = (if up then speed else 0) ∧
        s.rf Reg.HOST_STATUS 8 6 = (if up then width else 0)
      Completes (.pcieLinkChange up speed width pm) s fun t =>
        t.bitOf Reg.HOST_STATUS 2 = up ∧ t.rf Reg.HOST_STATUS 5 3 = (if up then speed else 0) ∧
        t.rf Reg.HOST_STATUS 8 6 = (if up then width else 0) ∧ t.linkPm = pm ∧ (¬ was → t.Raised 208) ∧
        t.counter Reg.HOST_LINK_DOWNS = s.counterAfter Reg.HOST_LINK_DOWNS (if s.bitOf Reg.HOST_STATUS 2 && !up then 1 else 0) ∧
        (pm = 0 → woken t) ∧ (pm ≠ 0 → t.outbox = s.outbox) ∧
        frame t (Reg.HOST_LINK_DOWNS :: State.evtRegs 208 ++ statuses)) ∧
    (∀ d3, s.inD3 = d3 → Completes (.d3hotChange d3) s fun t => t = s) ∧
    (s.inD3 = false → Completes (.d3hotChange true) s fun t =>
      t.inD3 = true ∧ t.Raised 209 ∧ t.outbox = s.outbox ∧ t.evt.d3Held = s.evt.d3Held ∧ frame t (State.evtRegs 209)) ∧
    (s.inD3 = true → s.evt.msixEnable = false → Completes (.d3hotChange false) s fun t =>
      t.inD3 = false ∧ t.Raised 209 ∧ t.outbox = s.outbox ∧ t.evt.d3Held = s.evt.d3Held ∧ frame t (State.evtRegs 209)) ∧
    (let held := (List.range 8).filter fun k => s.evt.d3Held.getD k false
     s.inD3 = true → s.evt.msixEnable = true → s.linkPm = 0 → Completes (.d3hotChange false) s fun t =>
      t.inD3 = false ∧ t.Raised 209 ∧ t.outbox = sends held ∧ (∀ k, k < 8 → t.evt.d3Held.getD k false = false) ∧
      (∀ k ∈ held, s.vectorMasked k = true → t.bitOf 0x270800 k = true) ∧
      t.counter Reg.EVT_LATE_DELIVERY = s.counterAfter Reg.EVT_LATE_DELIVERY held.length ∧
      frame t (Reg.EVT_LATE_DELIVERY :: State.evtRegs 209))

/-- A function reset returns the MSI-X table, the vectors and their enables to reset, keeps the pending bits, discards the
reply of a request in progress, leaves the bursts of the host to end by themselves and raises event 214, and nothing else
changes (R488, R446). A FIRMWARE reset returns the mailbox, the tunnel's key slots and its TCP sessions to reset and FW_STATE
to ROM, and leaves audio, the Pattern, time and every other register (R526). The model's own choices in it are those of log
entries 94, 96. -/
def Obligations.FunctionAndFirmwareResetsKeepTheRest : Prop :=
  (∀ s : State,
     let back := (List.range 32).map (fun k => 0x270000 + 4 * k) ++ [0x270800] ++
       (List.range 8).flatMap (fun k => [Reg.VEC_CFG k, Reg.VEC_STATUS k, Reg.VEC_RAISES k]) ++ (List.range 8).map Reg.EVT_ENABLE ++
       [Reg.EVT_CTRL]
     Completes .functionReset s fun t =>
       (∀ o ∈ back, t.rd o = resetValue s.dev o) ∧ t.evt = {} ∧ t.Raised 214 ∧ (s.inD3 = true → t.Raised 209) ∧
       (∀ n, n < 256 → s.sourcePending n = true → t.sourcePending n = true) ∧ t.inD3 = false ∧ t.bitOf Reg.HOST_STATUS 12 = false ∧
       t.host = { s.host with discardReply := s.host.discardReply || s.mbBusy } ∧
       t.mtx = { s.mtx with txns := s.mtx.txns.map fun x => if x.burst.master = 0 then { x with orphan := true } else x } ∧
       s.RegsKept t (back ++ [Reg.HOST_STATUS, Reg.EVT_MERGED, Reg.EVT_PENDING 6]) ∧
       t = { s with regs := t.regs, evt := t.evt, host := t.host, mtx := t.mtx }) ∧
  (∀ s : State,
     let back := [Reg.HOST_MB_STATUS] ++ (List.range 256).map Reg.HOST_MB_REQ ++ (List.range 256).map Reg.HOST_MB_REPLY ++
       (List.range 16).map Reg.NETC_KEY_CTRL ++ (List.range 16).map Reg.NETC_LAST_SEQ
     Completes (.firmwareResetCmd 0xA5C3) s fun t =>
       t.fwState = 0 ∧ (s.fwState ≠ 0 → t.Raised 213) ∧ (∀ o ∈ back, t.rd o = resetValue s.dev o) ∧
       t.host = { s.host with reply := none, discardReply := false, heartbeatTicks := 0, faultTicks := 0, resetDue := none,
                              fwRestart := some 9600 } ∧
       t.net = { s.net with slots := List.replicate 17 {}, tunnel := s.net.tunnel.filter fun r => !r.tcp } ∧
       t.mtx = { s.mtx with txns := s.mtx.txns.map fun x => if x.burst.master = 2 then { x with orphan := true } else x } ∧
       s.RegsKept t (back ++ Reg.HOST_STATUS :: State.evtRegs 213) ∧
       t = { s with regs := t.regs, evt := t.evt, host := t.host, net := t.net, mtx := t.mtx })

/-- A doorbell submits a request, or is an overrun while one is in progress. A service serves only its own request, once,
while the firmware or the boot ROM can: it answers the results of its rule, and the reply is written with event 211. A stalled
heartbeat leaves the firmware in FAULT (R504 to R507). Where its event is not due a command changes nothing (the model's
choice: log entry 2). The model's own choices in it are those of log entries 25, 27, 95. -/
def Obligations.MailboxServesRequests : Prop :=
  ∀ s : State, s.Canonical →
    let only (t : State) : Prop := t = { s with host := t.host }
    let formed (t : State) (result : Nat) (payload : List Word) : Prop :=
      t.host = { s.host with reply := some ⟨result, payload⟩ } ∧ s.RegsKept t []
    let open_ (n : Nat) : Prop := s.mbBusy = true ∧ s.host.reply = none ∧ s.mbService = n ∧ (s.fwState = 1 ∨ s.fwState = 2)
    let serves (c : Instr) (n length : Nat) (rom : Bool) (P : Prop) : Prop :=
      (¬ open_ n → Completes c s fun t => t = s) ∧
      (open_ n → s.mbLength ≠ length → Completes c s fun t => formed t 2 [] ∧ only t) ∧
      (open_ n → s.mbLength = length → s.fwState = 1 → rom = false → Completes c s fun t => formed t 3 [] ∧ only t) ∧
      (open_ n → s.mbLength = length → s.fwState = 2 ∨ rom = true → P)
    let answers (c : Instr) (result : Nat) (payload : List Word) : Prop := Completes c s fun t => formed t result payload
    let replied (t : State) (service result : Nat) (payload : List Word) : Prop :=
      t.mbBusy = false ∧ t.bitOf Reg.HOST_MB_STATUS 1 = true ∧ t.Raised 211 ∧ t.host.reply = none ∧
      (payload.length ≤ 253 → t.rf (Reg.HOST_MB_REPLY 0) 15 0 = service ∧ t.rf (Reg.HOST_MB_REPLY 0) 31 16 = 4 * payload.length ∧
        t.rd (Reg.HOST_MB_REPLY 1) = s.rd (Reg.HOST_MB_REQ 1) ∧ t.rd (Reg.HOST_MB_REPLY 2) = BitVec.ofNat 32 result ∧
        ∀ i w, payload[i]? = some w → t.rd (Reg.HOST_MB_REPLY (3 + i)) = w) ∧
      s.RegsKept t (Reg.HOST_MB_STATUS :: State.evtRegs 211 ++ (List.range (3 + payload.length)).map Reg.HOST_MB_REPLY)
    (s.mbBusy = true → Completes .mbDoorbell s fun t =>
      t.bitOf Reg.HOST_MB_STATUS 2 = true ∧ t.mbBusy = true ∧ s.RegsKept t [Reg.HOST_MB_STATUS] ∧ s.JustRegs t) ∧
    (s.mbBusy = false → Completes .mbDoorbell s fun t =>
      t.mbBusy = true ∧ t.bitOf Reg.HOST_MB_STATUS 1 = false ∧ t.bitOf Reg.HOST_MB_STATUS 2 = false ∧
      t.host = { s.host with reply := none, discardReply := false } ∧ s.RegsKept t [Reg.HOST_MB_STATUS] ∧
      t = { s with regs := t.regs, host := t.host }) ∧
    serves .getInfo 0x0001 0 true (Completes .getInfo s fun t => ∃ slot rom,
      formed t 0 [s.rd Reg.HOST_FW_VERSION, slot, rom, BitVec.ofNat 32 (s.uptime / 3145728000)] ∧
      (∀ k, s.host.runningSlot = some k → slot = BitVec.ofNat 32 k)) ∧
    (let r := s.masterRead 2 (s.mbAddress 0) (s.mbWord 2)
     serves .fwLoad 0x0002 12 true
      ((s.fwState ≠ 1 → answers .fwLoad 3 []) ∧
       (s.fwState = 1 → r.2 = none → Completes .fwLoad s fun t => t.host = { s.host with reply := some ⟨4, []⟩ } ∧ t.fwState = 1) ∧
       ∀ b, s.fwState = 1 → r.2 = some b →
        (∀ e, s.checkFirmware b (fun n => n == b.length) = .error e → Completes .fwLoad s fun t =>
          t.host = { s.host with reply := some ⟨5, [BitVec.ofNat 32 e.code]⟩ } ∧ t.fwState = 1) ∧
        ∀ v, s.checkFirmware b (fun n => n == b.length) = .ok v → Completes .fwLoad s fun t =>
          t.host = { s.host with reply := some ⟨0, []⟩, runningSlot := none } ∧ t.fwState = 2 ∧ t.Raised 213 ∧
          t.rd Reg.HOST_FW_VERSION = BitVec.ofNat 32 v)) ∧
    (let i := s.mbWord 0
     let r := s.masterRead 2 (s.mbAddress 1) (s.mbWord 3)
     serves .sdpToRxs 0x0010 16 false
      ((128 ≤ i ∨ 16384 < s.mbWord 3 → answers .sdpToRxs 2 []) ∧
       (i < 128 → s.mbWord 3 ≤ 16384 → s.bitOf (Reg.RXS_CTRL i) 0 = true → answers .sdpToRxs 3 []) ∧
       (i < 128 → s.mbWord 3 ≤ 16384 → s.bitOf (Reg.RXS_CTRL i) 0 = false →
        (r.2 = none ∨ (∃ b, r.2 = some b ∧ Config.sdpParse b = none) → Completes .sdpToRxs s fun t =>
          t.host = { s.host with reply := some ⟨4, []⟩ }) ∧
        ∀ b f, r.2 = some b → Config.sdpParse b = some f → Completes .sdpToRxs s fun t =>
          t.bitOf (Reg.RXS_CTRL i) 0 = false ∧
          (∀ k, 0 < k → k < 13 → t.rd (0x190004 + 0x100 * i + 4 * k) = f k &&& (regSpec s.dev (0x190004 + 0x100 * i + 4 * k)).rw) ∧
          t.host = { s.host with reply := some ⟨0, (List.range 13).map fun k => t.rd (0x190004 + 0x100 * i + 4 * k)⟩ }))) ∧
    (let i := s.mbWord 0
     let text := Config.sdpText ((List.range 11).map fun k => s.rd (0x198004 + 0x100 * i + 4 * k))
     let r := s.masterWrite 2 (s.mbAddress 1) text
     serves .txsToSdp 0x0011 16 false
      ((128 ≤ i → answers .txsToSdp 2 []) ∧ (i < 128 → s.mbWord 3 < text.length → answers .txsToSdp 4 []) ∧
       (i < 128 → text.length ≤ s.mbWord 3 →
        (r.2 = false → Completes .txsToSdp s fun t => t.host = { s.host with reply := some ⟨4, []⟩ } ∧ s.SameBytes t) ∧
        (r.2 = true → Completes .txsToSdp s fun t => t.host = { s.host with reply := some ⟨0, [BitVec.ofNat 32 text.length]⟩ } ∧
          ∀ a, Memory.get 0 t.dram a = Memory.get 0 r.1.dram a)))) ∧
    serves .ptpStatus 0x0020 0 false (Completes .ptpStatus s fun t => ∃ ports delays,
      formed t 0 (ports ++ [s.rd Reg.TIME_GM_ID_LO, s.rd Reg.TIME_GM_ID_HI, BitVec.ofNat 32 s.time.ptp.priorities,
        BitVec.ofNat 32 s.time.ptp.stepsRemoved] ++ delays) ∧
      ports.length = s.time.ptp.portState.length ∧ delays.length = s.time.ptp.pathDelay.length ∧ only t) ∧
    serves .logRead 0x0030 8 false (Completes .logRead s fun t => ∃ entries : List Word, entries.length ≤ 253 ∧ formed t 0 entries) ∧
    serves .mailboxReset 0x0040 4 false
      ((3 ≤ s.mbWord 0 → answers .mailboxReset 2 []) ∧
       (s.mbWord 0 < 3 → Completes .mailboxReset s fun t => t.host.resetDue = some (s.mbWord 0, 96) ∧
         (s.host.discardReply = false → replied t 0x0040 0 []) ∧ t = { s with regs := t.regs, evt := t.evt, host := t.host })) ∧
    (s.mbBusy = false ∨ (s.host.reply = none ∧ (State.mbUnknown s.mbService = false ∨ (s.fwState ≠ 1 ∧ s.fwState ≠ 2))) →
      Completes .mailboxReply s fun t => t = s) ∧
    (∀ r, s.mbBusy = true → s.host.reply = some r ∨
        (s.host.reply = none ∧ State.mbUnknown s.mbService = true ∧ (s.fwState = 1 ∨ s.fwState = 2) ∧ r = ⟨1, []⟩) →
      (s.host.discardReply = false → Completes .mailboxReply s fun t => replied t s.mbService r.result r.payload ∧
        t = { s with regs := t.regs, evt := t.evt, host := t.host }) ∧
      (s.host.discardReply = true → Completes .mailboxReply s fun t => t.mbBusy = false ∧
        t.host = { s.host with reply := none, discardReply := false } ∧ s.RegsKept t [Reg.HOST_MB_STATUS] ∧
        t = { s with regs := t.regs, host := t.host })) ∧
    (s.fwState = 2 → Completes .fwHeartbeatStall s fun t => t.fwState = 3 ∧ t.Raised 213 ∧ t.host = { s.host with faultTicks := 0 } ∧
      s.RegsKept t (Reg.HOST_STATUS :: State.evtRegs 213)) ∧
    (s.fwState ≠ 2 → Completes .fwHeartbeatStall s fun t => t = s)

/-! ## Clocks, power and resets -/

/-- A reset of the device returns every register and unit to reset, but for what its type keeps: OTP, the non-volatile
memories, RESETS and the cause; after POR not even RESETS. RST.CMD acts with its key only, and the other causes each under its
own condition (R514, R524 to R528). Where its event is not due a command changes nothing (the model's choice: log entry 2).
The model's own choices in it are those of log entries 10, 97. -/
def Obligations.ResetsReturnTheDeviceToReset : Prop :=
  ∀ s : State, s.Canonical →
    let clean (t : State) : Prop := t = { dev := s.dev, nand := s.nand, bootCopies := s.bootCopies, flash := s.flash, freeIdx := s.freeIdx,
                                          outbox := s.outbox, readData := s.readData, pending := s.pending, regs := t.regs, clk := t.clk }
    let afresh (t : State) (cause : Nat) : Prop := t.rd Reg.CLK_RST_CAUSE = BitVec.ofNat 32 cause ∧
      (∀ o, o ≠ Reg.CLK_RST_CAUSE → o ≠ Reg.CLK_RESETS → t.rd o = resetValue s.dev o) ∧ clean t
    let resets (c : Instr) (cause : Nat) : Prop := Completes c s fun t =>
      afresh t cause ∧ t.rd Reg.CLK_RESETS = s.rd Reg.CLK_RESETS ∧ t.clk = {}
    let ignored (c : Instr) : Prop := Completes c s fun t => t = s
    resets (.systemResetCmd 0xA5C3) 3 ∧
    (∀ key, key ≠ 0xA5C3 → ignored (.systemResetCmd key) ∧ ignored (.firmwareResetCmd key)) ∧
    (s.rootUnlocked = true → resets .pllRelock 7) ∧ (s.rootUnlocked = false → ignored .pllRelock) ∧
    (∀ rails, rails < 2048 → (2 ≤ rails → resets (.brownout rails) (1 + rails / 2 * 32)) ∧ (rails < 2 → ignored (.brownout rails))) ∧
    Completes .por s (fun t => afresh t 0 ∧ t.rd Reg.CLK_RESETS = 0 ∧ t.clk = {}) ∧
    (s.bitOf Reg.CLK_RST_CFG 0 = true → resets .perst 6) ∧
    (s.bitOf Reg.CLK_RST_CFG 0 = false → ∃ t, exec .perst s = .next t ∧ exec .functionReset s = .next t) ∧
    (10 ≤ s.clk.hotSamples → Completes .thermalReset s fun t =>
      afresh t 2 ∧ t.rd Reg.CLK_RESETS = s.rd Reg.CLK_RESETS ∧ t.clk = { thermalHold := true, thermalTrip := true }) ∧
    (s.clk.hotSamples < 10 → ignored .thermalReset)

/-- With RST_CFG.WDOG_EN = 1, a FW_STATE of FAULT that has lasted WDOG_TIME × 100 ms, 9,600 sample ticks each, resets the
device with cause WATCHDOG: every register but the cause and RESETS, and every unit but what a SYSTEM reset keeps, is back at
reset (R528). Otherwise WATCHDOG changes nothing. Where its event is not due a command changes nothing (the model's choice:
log entry 2). The model's own choices in it are those of log entry 129. -/
def Obligations.WatchdogResetsAfterItsTime : Prop :=
  ∀ s : State, s.Canonical →
    let due : Prop := s.bitOf Reg.CLK_RST_CFG 1 = true ∧ s.fwState = 3 ∧ s.rf Reg.CLK_RST_CFG 15 8 * 9600 ≤ s.host.faultTicks
    (due → Completes .watchdog s fun t =>
      t.rd Reg.CLK_RST_CAUSE = 5 ∧ t.rd Reg.CLK_RESETS = s.rd Reg.CLK_RESETS ∧
      (∀ o, o ≠ Reg.CLK_RST_CAUSE → o ≠ Reg.CLK_RESETS → t.rd o = resetValue s.dev o) ∧
      t = { dev := s.dev, nand := s.nand, bootCopies := s.bootCopies, flash := s.flash, freeIdx := s.freeIdx, outbox := s.outbox,
            readData := s.readData, pending := s.pending, regs := t.regs }) ∧
    (¬ due → Completes .watchdog s fun t => t = s)

/-- After a reset the device starts in its order: RESETS counts, the root locks, tiles are tested, DRAM trained, the firmware
slot the descriptor names runs, else the other with a fallback, else the boot ROM waits; the store mounts. While a reset is
held or after the start nothing more happens (R312, R480, R507, R525, R529). Where its event is not due a command changes
nothing (the model's choice: log entry 2). The model's own choices in it are those of log entry 17. -/
def Obligations.StartUpFollowsItsOrder : Prop :=
  ∀ (s : State) (failed trained : List Nat),
    (s.clk.thermalHold = true ∨ s.bitOf Reg.CLK_CLK_STATUS 3 = true → Completes (.resetRelease failed trained) s fun t => t = s) ∧
    (s.clk.thermalHold = false → s.bitOf Reg.CLK_CLK_STATUS 3 = false → Completes (.resetRelease failed trained) s fun t =>
      let k := fld s.bootCfg 16 16
      let runs (slot v : Nat) (fallback : Bool) : Prop := t.fwState = 2 ∧ t.host.runningSlot = some slot ∧
        t.rd Reg.HOST_FW_VERSION = BitVec.ofNat 32 v ∧ t.bitOf Reg.BOOTF_STATUS 2 = fallback ∧ (s.fwState ≠ 2 → t.Raised 213)
      t.counter Reg.CLK_RESETS = s.counterAfter Reg.CLK_RESETS 1 ∧ t.bitOf Reg.CLK_CLK_STATUS 0 = true ∧
      t.bitOf Reg.CLK_CLK_STATUS 3 = true ∧ (s.clk.thermalTrip = true → t.Raised 3 ∧ t.clk = { s.clk with thermalTrip := false }) ∧
      (∀ p, p < s.dev.part.tiles →
        (p ∈ failed → t.tileState p = 4) ∧ (p ∉ failed → p < s.dev.part.activeTiles → t.tileState p = 1) ∧
        (p ∉ failed → s.dev.part.activeTiles ≤ p → t.tileState p = 1 ∨ t.tileState p = 2)) ∧
      (∀ h, h < s.dev.part.needles → t.rf (Reg.NDL_STATUS h) 2 0 = 1) ∧
      (∀ n, n < s.dev.part.dramChannels → t.rf (Reg.DRAM_STATUS n) 1 0 = (if n ∈ trained then 1 else 3) ∧ (n ∉ trained → t.Raised 52)) ∧
      (∀ v, s.slotFirmware k = .ok v → runs k v false) ∧
      (∀ e v, s.slotFirmware k = .error e → s.slotFirmware (1 - k) = .ok v → runs (1 - k) v true) ∧
      (∀ e f, s.slotFirmware k = .error e → s.slotFirmware (1 - k) = .error f → t.fwState = 1 ∧ t.host = s.host) ∧
      (s.dev.part.hasStore = true → t.storeState = 1 ∧ t.rf Reg.STORE_STATUS 15 8 = s.nand.channels % 256) ∧
      t = { s with gauge := t.gauge, evt := t.evt, rndr := t.rndr, host := t.host, bootf := t.bootf, sched := t.sched, skein := t.skein,
                   clk := t.clk, regs := t.regs })

/-- A rail below its warning level opens a dip, which holds programs and erases, and closes it with its duration when every
rail has recovered (R523). A thermal sample sets the readings, the warning and the count of hot samples, and ends a thermal
reset once the die is cool (R525). Where its event is not due a command changes nothing (the model's choice: log entry 2). The
model's own choices in it are those of log entry 97. -/
def Obligations.SupplyDipsAndThermalSamples : Prop :=
  ∀ s : State,
    let opened := s.bitOf Reg.CLK_PWR_STATUS 1
    (∀ at', opened = false → Completes (.supplyWarn 0 at') s fun t => t = s) ∧
    (∀ rails at', rails < 2048 → 0 < rails ∨ opened = true → Completes (.supplyWarn rails at') s fun t =>
      t.bitOf Reg.CLK_PWR_STATUS 0 = decide (0 < rails) ∧ t.bitOf Reg.CLK_PWR_STATUS 1 = true ∧ t.rf Reg.CLK_PWR_STATUS 18 8 = rails ∧
      t.sourceLive 0 = decide (0 < rails) ∧ (0 < rails → s.sourceLive 0 = false → t.Raised 0) ∧
      t.clk = { s.clk with dipFirst := if opened then s.clk.dipFirst else at',
                           dipLast := if opened then max s.clk.dipLast at' else at' } ∧
      (opened = false → s.dev.part.hasStore = true → t.counter Reg.STORE_HOLDS = s.counterAfter Reg.STORE_HOLDS 1) ∧
      s.RegsKept t ([Reg.CLK_PWR_STATUS, Reg.STORE_STATUS, Reg.STORE_HOLDS] ++ State.evtRegs 0) ∧
      t = { s with regs := t.regs, evt := t.evt, clk := t.clk }) ∧
    (∀ last, opened = false → Completes (.dipEnd last) s fun t => t = s) ∧
    (∀ last, opened = true → Completes (.dipEnd last) s fun t =>
      t.rd Reg.CLK_DIP_DURATION = BitVec.ofNat 32 (min (max last s.clk.dipLast - s.clk.dipFirst) 0xFFFFFFFF) ∧
      t.counter Reg.CLK_DIPS = s.counterAfter Reg.CLK_DIPS 1 ∧ t.bitOf Reg.CLK_PWR_STATUS 0 = false ∧
      t.bitOf Reg.CLK_PWR_STATUS 1 = false ∧ t.bitOf Reg.STORE_STATUS 5 = false ∧ t.sourceLive 0 = false ∧ t.Raised 1 ∧
      s.RegsKept t ([Reg.CLK_PWR_STATUS, Reg.CLK_DIP_DURATION, Reg.CLK_DIPS, Reg.STORE_STATUS] ++ State.evtRegs 1) ∧ s.OnlyRegs t) ∧
    (∀ raw : Int,
      let tj := raw + s.tsenseEcal
      let warn := decide ((s.rf Reg.CLK_THERM_CFG 15 0 : Int) ≤ (satWord tj).toInt)
      (s.clk.thermalHold = true → Completes (.thermalSample raw) s fun t =>
        t = { s with clk := { s.clk with thermalHold := decide (11000 ≤ tj) } }) ∧
      (s.clk.thermalHold = false → Completes (.thermalSample raw) s fun t =>
        t.rd Reg.CLK_TJ = satWord tj ∧
        t.rd Reg.CLK_TJ_MAX = (if (s.rd Reg.CLK_TJ_MAX).toInt < tj then satWord tj else s.rd Reg.CLK_TJ_MAX) ∧
        (s.dev.part.hasGauge = true → t.rd Reg.GAUGE_DIE_TEMP = satWord tj) ∧
        t.bitOf Reg.CLK_PWR_STATUS 2 = warn ∧ t.sourceLive 2 = warn ∧ (warn = true → s.sourceLive 2 = false → t.Raised 2) ∧
        t.clk = { s.clk with hotSamples := if 13500 ≤ tj then s.clk.hotSamples + 1 else 0 } ∧
        s.RegsKept t ([Reg.CLK_TJ, Reg.CLK_TJ_MAX, Reg.GAUGE_DIE_TEMP, Reg.CLK_PWR_STATUS] ++ State.evtRegs 2) ∧
        t = { s with regs := t.regs, evt := t.evt, clk := t.clk }))

/-- The root's unlock clears its lock, is counted and puts event source 4 live (R514); a reference shows as present or not
(R513). A FIFO that resynchronises drops what it holds and what was offered, and a slave TDM port acquires again (R519). A
trained Frenus Link comes up where it is enabled and its clocks run (R397). Where its event is not due a command changes
nothing (the model's choice: log entry 2). -/
def Obligations.UnlockReferencesResyncAndTraining : Prop :=
  ∀ s : State,
    (s.bitOf Reg.CLK_CLK_STATUS 0 = false → Completes .pllUnlock s fun t => t = s) ∧
    (s.bitOf Reg.CLK_CLK_STATUS 0 = true → Completes .pllUnlock s fun t =>
      t.bitOf Reg.CLK_CLK_STATUS 0 = false ∧ t.rootUnlocked = true ∧ (s.rootUnlocked = false → t.Raised 4) ∧
      t.counter Reg.CLK_PLL_UNLOCKS = s.counterAfter Reg.CLK_PLL_UNLOCKS 1 ∧
      s.RegsKept t ([Reg.CLK_CLK_STATUS, Reg.CLK_PLL_UNLOCKS] ++ State.evtRegs 4) ∧ s.OnlyRegs t) ∧
    (∀ ref25 present, Completes (.refclkChange ref25 present) s fun t =>
      t.bitOf Reg.CLK_CLK_STATUS (if ref25 then 1 else 2) = present ∧
      (∀ b, b < 32 → b ≠ (if ref25 then 1 else 2) → t.bitOf Reg.CLK_CLK_STATUS b = s.bitOf Reg.CLK_CLK_STATUS b) ∧
      s.RegsKept t [Reg.CLK_CLK_STATUS] ∧ s.JustRegs t) ∧
    (∀ c held offered,
      let drops (t : State) (n : Nat) : Prop := t.counter Reg.CLK_FIFO_DROPS = s.counterAfter Reg.CLK_FIFO_DROPS (n + offered) ∧
        t.counter Reg.CLK_CROSS_RESYNCS = s.counterAfter Reg.CLK_CROSS_RESYNCS 1
      (∀ p, (c = Crossing.net p ∧ p < 2) ∨ (c = .cas p ∧ p < s.dev.part.casPorts) → Completes (.fifoResync c held offered) s fun t =>
        drops t held ∧ s.RegsKept t [Reg.CLK_FIFO_DROPS, Reg.CLK_CROSS_RESYNCS] ∧ s.JustRegs t) ∧
      (∀ n, c = .tdm n → n < 32 → s.tdmMaster n = false → Completes (.fifoResync c held offered) s fun t =>
        drops t ((s.tdmPort n).rxFifo.length + (s.tdmPort n).txFifo.length) ∧ (t.tdmPort n).rxFifo = [] ∧ (t.tdmPort n).txFifo = [] ∧
        (t.tdmPort n).valid = 0 ∧ t.tdmState n = (if s.tdmState n = 2 then 1 else s.tdmState n) ∧
        t.rf (Reg.TDM_FIFO n) 3 0 = 0 ∧ t.rf (Reg.TDM_FIFO n) 11 8 = 0 ∧
        s.RegsKept t [Reg.CLK_FIFO_DROPS, Reg.CLK_CROSS_RESYNCS, Reg.TDM_FIFO n, Reg.TDM_STATUS n] ∧
        (∀ q, q ≠ n → t.tdmPort q = s.tdmPort q) ∧ t = { s with regs := t.regs, tdm := t.tdm }) ∧
      (∀ n, (c = .tdm n ∧ (32 ≤ n ∨ s.tdmMaster n = true)) ∨ (c = .net n ∧ 2 ≤ n) ∨ (c = .cas n ∧ s.dev.part.casPorts ≤ n) →
        Completes (.fifoResync c held offered) s fun t => t = s)) ∧
    (∀ n inverted, n < s.dev.part.casPorts →
      let ready : Prop := s.casEnabled n = true ∧ s.bitOf Reg.CLK_CLK_STATUS 1 = true ∧ s.rootUnlocked = false
      (s.casUp n = false → ready → Completes (.frenusLinkTrainingDone n true inverted) s fun t =>
        t.casUp n = true ∧ t.bitOf (Reg.CAS_STATUS n) 1 = inverted ∧ t.Raised 160 ∧ (inverted = true → t.Raised 161) ∧ t.cas = s.cas ∧
        s.RegsKept t (Reg.CAS_STATUS n :: State.evtRegs 160) ∧ s.OnlyRegs t) ∧
      (s.casUp n = true ∨ ¬ ready → Completes (.frenusLinkTrainingDone n true inverted) s fun t => t = s) ∧
      (s.casUp n = false → Completes (.frenusLinkTrainingDone n false inverted) s fun t => t = s) ∧
      (s.casUp n = true → Completes (.frenusLinkTrainingDone n false inverted) s fun t =>
        t.casUp n = false ∧ t.Raised 160 ∧ t.counter (Reg.CAS_LINK_DOWNS n) = s.counterAfter (Reg.CAS_LINK_DOWNS n) 1))
end

