-- ==== Sys2Proof/Laws/Assoc.lean ====
section
/-! SUPPORT. Laws of the sorted association lists, of the register file and of the byte memories: a read after a write, and the
canonical forms, which every operation keeps. -/

namespace Sys2Proof.Machine

variable {α : Type}

/-! ### Association lists -/

@[simp] theorem Assoc.get?_nil (k : Nat) : Assoc.get? k ([] : List (Nat × α)) = none := rfl

theorem Assoc.get?_cons (k a : Nat) (v : α) (r : List (Nat × α)) :
    Assoc.get? k ((a, v) :: r) = if a = k then some v else Assoc.get? k r := rfl

@[simp] theorem Assoc.get?_put_same (k : Nat) (v : α) (l : List (Nat × α)) : Assoc.get? k (Assoc.put k v l) = some v := by
  induction l with
  | nil => simp [Assoc.put, Assoc.get?]
  | cons e r ih =>
    obtain ⟨a, w⟩ := e
    simp only [Assoc.put]
    split
    · simp [Assoc.get?]
    · split
      · simp [Assoc.get?]
      · rename_i h _; simp [Assoc.get?, h, ih]

theorem Assoc.get?_put_other {j k : Nat} (h : j ≠ k) (v : α) (l : List (Nat × α)) :
    Assoc.get? j (Assoc.put k v l) = Assoc.get? j l := by
  induction l with
  | nil => simp [Assoc.put, Assoc.get?, Ne.symm h]
  | cons e r ih =>
    obtain ⟨a, w⟩ := e
    simp only [Assoc.put]
    split
    · rename_i ha; subst ha; simp [Assoc.get?, Ne.symm h]
    · split
      · simp [Assoc.get?, Ne.symm h]
      · simp [Assoc.get?, ih]

@[simp] theorem Assoc.get?_del_same (k : Nat) (l : List (Nat × α)) : Assoc.get? k (Assoc.del k l) = none := by
  induction l with
  | nil => rfl
  | cons e r ih =>
    obtain ⟨a, w⟩ := e
    simp only [Assoc.del]
    split
    · exact ih
    · rename_i h; simp [Assoc.get?, h, ih]

theorem Assoc.get?_del_other {j k : Nat} (h : j ≠ k) (l : List (Nat × α)) : Assoc.get? j (Assoc.del k l) = Assoc.get? j l := by
  induction l with
  | nil => rfl
  | cons e r ih =>
    obtain ⟨a, w⟩ := e
    simp only [Assoc.del]
    split
    · rename_i ha; subst ha; simp [Assoc.get?, Ne.symm h, ih]
    · simp [Assoc.get?, ih]

/-! ### Rising keys -/

theorem Assoc.sorted_iff (l : List (Nat × α)) : Assoc.sorted l = true ↔ l.Pairwise fun a b => a.1 < b.1 := by
  induction l with
  | nil => simp [Assoc.sorted]
  | cons e r ih =>
    cases r with
    | nil => simp [Assoc.sorted]
    | cons f r =>
      simp only [Assoc.sorted, Bool.and_eq_true, decide_eq_true_eq, ih, List.pairwise_cons]
      constructor
      · rintro ⟨h, h1, h2⟩
        refine ⟨?_, h1, h2⟩
        intro x hx
        rcases List.mem_cons.mp hx with rfl | hx
        · exact h
        · exact Nat.lt_trans h (h1 x hx)
      · rintro ⟨h, h1, h2⟩
        exact ⟨h f (List.mem_cons_self ..), h1, h2⟩

theorem Assoc.mem_put {k : Nat} {v : α} {l : List (Nat × α)} {e : Nat × α} (h : e ∈ Assoc.put k v l) : e = (k, v) ∨ e ∈ l := by
  induction l with
  | nil => simp [Assoc.put] at h; exact .inl h
  | cons f r ih =>
    obtain ⟨a, w⟩ := f
    simp only [Assoc.put] at h
    split at h
    · rcases List.mem_cons.mp h with h | h
      · exact .inl h
      · exact .inr (List.mem_cons_of_mem _ h)
    · split at h
      · rcases List.mem_cons.mp h with h | h
        · exact .inl h
        · exact .inr h
      · rcases List.mem_cons.mp h with h | h
        · exact .inr (h ▸ List.mem_cons_self ..)
        · exact (ih h).imp id (List.mem_cons_of_mem _)

theorem Assoc.mem_del {k : Nat} {l : List (Nat × α)} {e : Nat × α} (h : e ∈ Assoc.del k l) : e ∈ l := by
  induction l with
  | nil => simp [Assoc.del] at h
  | cons f r ih =>
    obtain ⟨a, w⟩ := f
    simp only [Assoc.del] at h
    split at h
    · exact List.mem_cons_of_mem _ (ih h)
    · rcases List.mem_cons.mp h with h | h
      · exact h ▸ List.mem_cons_self ..
      · exact List.mem_cons_of_mem _ (ih h)

theorem Assoc.sorted_put (k : Nat) (v : α) {l : List (Nat × α)} (h : Assoc.sorted l = true) : Assoc.sorted (Assoc.put k v l) = true := by
  rw [Assoc.sorted_iff] at *
  induction l with
  | nil => simp [Assoc.put]
  | cons f r ih =>
    obtain ⟨a, w⟩ := f
    obtain ⟨h1, h2⟩ := List.pairwise_cons.mp h
    simp only [Assoc.put]
    split
    · rename_i ha; subst ha; exact List.pairwise_cons.mpr ⟨fun x hx => h1 x hx, h2⟩
    · split
      · rename_i hk
        refine List.pairwise_cons.mpr ⟨?_, h⟩
        intro x hx
        rcases List.mem_cons.mp hx with rfl | hx
        · exact hk
        · exact Nat.lt_trans hk (h1 x hx)
      · rename_i hne hlt
        refine List.pairwise_cons.mpr ⟨?_, ih h2⟩
        intro x hx
        rcases Assoc.mem_put hx with rfl | hx
        · show a < k; omega
        · exact h1 x hx

theorem Assoc.sorted_del (k : Nat) {l : List (Nat × α)} (h : Assoc.sorted l = true) : Assoc.sorted (Assoc.del k l) = true := by
  rw [Assoc.sorted_iff] at *
  induction l with
  | nil => simp [Assoc.del]
  | cons f r ih =>
    obtain ⟨a, w⟩ := f
    obtain ⟨h1, h2⟩ := List.pairwise_cons.mp h
    simp only [Assoc.del]
    split
    · exact ih h2
    · exact List.pairwise_cons.mpr ⟨fun x hx => h1 x (Assoc.mem_del hx), ih h2⟩

/-! ### The register file -/

@[simp] theorem RegFile.get_put_same (rst : Nat → Word) (m : RegFile) (o : Nat) (v : Word) :
    RegFile.get rst (RegFile.put rst m o v) o = v := by
  unfold RegFile.get RegFile.put
  split
  · rename_i h; simp [h]
  · simp

theorem RegFile.get_put_other (rst : Nat → Word) (m : RegFile) {o p : Nat} (h : p ≠ o) (v : Word) :
    RegFile.get rst (RegFile.put rst m o v) p = RegFile.get rst m p := by
  unfold RegFile.get RegFile.put
  split
  · rw [Assoc.get?_del_other h]
  · rw [Assoc.get?_put_other h]

theorem RegFile.wf_put (rst : Nat → Word) {m : RegFile} (h : RegFile.wf rst m = true) (o : Nat) (v : Word) :
    RegFile.wf rst (RegFile.put rst m o v) = true := by
  simp only [RegFile.wf, Bool.and_eq_true, List.all_eq_true, bne_iff_ne] at *
  unfold RegFile.put
  split
  · exact ⟨Assoc.sorted_del o h.1, fun x hx => h.2 x (Assoc.mem_del hx)⟩
  · rename_i hv
    refine ⟨Assoc.sorted_put o v h.1, fun x hx => ?_⟩
    rcases Assoc.mem_put hx with rfl | hx
    · exact hv
    · exact h.2 x hx

/-! ### Byte memories -/

@[simp] theorem Memory.get_nil (blank : Byte) (a : Nat) : Memory.get blank [] a = blank := rfl

@[simp] theorem Memory.wf_nil (blank : Byte) : Memory.wf blank [] = true := rfl

@[simp] theorem Memory.get_put_same (blank : Byte) (m : List Host.Cell) (a : Nat) (v : Byte) :
    Memory.get blank (Memory.put blank m a v) a = v := by
  unfold Memory.get Memory.put
  split
  · rename_i h; simp [h]
  · simp

theorem Memory.get_put_other (blank : Byte) (m : List Host.Cell) {a b : Nat} (h : b ≠ a) (v : Byte) :
    Memory.get blank (Memory.put blank m a v) b = Memory.get blank m b := by
  unfold Memory.get Memory.put
  split
  · rw [Assoc.get?_del_other h]
  · rw [Assoc.get?_put_other h]

theorem Memory.wf_put (blank : Byte) {m : List Host.Cell} (h : Memory.wf blank m = true) (a : Nat) (v : Byte) :
    Memory.wf blank (Memory.put blank m a v) = true := by
  simp only [Memory.wf, Bool.and_eq_true, List.all_eq_true, bne_iff_ne] at *
  unfold Memory.put
  split
  · exact ⟨Assoc.sorted_del a h.1, fun x hx => h.2 x (Assoc.mem_del hx)⟩
  · rename_i hv
    refine ⟨Assoc.sorted_put a v h.1, fun x hx => ?_⟩
    rcases Assoc.mem_put hx with rfl | hx
    · exact hv
    · exact h.2 x hx

theorem Memory.wf_write (blank : Byte) {m : List Host.Cell} (h : Memory.wf blank m = true) (a : Nat) (l : List (Option Byte)) :
    Memory.wf blank (Memory.write blank m a l) = true := by
  induction l generalizing m a with
  | nil => exact h
  | cons o r ih =>
    cases o with
    | none => exact ih h (a + 1)
    | some v => exact ih (Memory.wf_put blank h a v) (a + 1)

/-- Bytes outside a write are as before. -/
theorem Memory.get_write_outside (blank : Byte) (m : List Host.Cell) (a b : Nat) (l : List (Option Byte))
    (h : b < a ∨ a + l.length ≤ b) : Memory.get blank (Memory.write blank m a l) b = Memory.get blank m b := by
  induction l generalizing m a with
  | nil => rfl
  | cons o r ih =>
    simp only [List.length_cons] at h
    cases o with
    | none => exact ih m (a + 1) (by omega)
    | some v => rw [Memory.write, ih _ (a + 1) (by omega), Memory.get_put_other blank m (by omega)]

/-- Bytes inside a write read what was written, where the strobe is set. -/
theorem Memory.get_write_inside (blank : Byte) (m : List Host.Cell) (a i : Nat) (l : List (Option Byte)) (h : i < l.length) :
    Memory.get blank (Memory.write blank m a l) (a + i) = (l[i]).getD (Memory.get blank m (a + i)) := by
  induction l generalizing m a i with
  | nil => simp at h
  | cons o r ih =>
    cases i with
    | zero =>
      cases o with
      | none => simp [Memory.write, Memory.get_write_outside blank m (a + 1) a r (by omega)]
      | some v => simp [Memory.write, Memory.get_write_outside blank _ (a + 1) a r (by omega)]
    | succ i =>
      have h' : i < r.length := by simpa using h
      have e : a + (i + 1) = a + 1 + i := by omega
      cases o with
      | none => rw [e]; simpa [Memory.write] using ih m (a + 1) i h'
      | some v =>
        rw [e]
        simp only [Memory.write, ih _ (a + 1) i h', List.getElem_cons_succ]
        rw [Memory.get_put_other blank m (by omega)]

/-- The canonical form is canonical. -/
@[simp] theorem Memory.wf_canon (blank : Byte) (m : List Host.Cell) : Memory.wf blank (Memory.canon blank m) = true := by
  induction m with
  | nil => rfl
  | cons e r ih => exact Memory.wf_put blank ih e.1 e.2

/-- A memory and its canonical form read alike. -/
@[simp] theorem Memory.get_canon (blank : Byte) (m : List Host.Cell) (a : Nat) :
    Memory.get blank (Memory.canon blank m) a = Memory.get blank m a := by
  induction m with
  | nil => rfl
  | cons e r ih =>
    obtain ⟨b, v⟩ := e
    show Memory.get blank (Memory.put blank (Memory.canon blank r) b v) a = _
    by_cases h : a = b
    · subst h; simp [Memory.get, Assoc.get?] at *
      unfold Memory.put
      split
      · rename_i hv; simp [hv]
      · simp
    · rw [Memory.get_put_other blank _ h, ih]
      simp [Memory.get, Assoc.get?, Ne.symm h]

/-- A canonical memory is its canonical form. -/
theorem Memory.canon_of_wf (blank : Byte) {m : List Host.Cell} (h : Memory.wf blank m = true) : Memory.canon blank m = m := by
  induction m with
  | nil => rfl
  | cons e r ih =>
    obtain ⟨a, v⟩ := e
    simp only [Memory.wf, Bool.and_eq_true, List.all_eq_true, bne_iff_ne, Assoc.sorted_iff] at h ih
    obtain ⟨h1, h2⟩ := List.pairwise_cons.mp h.1
    have hr : Memory.canon blank r = r := ih ⟨h2, fun x hx => h.2 x (List.mem_cons_of_mem _ hx)⟩
    show Memory.put blank (Memory.canon blank r) a v = _
    rw [hr, Memory.put, if_neg (h.2 (a, v) (List.mem_cons_self ..))]
    cases r with
    | nil => rfl
    | cons f r =>
      obtain ⟨b, w⟩ := f
      have hb : a < b := h1 (b, w) (List.mem_cons_self ..)
      simp [Assoc.put, Nat.ne_of_gt hb, hb]

end Sys2Proof.Machine
end

