-- ==== Sys2Proof/Laws/Bits.lean ====
section
/-! SUPPORT. Laws of the bit fields of a word: what a field reads after a field is set. -/

namespace Sys2Proof.Machine

theorem natField_lt (w hi lo : Nat) : natField w hi lo < 2 ^ (hi + 1 - lo) := Nat.mod_lt _ (Nat.two_pow_pos _)

theorem fld_lt (w : Word) (hi lo : Nat) : fld w hi lo < 2 ^ (hi + 1 - lo) := natField_lt _ _ _

/-- A field of a zero word is zero. -/
@[simp] theorem fld_zero (hi lo : Nat) : fld 0#32 hi lo = 0 := by simp [fld, natField]

@[simp] theorem bitAt_zero (b : Nat) : bitAt 0#32 b = false := by simp [bitAt]

/-- The word that setFld makes, by its low part, its field and its high part. -/
theorem setFld_toNat (w : Word) (hi lo n : Nat) (h : lo ≤ hi) (h32 : hi < 32) :
    (setFld w hi lo n).toNat =
      w.toNat % 2 ^ lo + 2 ^ lo * (n % 2 ^ (hi + 1 - lo) + 2 ^ (hi + 1 - lo) * (w.toNat / 2 ^ (hi + 1))) := by
  have hx : w.toNat < 2 ^ 32 := w.isLt
  generalize hxe : w.toNat = x at hx
  have hsplit : 2 ^ (hi + 1) = 2 ^ lo * 2 ^ (hi + 1 - lo) := by rw [← Nat.pow_add]; congr 1; omega
  have hdd : x / 2 ^ (hi + 1) = x / 2 ^ lo / 2 ^ (hi + 1 - lo) := by rw [hsplit, Nat.div_div_eq_div_mul]
  have hC : x / 2 ^ (hi + 1) < 2 ^ (31 - hi) := by
    rw [Nat.div_lt_iff_lt_mul (Nat.two_pow_pos _), ← Nat.pow_add]
    have : 31 - hi + (hi + 1) = 32 := by omega
    rwa [this]
  have h32' : 2 ^ (hi + 1) * 2 ^ (31 - hi) = 2 ^ 32 := by rw [← Nat.pow_add]; congr 1; omega
  have e1 := Nat.mod_add_div x (2 ^ lo)
  have e2 := Nat.mod_add_div (x / 2 ^ lo) (2 ^ (hi + 1 - lo))
  have hA := Nat.mod_lt x (Nat.two_pow_pos lo)
  have hB := Nat.mod_lt (x / 2 ^ lo) (Nat.two_pow_pos (hi + 1 - lo))
  have hm := Nat.mod_lt n (Nat.two_pow_pos (hi + 1 - lo))
  rw [← hdd] at e2
  simp only [setFld, fld, natField, BitVec.toNat_ofNat, hxe]
  rw [hsplit] at h32'
  generalize 2 ^ lo = P at *
  generalize 2 ^ (hi + 1 - lo) = Q at *
  generalize 2 ^ (31 - hi) = R at *
  generalize x / 2 ^ (hi + 1) = C at *
  generalize n % Q = m at *
  generalize x % P = A at *
  generalize x / P % Q = B at *
  have key : x - B * P + m * P = A + P * (m + Q * C) := by
    have : x = A + P * B + P * Q * C := by rw [← e1, ← e2]; ring
    have h1 : B * P ≤ x := by rw [this]; nlinarith
    zify [h1]; rw [this]; push_cast; ring
  rw [key]
  apply Nat.mod_eq_of_lt
  have hQ : m + Q * C + 1 ≤ Q * R := by
    have : Q * (C + 1) ≤ Q * R := Nat.mul_le_mul_left _ hC
    nlinarith
  have : P * (m + Q * C + 1) ≤ P * (Q * R) := Nat.mul_le_mul_left _ hQ
  have h2 : P * Q * R = P * (Q * R) := by ring
  rw [← h32', h2]
  nlinarith

/-- A field reads what it was set to, reduced to its width. -/
theorem fld_setFld_same (w : Word) (hi lo n : Nat) (h : lo ≤ hi) (h32 : hi < 32) :
    fld (setFld w hi lo n) hi lo = n % 2 ^ (hi + 1 - lo) := by
  have hA := Nat.mod_lt w.toNat (Nat.two_pow_pos lo)
  rw [fld, natField, setFld_toNat w hi lo n h h32, Nat.add_mul_div_left _ _ (Nat.two_pow_pos lo), Nat.div_eq_of_lt hA,
    Nat.zero_add, Nat.add_mul_mod_self_left, Nat.mod_mod]

/-- A field below the one that is set is unchanged. -/
theorem fld_setFld_below (w : Word) (hi lo n hi' lo' : Nat) (h : lo ≤ hi) (h32 : hi < 32) (hb : hi' < lo) :
    fld (setFld w hi lo n) hi' lo' = fld w hi' lo' := by
  by_cases hl : hi' + 1 ≤ lo'
  · have : hi' + 1 - lo' = 0 := by omega
    simp [fld, natField, this, Nat.mod_one]
  · have hs : 2 ^ lo = 2 ^ lo' * (2 ^ (hi' + 1 - lo') * 2 ^ (lo - (hi' + 1))) := by
      rw [← Nat.pow_add, ← Nat.pow_add]; congr 1; omega
    have key : ∀ a b : Nat, (a % 2 ^ lo + 2 ^ lo * b) / 2 ^ lo' % 2 ^ (hi' + 1 - lo') = a / 2 ^ lo' % 2 ^ (hi' + 1 - lo') := by
      intro a b
      have hd : a % 2 ^ lo + 2 ^ lo * b = a % 2 ^ lo + 2 ^ lo' * (2 ^ (hi' + 1 - lo') * (2 ^ (lo - (hi' + 1)) * b)) := by
        conv_lhs => rw [hs]
        conv_rhs => rw [hs]
        ring
      rw [hd, Nat.add_mul_div_left _ _ (Nat.two_pow_pos lo'), Nat.add_mul_mod_self_left]
      conv_rhs => rw [← Nat.mod_add_div a (2 ^ lo)]
      have hd2 : a % 2 ^ lo + 2 ^ lo * (a / 2 ^ lo) =
          a % 2 ^ lo + 2 ^ lo' * (2 ^ (hi' + 1 - lo') * (2 ^ (lo - (hi' + 1)) * (a / 2 ^ lo))) := by
        conv_lhs => rw [hs]
        conv_rhs => rw [hs]
        ring
      rw [hd2, Nat.add_mul_div_left _ _ (Nat.two_pow_pos lo'), Nat.add_mul_mod_self_left]
    rw [fld, natField, setFld_toNat w hi lo n h h32, key]
    rfl

/-- A field above the one that is set is unchanged. -/
theorem fld_setFld_above (w : Word) (hi lo n hi' lo' : Nat) (h : lo ≤ hi) (h32 : hi < 32) (hb : hi < lo') :
    fld (setFld w hi lo n) hi' lo' = fld w hi' lo' := by
  have hA := Nat.mod_lt w.toNat (Nat.two_pow_pos lo)
  have hm := Nat.mod_lt n (Nat.two_pow_pos (hi + 1 - lo))
  have hs2 : 2 ^ lo' = 2 ^ (hi + 1) * 2 ^ (lo' - (hi + 1)) := by rw [← Nat.pow_add]; congr 1; omega
  have e : (setFld w hi lo n).toNat / 2 ^ lo' = w.toNat / 2 ^ lo' := by
    have h1 : (setFld w hi lo n).toNat / 2 ^ (hi + 1) = w.toNat / 2 ^ (hi + 1) := by
      have hs3 : 2 ^ (hi + 1) = 2 ^ lo * 2 ^ (hi + 1 - lo) := by rw [← Nat.pow_add]; congr 1; omega
      conv_lhs => rw [hs3]
      rw [setFld_toNat w hi lo n h h32, ← Nat.div_div_eq_div_mul, Nat.add_mul_div_left _ _ (Nat.two_pow_pos lo),
        Nat.div_eq_of_lt hA, Nat.zero_add, Nat.add_mul_div_left _ _ (Nat.two_pow_pos _), Nat.div_eq_of_lt hm, Nat.zero_add]
    rw [hs2, ← Nat.div_div_eq_div_mul, ← Nat.div_div_eq_div_mul, h1]
  simp [fld, natField, e]

theorem bitAt_setFld_same (w : Word) (b : Nat) (v : Bool) (h : b < 32) : bitAt (setFld w b b (b2n v)) b = v := by
  rw [bitAt, fld_setFld_same w b b _ (Nat.le_refl b) h]
  cases v <;> simp [b2n]

theorem bitAt_setFld_other (w : Word) (b c n : Nat) (h : b < 32) (hc : c ≠ b) : bitAt (setFld w b b n) c = bitAt w c := by
  rcases Nat.lt_or_ge c b with h1 | h1
  · simp [bitAt, fld_setFld_below w b b n c c (Nat.le_refl b) h h1]
  · simp [bitAt, fld_setFld_above w b b n c c (Nat.le_refl b) h (by omega)]

end Sys2Proof.Machine
end

