-- ==== Sys2Proof/Laws/State.lean ====
section
/-! SUPPORT. What each named operation over the state leaves alone, one lemma for each field of State and each update, and what a
register reads after the operations that write registers. -/

namespace Sys2Proof.Machine.State

/-! ### Operations that write registers: every other field of the state is as it was -/

@[simp] theorem wr_dev (s : State) (o : Nat) (v : Word) : (s.wr o v).dev = s.dev := rfl
@[simp] theorem wr_now (s : State) (o : Nat) (v : Word) : (s.wr o v).now = s.now := rfl
@[simp] theorem wr_uptime (s : State) (o : Nat) (v : Word) : (s.wr o v).uptime = s.uptime := rfl
@[simp] theorem wr_applied (s : State) (o : Nat) (v : Word) : (s.wr o v).applied = s.applied := rfl
@[simp] theorem wr_latches (s : State) (o : Nat) (v : Word) : (s.wr o v).latches = s.latches := rfl
@[simp] theorem wr_ticked (s : State) (o : Nat) (v : Word) : (s.wr o v).ticked = s.ticked := rfl
@[simp] theorem wr_evt (s : State) (o : Nat) (v : Word) : (s.wr o v).evt = s.evt := rfl
@[simp] theorem wr_host (s : State) (o : Nat) (v : Word) : (s.wr o v).host = s.host := rfl
@[simp] theorem wr_clk (s : State) (o : Nat) (v : Word) : (s.wr o v).clk = s.clk := rfl
@[simp] theorem wr_time (s : State) (o : Nat) (v : Word) : (s.wr o v).time = s.time := rfl
@[simp] theorem wr_net (s : State) (o : Nat) (v : Word) : (s.wr o v).net = s.net := rfl
@[simp] theorem wr_cond (s : State) (o : Nat) (v : Word) : (s.wr o v).cond = s.cond := rfl
@[simp] theorem wr_skein (s : State) (o : Nat) (v : Word) : (s.wr o v).skein = s.skein := rfl
@[simp] theorem wr_pat (s : State) (o : Nat) (v : Word) : (s.wr o v).pat = s.pat := rfl
@[simp] theorem wr_omd (s : State) (o : Nat) (v : Word) : (s.wr o v).omd = s.omd := rfl
@[simp] theorem wr_rndr (s : State) (o : Nat) (v : Word) : (s.wr o v).rndr = s.rndr := rfl
@[simp] theorem wr_ndl (s : State) (o : Nat) (v : Word) : (s.wr o v).ndl = s.ndl := rfl
@[simp] theorem wr_sched (s : State) (o : Nat) (v : Word) : (s.wr o v).sched = s.sched := rfl
@[simp] theorem wr_xp (s : State) (o : Nat) (v : Word) : (s.wr o v).xp = s.xp := rfl
@[simp] theorem wr_outs (s : State) (o : Nat) (v : Word) : (s.wr o v).outs = s.outs := rfl
@[simp] theorem wr_gauge (s : State) (o : Nat) (v : Word) : (s.wr o v).gauge = s.gauge := rfl
@[simp] theorem wr_tdm (s : State) (o : Nat) (v : Word) : (s.wr o v).tdm = s.tdm := rfl
@[simp] theorem wr_cas (s : State) (o : Nat) (v : Word) : (s.wr o v).cas = s.cas := rfl
@[simp] theorem wr_hedge (s : State) (o : Nat) (v : Word) : (s.wr o v).hedge = s.hedge := rfl
@[simp] theorem wr_store (s : State) (o : Nat) (v : Word) : (s.wr o v).store = s.store := rfl
@[simp] theorem wr_bootf (s : State) (o : Nat) (v : Word) : (s.wr o v).bootf = s.bootf := rfl
@[simp] theorem wr_mtx (s : State) (o : Nat) (v : Word) : (s.wr o v).mtx = s.mtx := rfl
@[simp] theorem wr_dram (s : State) (o : Nat) (v : Word) : (s.wr o v).dram = s.dram := rfl
@[simp] theorem wr_nand (s : State) (o : Nat) (v : Word) : (s.wr o v).nand = s.nand := rfl
@[simp] theorem wr_bootCopies (s : State) (o : Nat) (v : Word) : (s.wr o v).bootCopies = s.bootCopies := rfl
@[simp] theorem wr_flash (s : State) (o : Nat) (v : Word) : (s.wr o v).flash = s.flash := rfl
@[simp] theorem wr_freeIdx (s : State) (o : Nat) (v : Word) : (s.wr o v).freeIdx = s.freeIdx := rfl
@[simp] theorem wr_outbox (s : State) (o : Nat) (v : Word) : (s.wr o v).outbox = s.outbox := rfl
@[simp] theorem wr_readData (s : State) (o : Nat) (v : Word) : (s.wr o v).readData = s.readData := rfl
@[simp] theorem wr_pending (s : State) (o : Nat) (v : Word) : (s.wr o v).pending = s.pending := rfl

@[simp] theorem wf_dev (s : State) (o hi lo n : Nat) : (s.wf o hi lo n).dev = s.dev := rfl
@[simp] theorem wf_now (s : State) (o hi lo n : Nat) : (s.wf o hi lo n).now = s.now := rfl
@[simp] theorem wf_uptime (s : State) (o hi lo n : Nat) : (s.wf o hi lo n).uptime = s.uptime := rfl
@[simp] theorem wf_applied (s : State) (o hi lo n : Nat) : (s.wf o hi lo n).applied = s.applied := rfl
@[simp] theorem wf_latches (s : State) (o hi lo n : Nat) : (s.wf o hi lo n).latches = s.latches := rfl
@[simp] theorem wf_ticked (s : State) (o hi lo n : Nat) : (s.wf o hi lo n).ticked = s.ticked := rfl
@[simp] theorem wf_evt (s : State) (o hi lo n : Nat) : (s.wf o hi lo n).evt = s.evt := rfl
@[simp] theorem wf_host (s : State) (o hi lo n : Nat) : (s.wf o hi lo n).host = s.host := rfl
@[simp] theorem wf_clk (s : State) (o hi lo n : Nat) : (s.wf o hi lo n).clk = s.clk := rfl
@[simp] theorem wf_time (s : State) (o hi lo n : Nat) : (s.wf o hi lo n).time = s.time := rfl
@[simp] theorem wf_net (s : State) (o hi lo n : Nat) : (s.wf o hi lo n).net = s.net := rfl
@[simp] theorem wf_cond (s : State) (o hi lo n : Nat) : (s.wf o hi lo n).cond = s.cond := rfl
@[simp] theorem wf_skein (s : State) (o hi lo n : Nat) : (s.wf o hi lo n).skein = s.skein := rfl
@[simp] theorem wf_pat (s : State) (o hi lo n : Nat) : (s.wf o hi lo n).pat = s.pat := rfl
@[simp] theorem wf_omd (s : State) (o hi lo n : Nat) : (s.wf o hi lo n).omd = s.omd := rfl
@[simp] theorem wf_rndr (s : State) (o hi lo n : Nat) : (s.wf o hi lo n).rndr = s.rndr := rfl
@[simp] theorem wf_ndl (s : State) (o hi lo n : Nat) : (s.wf o hi lo n).ndl = s.ndl := rfl
@[simp] theorem wf_sched (s : State) (o hi lo n : Nat) : (s.wf o hi lo n).sched = s.sched := rfl
@[simp] theorem wf_xp (s : State) (o hi lo n : Nat) : (s.wf o hi lo n).xp = s.xp := rfl
@[simp] theorem wf_outs (s : State) (o hi lo n : Nat) : (s.wf o hi lo n).outs = s.outs := rfl
@[simp] theorem wf_gauge (s : State) (o hi lo n : Nat) : (s.wf o hi lo n).gauge = s.gauge := rfl
@[simp] theorem wf_tdm (s : State) (o hi lo n : Nat) : (s.wf o hi lo n).tdm = s.tdm := rfl
@[simp] theorem wf_cas (s : State) (o hi lo n : Nat) : (s.wf o hi lo n).cas = s.cas := rfl
@[simp] theorem wf_hedge (s : State) (o hi lo n : Nat) : (s.wf o hi lo n).hedge = s.hedge := rfl
@[simp] theorem wf_store (s : State) (o hi lo n : Nat) : (s.wf o hi lo n).store = s.store := rfl
@[simp] theorem wf_bootf (s : State) (o hi lo n : Nat) : (s.wf o hi lo n).bootf = s.bootf := rfl
@[simp] theorem wf_mtx (s : State) (o hi lo n : Nat) : (s.wf o hi lo n).mtx = s.mtx := rfl
@[simp] theorem wf_dram (s : State) (o hi lo n : Nat) : (s.wf o hi lo n).dram = s.dram := rfl
@[simp] theorem wf_nand (s : State) (o hi lo n : Nat) : (s.wf o hi lo n).nand = s.nand := rfl
@[simp] theorem wf_bootCopies (s : State) (o hi lo n : Nat) : (s.wf o hi lo n).bootCopies = s.bootCopies := rfl
@[simp] theorem wf_flash (s : State) (o hi lo n : Nat) : (s.wf o hi lo n).flash = s.flash := rfl
@[simp] theorem wf_freeIdx (s : State) (o hi lo n : Nat) : (s.wf o hi lo n).freeIdx = s.freeIdx := rfl
@[simp] theorem wf_outbox (s : State) (o hi lo n : Nat) : (s.wf o hi lo n).outbox = s.outbox := rfl
@[simp] theorem wf_readData (s : State) (o hi lo n : Nat) : (s.wf o hi lo n).readData = s.readData := rfl
@[simp] theorem wf_pending (s : State) (o hi lo n : Nat) : (s.wf o hi lo n).pending = s.pending := rfl

@[simp] theorem setBit_dev (s : State) (o b : Nat) : (s.setBit o b).dev = s.dev := rfl
@[simp] theorem setBit_now (s : State) (o b : Nat) : (s.setBit o b).now = s.now := rfl
@[simp] theorem setBit_uptime (s : State) (o b : Nat) : (s.setBit o b).uptime = s.uptime := rfl
@[simp] theorem setBit_applied (s : State) (o b : Nat) : (s.setBit o b).applied = s.applied := rfl
@[simp] theorem setBit_latches (s : State) (o b : Nat) : (s.setBit o b).latches = s.latches := rfl
@[simp] theorem setBit_ticked (s : State) (o b : Nat) : (s.setBit o b).ticked = s.ticked := rfl
@[simp] theorem setBit_evt (s : State) (o b : Nat) : (s.setBit o b).evt = s.evt := rfl
@[simp] theorem setBit_host (s : State) (o b : Nat) : (s.setBit o b).host = s.host := rfl
@[simp] theorem setBit_clk (s : State) (o b : Nat) : (s.setBit o b).clk = s.clk := rfl
@[simp] theorem setBit_time (s : State) (o b : Nat) : (s.setBit o b).time = s.time := rfl
@[simp] theorem setBit_net (s : State) (o b : Nat) : (s.setBit o b).net = s.net := rfl
@[simp] theorem setBit_cond (s : State) (o b : Nat) : (s.setBit o b).cond = s.cond := rfl
@[simp] theorem setBit_skein (s : State) (o b : Nat) : (s.setBit o b).skein = s.skein := rfl
@[simp] theorem setBit_pat (s : State) (o b : Nat) : (s.setBit o b).pat = s.pat := rfl
@[simp] theorem setBit_omd (s : State) (o b : Nat) : (s.setBit o b).omd = s.omd := rfl
@[simp] theorem setBit_rndr (s : State) (o b : Nat) : (s.setBit o b).rndr = s.rndr := rfl
@[simp] theorem setBit_ndl (s : State) (o b : Nat) : (s.setBit o b).ndl = s.ndl := rfl
@[simp] theorem setBit_sched (s : State) (o b : Nat) : (s.setBit o b).sched = s.sched := rfl
@[simp] theorem setBit_xp (s : State) (o b : Nat) : (s.setBit o b).xp = s.xp := rfl
@[simp] theorem setBit_outs (s : State) (o b : Nat) : (s.setBit o b).outs = s.outs := rfl
@[simp] theorem setBit_gauge (s : State) (o b : Nat) : (s.setBit o b).gauge = s.gauge := rfl
@[simp] theorem setBit_tdm (s : State) (o b : Nat) : (s.setBit o b).tdm = s.tdm := rfl
@[simp] theorem setBit_cas (s : State) (o b : Nat) : (s.setBit o b).cas = s.cas := rfl
@[simp] theorem setBit_hedge (s : State) (o b : Nat) : (s.setBit o b).hedge = s.hedge := rfl
@[simp] theorem setBit_store (s : State) (o b : Nat) : (s.setBit o b).store = s.store := rfl
@[simp] theorem setBit_bootf (s : State) (o b : Nat) : (s.setBit o b).bootf = s.bootf := rfl
@[simp] theorem setBit_mtx (s : State) (o b : Nat) : (s.setBit o b).mtx = s.mtx := rfl
@[simp] theorem setBit_dram (s : State) (o b : Nat) : (s.setBit o b).dram = s.dram := rfl
@[simp] theorem setBit_nand (s : State) (o b : Nat) : (s.setBit o b).nand = s.nand := rfl
@[simp] theorem setBit_bootCopies (s : State) (o b : Nat) : (s.setBit o b).bootCopies = s.bootCopies := rfl
@[simp] theorem setBit_flash (s : State) (o b : Nat) : (s.setBit o b).flash = s.flash := rfl
@[simp] theorem setBit_freeIdx (s : State) (o b : Nat) : (s.setBit o b).freeIdx = s.freeIdx := rfl
@[simp] theorem setBit_outbox (s : State) (o b : Nat) : (s.setBit o b).outbox = s.outbox := rfl
@[simp] theorem setBit_readData (s : State) (o b : Nat) : (s.setBit o b).readData = s.readData := rfl
@[simp] theorem setBit_pending (s : State) (o b : Nat) : (s.setBit o b).pending = s.pending := rfl

@[simp] theorem clrBit_dev (s : State) (o b : Nat) : (s.clrBit o b).dev = s.dev := rfl
@[simp] theorem clrBit_now (s : State) (o b : Nat) : (s.clrBit o b).now = s.now := rfl
@[simp] theorem clrBit_uptime (s : State) (o b : Nat) : (s.clrBit o b).uptime = s.uptime := rfl
@[simp] theorem clrBit_applied (s : State) (o b : Nat) : (s.clrBit o b).applied = s.applied := rfl
@[simp] theorem clrBit_latches (s : State) (o b : Nat) : (s.clrBit o b).latches = s.latches := rfl
@[simp] theorem clrBit_ticked (s : State) (o b : Nat) : (s.clrBit o b).ticked = s.ticked := rfl
@[simp] theorem clrBit_evt (s : State) (o b : Nat) : (s.clrBit o b).evt = s.evt := rfl
@[simp] theorem clrBit_host (s : State) (o b : Nat) : (s.clrBit o b).host = s.host := rfl
@[simp] theorem clrBit_clk (s : State) (o b : Nat) : (s.clrBit o b).clk = s.clk := rfl
@[simp] theorem clrBit_time (s : State) (o b : Nat) : (s.clrBit o b).time = s.time := rfl
@[simp] theorem clrBit_net (s : State) (o b : Nat) : (s.clrBit o b).net = s.net := rfl
@[simp] theorem clrBit_cond (s : State) (o b : Nat) : (s.clrBit o b).cond = s.cond := rfl
@[simp] theorem clrBit_skein (s : State) (o b : Nat) : (s.clrBit o b).skein = s.skein := rfl
@[simp] theorem clrBit_pat (s : State) (o b : Nat) : (s.clrBit o b).pat = s.pat := rfl
@[simp] theorem clrBit_omd (s : State) (o b : Nat) : (s.clrBit o b).omd = s.omd := rfl
@[simp] theorem clrBit_rndr (s : State) (o b : Nat) : (s.clrBit o b).rndr = s.rndr := rfl
@[simp] theorem clrBit_ndl (s : State) (o b : Nat) : (s.clrBit o b).ndl = s.ndl := rfl
@[simp] theorem clrBit_sched (s : State) (o b : Nat) : (s.clrBit o b).sched = s.sched := rfl
@[simp] theorem clrBit_xp (s : State) (o b : Nat) : (s.clrBit o b).xp = s.xp := rfl
@[simp] theorem clrBit_outs (s : State) (o b : Nat) : (s.clrBit o b).outs = s.outs := rfl
@[simp] theorem clrBit_gauge (s : State) (o b : Nat) : (s.clrBit o b).gauge = s.gauge := rfl
@[simp] theorem clrBit_tdm (s : State) (o b : Nat) : (s.clrBit o b).tdm = s.tdm := rfl
@[simp] theorem clrBit_cas (s : State) (o b : Nat) : (s.clrBit o b).cas = s.cas := rfl
@[simp] theorem clrBit_hedge (s : State) (o b : Nat) : (s.clrBit o b).hedge = s.hedge := rfl
@[simp] theorem clrBit_store (s : State) (o b : Nat) : (s.clrBit o b).store = s.store := rfl
@[simp] theorem clrBit_bootf (s : State) (o b : Nat) : (s.clrBit o b).bootf = s.bootf := rfl
@[simp] theorem clrBit_mtx (s : State) (o b : Nat) : (s.clrBit o b).mtx = s.mtx := rfl
@[simp] theorem clrBit_dram (s : State) (o b : Nat) : (s.clrBit o b).dram = s.dram := rfl
@[simp] theorem clrBit_nand (s : State) (o b : Nat) : (s.clrBit o b).nand = s.nand := rfl
@[simp] theorem clrBit_bootCopies (s : State) (o b : Nat) : (s.clrBit o b).bootCopies = s.bootCopies := rfl
@[simp] theorem clrBit_flash (s : State) (o b : Nat) : (s.clrBit o b).flash = s.flash := rfl
@[simp] theorem clrBit_freeIdx (s : State) (o b : Nat) : (s.clrBit o b).freeIdx = s.freeIdx := rfl
@[simp] theorem clrBit_outbox (s : State) (o b : Nat) : (s.clrBit o b).outbox = s.outbox := rfl
@[simp] theorem clrBit_readData (s : State) (o b : Nat) : (s.clrBit o b).readData = s.readData := rfl
@[simp] theorem clrBit_pending (s : State) (o b : Nat) : (s.clrBit o b).pending = s.pending := rfl

@[simp] theorem putBit_dev (s : State) (o b : Nat) (v : Bool) : (s.putBit o b v).dev = s.dev := rfl
@[simp] theorem putBit_now (s : State) (o b : Nat) (v : Bool) : (s.putBit o b v).now = s.now := rfl
@[simp] theorem putBit_uptime (s : State) (o b : Nat) (v : Bool) : (s.putBit o b v).uptime = s.uptime := rfl
@[simp] theorem putBit_applied (s : State) (o b : Nat) (v : Bool) : (s.putBit o b v).applied = s.applied := rfl
@[simp] theorem putBit_latches (s : State) (o b : Nat) (v : Bool) : (s.putBit o b v).latches = s.latches := rfl
@[simp] theorem putBit_ticked (s : State) (o b : Nat) (v : Bool) : (s.putBit o b v).ticked = s.ticked := rfl
@[simp] theorem putBit_evt (s : State) (o b : Nat) (v : Bool) : (s.putBit o b v).evt = s.evt := rfl
@[simp] theorem putBit_host (s : State) (o b : Nat) (v : Bool) : (s.putBit o b v).host = s.host := rfl
@[simp] theorem putBit_clk (s : State) (o b : Nat) (v : Bool) : (s.putBit o b v).clk = s.clk := rfl
@[simp] theorem putBit_time (s : State) (o b : Nat) (v : Bool) : (s.putBit o b v).time = s.time := rfl
@[simp] theorem putBit_net (s : State) (o b : Nat) (v : Bool) : (s.putBit o b v).net = s.net := rfl
@[simp] theorem putBit_cond (s : State) (o b : Nat) (v : Bool) : (s.putBit o b v).cond = s.cond := rfl
@[simp] theorem putBit_skein (s : State) (o b : Nat) (v : Bool) : (s.putBit o b v).skein = s.skein := rfl
@[simp] theorem putBit_pat (s : State) (o b : Nat) (v : Bool) : (s.putBit o b v).pat = s.pat := rfl
@[simp] theorem putBit_omd (s : State) (o b : Nat) (v : Bool) : (s.putBit o b v).omd = s.omd := rfl
@[simp] theorem putBit_rndr (s : State) (o b : Nat) (v : Bool) : (s.putBit o b v).rndr = s.rndr := rfl
@[simp] theorem putBit_ndl (s : State) (o b : Nat) (v : Bool) : (s.putBit o b v).ndl = s.ndl := rfl
@[simp] theorem putBit_sched (s : State) (o b : Nat) (v : Bool) : (s.putBit o b v).sched = s.sched := rfl
@[simp] theorem putBit_xp (s : State) (o b : Nat) (v : Bool) : (s.putBit o b v).xp = s.xp := rfl
@[simp] theorem putBit_outs (s : State) (o b : Nat) (v : Bool) : (s.putBit o b v).outs = s.outs := rfl
@[simp] theorem putBit_gauge (s : State) (o b : Nat) (v : Bool) : (s.putBit o b v).gauge = s.gauge := rfl
@[simp] theorem putBit_tdm (s : State) (o b : Nat) (v : Bool) : (s.putBit o b v).tdm = s.tdm := rfl
@[simp] theorem putBit_cas (s : State) (o b : Nat) (v : Bool) : (s.putBit o b v).cas = s.cas := rfl
@[simp] theorem putBit_hedge (s : State) (o b : Nat) (v : Bool) : (s.putBit o b v).hedge = s.hedge := rfl
@[simp] theorem putBit_store (s : State) (o b : Nat) (v : Bool) : (s.putBit o b v).store = s.store := rfl
@[simp] theorem putBit_bootf (s : State) (o b : Nat) (v : Bool) : (s.putBit o b v).bootf = s.bootf := rfl
@[simp] theorem putBit_mtx (s : State) (o b : Nat) (v : Bool) : (s.putBit o b v).mtx = s.mtx := rfl
@[simp] theorem putBit_dram (s : State) (o b : Nat) (v : Bool) : (s.putBit o b v).dram = s.dram := rfl
@[simp] theorem putBit_nand (s : State) (o b : Nat) (v : Bool) : (s.putBit o b v).nand = s.nand := rfl
@[simp] theorem putBit_bootCopies (s : State) (o b : Nat) (v : Bool) : (s.putBit o b v).bootCopies = s.bootCopies := rfl
@[simp] theorem putBit_flash (s : State) (o b : Nat) (v : Bool) : (s.putBit o b v).flash = s.flash := rfl
@[simp] theorem putBit_freeIdx (s : State) (o b : Nat) (v : Bool) : (s.putBit o b v).freeIdx = s.freeIdx := rfl
@[simp] theorem putBit_outbox (s : State) (o b : Nat) (v : Bool) : (s.putBit o b v).outbox = s.outbox := rfl
@[simp] theorem putBit_readData (s : State) (o b : Nat) (v : Bool) : (s.putBit o b v).readData = s.readData := rfl
@[simp] theorem putBit_pending (s : State) (o b : Nat) (v : Bool) : (s.putBit o b v).pending = s.pending := rfl

@[simp] theorem wr64_dev (s : State) (lo n : Nat) : (s.wr64 lo n).dev = s.dev := rfl
@[simp] theorem wr64_now (s : State) (lo n : Nat) : (s.wr64 lo n).now = s.now := rfl
@[simp] theorem wr64_uptime (s : State) (lo n : Nat) : (s.wr64 lo n).uptime = s.uptime := rfl
@[simp] theorem wr64_applied (s : State) (lo n : Nat) : (s.wr64 lo n).applied = s.applied := rfl
@[simp] theorem wr64_latches (s : State) (lo n : Nat) : (s.wr64 lo n).latches = s.latches := rfl
@[simp] theorem wr64_ticked (s : State) (lo n : Nat) : (s.wr64 lo n).ticked = s.ticked := rfl
@[simp] theorem wr64_evt (s : State) (lo n : Nat) : (s.wr64 lo n).evt = s.evt := rfl
@[simp] theorem wr64_host (s : State) (lo n : Nat) : (s.wr64 lo n).host = s.host := rfl
@[simp] theorem wr64_clk (s : State) (lo n : Nat) : (s.wr64 lo n).clk = s.clk := rfl
@[simp] theorem wr64_time (s : State) (lo n : Nat) : (s.wr64 lo n).time = s.time := rfl
@[simp] theorem wr64_net (s : State) (lo n : Nat) : (s.wr64 lo n).net = s.net := rfl
@[simp] theorem wr64_cond (s : State) (lo n : Nat) : (s.wr64 lo n).cond = s.cond := rfl
@[simp] theorem wr64_skein (s : State) (lo n : Nat) : (s.wr64 lo n).skein = s.skein := rfl
@[simp] theorem wr64_pat (s : State) (lo n : Nat) : (s.wr64 lo n).pat = s.pat := rfl
@[simp] theorem wr64_omd (s : State) (lo n : Nat) : (s.wr64 lo n).omd = s.omd := rfl
@[simp] theorem wr64_rndr (s : State) (lo n : Nat) : (s.wr64 lo n).rndr = s.rndr := rfl
@[simp] theorem wr64_ndl (s : State) (lo n : Nat) : (s.wr64 lo n).ndl = s.ndl := rfl
@[simp] theorem wr64_sched (s : State) (lo n : Nat) : (s.wr64 lo n).sched = s.sched := rfl
@[simp] theorem wr64_xp (s : State) (lo n : Nat) : (s.wr64 lo n).xp = s.xp := rfl
@[simp] theorem wr64_outs (s : State) (lo n : Nat) : (s.wr64 lo n).outs = s.outs := rfl
@[simp] theorem wr64_gauge (s : State) (lo n : Nat) : (s.wr64 lo n).gauge = s.gauge := rfl
@[simp] theorem wr64_tdm (s : State) (lo n : Nat) : (s.wr64 lo n).tdm = s.tdm := rfl
@[simp] theorem wr64_cas (s : State) (lo n : Nat) : (s.wr64 lo n).cas = s.cas := rfl
@[simp] theorem wr64_hedge (s : State) (lo n : Nat) : (s.wr64 lo n).hedge = s.hedge := rfl
@[simp] theorem wr64_store (s : State) (lo n : Nat) : (s.wr64 lo n).store = s.store := rfl
@[simp] theorem wr64_bootf (s : State) (lo n : Nat) : (s.wr64 lo n).bootf = s.bootf := rfl
@[simp] theorem wr64_mtx (s : State) (lo n : Nat) : (s.wr64 lo n).mtx = s.mtx := rfl
@[simp] theorem wr64_dram (s : State) (lo n : Nat) : (s.wr64 lo n).dram = s.dram := rfl
@[simp] theorem wr64_nand (s : State) (lo n : Nat) : (s.wr64 lo n).nand = s.nand := rfl
@[simp] theorem wr64_bootCopies (s : State) (lo n : Nat) : (s.wr64 lo n).bootCopies = s.bootCopies := rfl
@[simp] theorem wr64_flash (s : State) (lo n : Nat) : (s.wr64 lo n).flash = s.flash := rfl
@[simp] theorem wr64_freeIdx (s : State) (lo n : Nat) : (s.wr64 lo n).freeIdx = s.freeIdx := rfl
@[simp] theorem wr64_outbox (s : State) (lo n : Nat) : (s.wr64 lo n).outbox = s.outbox := rfl
@[simp] theorem wr64_readData (s : State) (lo n : Nat) : (s.wr64 lo n).readData = s.readData := rfl
@[simp] theorem wr64_pending (s : State) (lo n : Nat) : (s.wr64 lo n).pending = s.pending := rfl

@[simp] theorem countBy_dev (s : State) (o n : Nat) : (s.countBy o n).dev = s.dev := rfl
@[simp] theorem countBy_now (s : State) (o n : Nat) : (s.countBy o n).now = s.now := rfl
@[simp] theorem countBy_uptime (s : State) (o n : Nat) : (s.countBy o n).uptime = s.uptime := rfl
@[simp] theorem countBy_applied (s : State) (o n : Nat) : (s.countBy o n).applied = s.applied := rfl
@[simp] theorem countBy_latches (s : State) (o n : Nat) : (s.countBy o n).latches = s.latches := rfl
@[simp] theorem countBy_ticked (s : State) (o n : Nat) : (s.countBy o n).ticked = s.ticked := rfl
@[simp] theorem countBy_evt (s : State) (o n : Nat) : (s.countBy o n).evt = s.evt := rfl
@[simp] theorem countBy_host (s : State) (o n : Nat) : (s.countBy o n).host = s.host := rfl
@[simp] theorem countBy_clk (s : State) (o n : Nat) : (s.countBy o n).clk = s.clk := rfl
@[simp] theorem countBy_time (s : State) (o n : Nat) : (s.countBy o n).time = s.time := rfl
@[simp] theorem countBy_net (s : State) (o n : Nat) : (s.countBy o n).net = s.net := rfl
@[simp] theorem countBy_cond (s : State) (o n : Nat) : (s.countBy o n).cond = s.cond := rfl
@[simp] theorem countBy_skein (s : State) (o n : Nat) : (s.countBy o n).skein = s.skein := rfl
@[simp] theorem countBy_pat (s : State) (o n : Nat) : (s.countBy o n).pat = s.pat := rfl
@[simp] theorem countBy_omd (s : State) (o n : Nat) : (s.countBy o n).omd = s.omd := rfl
@[simp] theorem countBy_rndr (s : State) (o n : Nat) : (s.countBy o n).rndr = s.rndr := rfl
@[simp] theorem countBy_ndl (s : State) (o n : Nat) : (s.countBy o n).ndl = s.ndl := rfl
@[simp] theorem countBy_sched (s : State) (o n : Nat) : (s.countBy o n).sched = s.sched := rfl
@[simp] theorem countBy_xp (s : State) (o n : Nat) : (s.countBy o n).xp = s.xp := rfl
@[simp] theorem countBy_outs (s : State) (o n : Nat) : (s.countBy o n).outs = s.outs := rfl
@[simp] theorem countBy_gauge (s : State) (o n : Nat) : (s.countBy o n).gauge = s.gauge := rfl
@[simp] theorem countBy_tdm (s : State) (o n : Nat) : (s.countBy o n).tdm = s.tdm := rfl
@[simp] theorem countBy_cas (s : State) (o n : Nat) : (s.countBy o n).cas = s.cas := rfl
@[simp] theorem countBy_hedge (s : State) (o n : Nat) : (s.countBy o n).hedge = s.hedge := rfl
@[simp] theorem countBy_store (s : State) (o n : Nat) : (s.countBy o n).store = s.store := rfl
@[simp] theorem countBy_bootf (s : State) (o n : Nat) : (s.countBy o n).bootf = s.bootf := rfl
@[simp] theorem countBy_mtx (s : State) (o n : Nat) : (s.countBy o n).mtx = s.mtx := rfl
@[simp] theorem countBy_dram (s : State) (o n : Nat) : (s.countBy o n).dram = s.dram := rfl
@[simp] theorem countBy_nand (s : State) (o n : Nat) : (s.countBy o n).nand = s.nand := rfl
@[simp] theorem countBy_bootCopies (s : State) (o n : Nat) : (s.countBy o n).bootCopies = s.bootCopies := rfl
@[simp] theorem countBy_flash (s : State) (o n : Nat) : (s.countBy o n).flash = s.flash := rfl
@[simp] theorem countBy_freeIdx (s : State) (o n : Nat) : (s.countBy o n).freeIdx = s.freeIdx := rfl
@[simp] theorem countBy_outbox (s : State) (o n : Nat) : (s.countBy o n).outbox = s.outbox := rfl
@[simp] theorem countBy_readData (s : State) (o n : Nat) : (s.countBy o n).readData = s.readData := rfl
@[simp] theorem countBy_pending (s : State) (o n : Nat) : (s.countBy o n).pending = s.pending := rfl

@[simp] theorem count_dev (s : State) (o : Nat) : (s.count o).dev = s.dev := rfl
@[simp] theorem count_now (s : State) (o : Nat) : (s.count o).now = s.now := rfl
@[simp] theorem count_uptime (s : State) (o : Nat) : (s.count o).uptime = s.uptime := rfl
@[simp] theorem count_applied (s : State) (o : Nat) : (s.count o).applied = s.applied := rfl
@[simp] theorem count_latches (s : State) (o : Nat) : (s.count o).latches = s.latches := rfl
@[simp] theorem count_ticked (s : State) (o : Nat) : (s.count o).ticked = s.ticked := rfl
@[simp] theorem count_evt (s : State) (o : Nat) : (s.count o).evt = s.evt := rfl
@[simp] theorem count_host (s : State) (o : Nat) : (s.count o).host = s.host := rfl
@[simp] theorem count_clk (s : State) (o : Nat) : (s.count o).clk = s.clk := rfl
@[simp] theorem count_time (s : State) (o : Nat) : (s.count o).time = s.time := rfl
@[simp] theorem count_net (s : State) (o : Nat) : (s.count o).net = s.net := rfl
@[simp] theorem count_cond (s : State) (o : Nat) : (s.count o).cond = s.cond := rfl
@[simp] theorem count_skein (s : State) (o : Nat) : (s.count o).skein = s.skein := rfl
@[simp] theorem count_pat (s : State) (o : Nat) : (s.count o).pat = s.pat := rfl
@[simp] theorem count_omd (s : State) (o : Nat) : (s.count o).omd = s.omd := rfl
@[simp] theorem count_rndr (s : State) (o : Nat) : (s.count o).rndr = s.rndr := rfl
@[simp] theorem count_ndl (s : State) (o : Nat) : (s.count o).ndl = s.ndl := rfl
@[simp] theorem count_sched (s : State) (o : Nat) : (s.count o).sched = s.sched := rfl
@[simp] theorem count_xp (s : State) (o : Nat) : (s.count o).xp = s.xp := rfl
@[simp] theorem count_outs (s : State) (o : Nat) : (s.count o).outs = s.outs := rfl
@[simp] theorem count_gauge (s : State) (o : Nat) : (s.count o).gauge = s.gauge := rfl
@[simp] theorem count_tdm (s : State) (o : Nat) : (s.count o).tdm = s.tdm := rfl
@[simp] theorem count_cas (s : State) (o : Nat) : (s.count o).cas = s.cas := rfl
@[simp] theorem count_hedge (s : State) (o : Nat) : (s.count o).hedge = s.hedge := rfl
@[simp] theorem count_store (s : State) (o : Nat) : (s.count o).store = s.store := rfl
@[simp] theorem count_bootf (s : State) (o : Nat) : (s.count o).bootf = s.bootf := rfl
@[simp] theorem count_mtx (s : State) (o : Nat) : (s.count o).mtx = s.mtx := rfl
@[simp] theorem count_dram (s : State) (o : Nat) : (s.count o).dram = s.dram := rfl
@[simp] theorem count_nand (s : State) (o : Nat) : (s.count o).nand = s.nand := rfl
@[simp] theorem count_bootCopies (s : State) (o : Nat) : (s.count o).bootCopies = s.bootCopies := rfl
@[simp] theorem count_flash (s : State) (o : Nat) : (s.count o).flash = s.flash := rfl
@[simp] theorem count_freeIdx (s : State) (o : Nat) : (s.count o).freeIdx = s.freeIdx := rfl
@[simp] theorem count_outbox (s : State) (o : Nat) : (s.count o).outbox = s.outbox := rfl
@[simp] theorem count_readData (s : State) (o : Nat) : (s.count o).readData = s.readData := rfl
@[simp] theorem count_pending (s : State) (o : Nat) : (s.count o).pending = s.pending := rfl

@[simp] theorem countField_dev (s : State) (o hi lo n : Nat) : (s.countField o hi lo n).dev = s.dev := rfl
@[simp] theorem countField_now (s : State) (o hi lo n : Nat) : (s.countField o hi lo n).now = s.now := rfl
@[simp] theorem countField_uptime (s : State) (o hi lo n : Nat) : (s.countField o hi lo n).uptime = s.uptime := rfl
@[simp] theorem countField_applied (s : State) (o hi lo n : Nat) : (s.countField o hi lo n).applied = s.applied := rfl
@[simp] theorem countField_latches (s : State) (o hi lo n : Nat) : (s.countField o hi lo n).latches = s.latches := rfl
@[simp] theorem countField_ticked (s : State) (o hi lo n : Nat) : (s.countField o hi lo n).ticked = s.ticked := rfl
@[simp] theorem countField_evt (s : State) (o hi lo n : Nat) : (s.countField o hi lo n).evt = s.evt := rfl
@[simp] theorem countField_host (s : State) (o hi lo n : Nat) : (s.countField o hi lo n).host = s.host := rfl
@[simp] theorem countField_clk (s : State) (o hi lo n : Nat) : (s.countField o hi lo n).clk = s.clk := rfl
@[simp] theorem countField_time (s : State) (o hi lo n : Nat) : (s.countField o hi lo n).time = s.time := rfl
@[simp] theorem countField_net (s : State) (o hi lo n : Nat) : (s.countField o hi lo n).net = s.net := rfl
@[simp] theorem countField_cond (s : State) (o hi lo n : Nat) : (s.countField o hi lo n).cond = s.cond := rfl
@[simp] theorem countField_skein (s : State) (o hi lo n : Nat) : (s.countField o hi lo n).skein = s.skein := rfl
@[simp] theorem countField_pat (s : State) (o hi lo n : Nat) : (s.countField o hi lo n).pat = s.pat := rfl
@[simp] theorem countField_omd (s : State) (o hi lo n : Nat) : (s.countField o hi lo n).omd = s.omd := rfl
@[simp] theorem countField_rndr (s : State) (o hi lo n : Nat) : (s.countField o hi lo n).rndr = s.rndr := rfl
@[simp] theorem countField_ndl (s : State) (o hi lo n : Nat) : (s.countField o hi lo n).ndl = s.ndl := rfl
@[simp] theorem countField_sched (s : State) (o hi lo n : Nat) : (s.countField o hi lo n).sched = s.sched := rfl
@[simp] theorem countField_xp (s : State) (o hi lo n : Nat) : (s.countField o hi lo n).xp = s.xp := rfl
@[simp] theorem countField_outs (s : State) (o hi lo n : Nat) : (s.countField o hi lo n).outs = s.outs := rfl
@[simp] theorem countField_gauge (s : State) (o hi lo n : Nat) : (s.countField o hi lo n).gauge = s.gauge := rfl
@[simp] theorem countField_tdm (s : State) (o hi lo n : Nat) : (s.countField o hi lo n).tdm = s.tdm := rfl
@[simp] theorem countField_cas (s : State) (o hi lo n : Nat) : (s.countField o hi lo n).cas = s.cas := rfl
@[simp] theorem countField_hedge (s : State) (o hi lo n : Nat) : (s.countField o hi lo n).hedge = s.hedge := rfl
@[simp] theorem countField_store (s : State) (o hi lo n : Nat) : (s.countField o hi lo n).store = s.store := rfl
@[simp] theorem countField_bootf (s : State) (o hi lo n : Nat) : (s.countField o hi lo n).bootf = s.bootf := rfl
@[simp] theorem countField_mtx (s : State) (o hi lo n : Nat) : (s.countField o hi lo n).mtx = s.mtx := rfl
@[simp] theorem countField_dram (s : State) (o hi lo n : Nat) : (s.countField o hi lo n).dram = s.dram := rfl
@[simp] theorem countField_nand (s : State) (o hi lo n : Nat) : (s.countField o hi lo n).nand = s.nand := rfl
@[simp] theorem countField_bootCopies (s : State) (o hi lo n : Nat) : (s.countField o hi lo n).bootCopies = s.bootCopies := rfl
@[simp] theorem countField_flash (s : State) (o hi lo n : Nat) : (s.countField o hi lo n).flash = s.flash := rfl
@[simp] theorem countField_freeIdx (s : State) (o hi lo n : Nat) : (s.countField o hi lo n).freeIdx = s.freeIdx := rfl
@[simp] theorem countField_outbox (s : State) (o hi lo n : Nat) : (s.countField o hi lo n).outbox = s.outbox := rfl
@[simp] theorem countField_readData (s : State) (o hi lo n : Nat) : (s.countField o hi lo n).readData = s.readData := rfl
@[simp] theorem countField_pending (s : State) (o hi lo n : Nat) : (s.countField o hi lo n).pending = s.pending := rfl

/-! ### Operations that write one other field -/

@[simp] theorem enforce_dev (s : State) (o : Nat) (v : Word) : (s.enforce o v).dev = s.dev := rfl
@[simp] theorem enforce_now (s : State) (o : Nat) (v : Word) : (s.enforce o v).now = s.now := rfl
@[simp] theorem enforce_uptime (s : State) (o : Nat) (v : Word) : (s.enforce o v).uptime = s.uptime := rfl
@[simp] theorem enforce_regs (s : State) (o : Nat) (v : Word) : (s.enforce o v).regs = s.regs := rfl
@[simp] theorem enforce_latches (s : State) (o : Nat) (v : Word) : (s.enforce o v).latches = s.latches := rfl
@[simp] theorem enforce_ticked (s : State) (o : Nat) (v : Word) : (s.enforce o v).ticked = s.ticked := rfl
@[simp] theorem enforce_evt (s : State) (o : Nat) (v : Word) : (s.enforce o v).evt = s.evt := rfl
@[simp] theorem enforce_host (s : State) (o : Nat) (v : Word) : (s.enforce o v).host = s.host := rfl
@[simp] theorem enforce_clk (s : State) (o : Nat) (v : Word) : (s.enforce o v).clk = s.clk := rfl
@[simp] theorem enforce_time (s : State) (o : Nat) (v : Word) : (s.enforce o v).time = s.time := rfl
@[simp] theorem enforce_net (s : State) (o : Nat) (v : Word) : (s.enforce o v).net = s.net := rfl
@[simp] theorem enforce_cond (s : State) (o : Nat) (v : Word) : (s.enforce o v).cond = s.cond := rfl
@[simp] theorem enforce_skein (s : State) (o : Nat) (v : Word) : (s.enforce o v).skein = s.skein := rfl
@[simp] theorem enforce_pat (s : State) (o : Nat) (v : Word) : (s.enforce o v).pat = s.pat := rfl
@[simp] theorem enforce_omd (s : State) (o : Nat) (v : Word) : (s.enforce o v).omd = s.omd := rfl
@[simp] theorem enforce_rndr (s : State) (o : Nat) (v : Word) : (s.enforce o v).rndr = s.rndr := rfl
@[simp] theorem enforce_ndl (s : State) (o : Nat) (v : Word) : (s.enforce o v).ndl = s.ndl := rfl
@[simp] theorem enforce_sched (s : State) (o : Nat) (v : Word) : (s.enforce o v).sched = s.sched := rfl
@[simp] theorem enforce_xp (s : State) (o : Nat) (v : Word) : (s.enforce o v).xp = s.xp := rfl
@[simp] theorem enforce_outs (s : State) (o : Nat) (v : Word) : (s.enforce o v).outs = s.outs := rfl
@[simp] theorem enforce_gauge (s : State) (o : Nat) (v : Word) : (s.enforce o v).gauge = s.gauge := rfl
@[simp] theorem enforce_tdm (s : State) (o : Nat) (v : Word) : (s.enforce o v).tdm = s.tdm := rfl
@[simp] theorem enforce_cas (s : State) (o : Nat) (v : Word) : (s.enforce o v).cas = s.cas := rfl
@[simp] theorem enforce_hedge (s : State) (o : Nat) (v : Word) : (s.enforce o v).hedge = s.hedge := rfl
@[simp] theorem enforce_store (s : State) (o : Nat) (v : Word) : (s.enforce o v).store = s.store := rfl
@[simp] theorem enforce_bootf (s : State) (o : Nat) (v : Word) : (s.enforce o v).bootf = s.bootf := rfl
@[simp] theorem enforce_mtx (s : State) (o : Nat) (v : Word) : (s.enforce o v).mtx = s.mtx := rfl
@[simp] theorem enforce_dram (s : State) (o : Nat) (v : Word) : (s.enforce o v).dram = s.dram := rfl
@[simp] theorem enforce_nand (s : State) (o : Nat) (v : Word) : (s.enforce o v).nand = s.nand := rfl
@[simp] theorem enforce_bootCopies (s : State) (o : Nat) (v : Word) : (s.enforce o v).bootCopies = s.bootCopies := rfl
@[simp] theorem enforce_flash (s : State) (o : Nat) (v : Word) : (s.enforce o v).flash = s.flash := rfl
@[simp] theorem enforce_freeIdx (s : State) (o : Nat) (v : Word) : (s.enforce o v).freeIdx = s.freeIdx := rfl
@[simp] theorem enforce_outbox (s : State) (o : Nat) (v : Word) : (s.enforce o v).outbox = s.outbox := rfl
@[simp] theorem enforce_readData (s : State) (o : Nat) (v : Word) : (s.enforce o v).readData = s.readData := rfl
@[simp] theorem enforce_pending (s : State) (o : Nat) (v : Word) : (s.enforce o v).pending = s.pending := rfl

@[simp] theorem emit_dev (s : State) (e : Emit) : (s.emit e).dev = s.dev := rfl
@[simp] theorem emit_now (s : State) (e : Emit) : (s.emit e).now = s.now := rfl
@[simp] theorem emit_uptime (s : State) (e : Emit) : (s.emit e).uptime = s.uptime := rfl
@[simp] theorem emit_regs (s : State) (e : Emit) : (s.emit e).regs = s.regs := rfl
@[simp] theorem emit_applied (s : State) (e : Emit) : (s.emit e).applied = s.applied := rfl
@[simp] theorem emit_latches (s : State) (e : Emit) : (s.emit e).latches = s.latches := rfl
@[simp] theorem emit_ticked (s : State) (e : Emit) : (s.emit e).ticked = s.ticked := rfl
@[simp] theorem emit_evt (s : State) (e : Emit) : (s.emit e).evt = s.evt := rfl
@[simp] theorem emit_host (s : State) (e : Emit) : (s.emit e).host = s.host := rfl
@[simp] theorem emit_clk (s : State) (e : Emit) : (s.emit e).clk = s.clk := rfl
@[simp] theorem emit_time (s : State) (e : Emit) : (s.emit e).time = s.time := rfl
@[simp] theorem emit_net (s : State) (e : Emit) : (s.emit e).net = s.net := rfl
@[simp] theorem emit_cond (s : State) (e : Emit) : (s.emit e).cond = s.cond := rfl
@[simp] theorem emit_skein (s : State) (e : Emit) : (s.emit e).skein = s.skein := rfl
@[simp] theorem emit_pat (s : State) (e : Emit) : (s.emit e).pat = s.pat := rfl
@[simp] theorem emit_omd (s : State) (e : Emit) : (s.emit e).omd = s.omd := rfl
@[simp] theorem emit_rndr (s : State) (e : Emit) : (s.emit e).rndr = s.rndr := rfl
@[simp] theorem emit_ndl (s : State) (e : Emit) : (s.emit e).ndl = s.ndl := rfl
@[simp] theorem emit_sched (s : State) (e : Emit) : (s.emit e).sched = s.sched := rfl
@[simp] theorem emit_xp (s : State) (e : Emit) : (s.emit e).xp = s.xp := rfl
@[simp] theorem emit_outs (s : State) (e : Emit) : (s.emit e).outs = s.outs := rfl
@[simp] theorem emit_gauge (s : State) (e : Emit) : (s.emit e).gauge = s.gauge := rfl
@[simp] theorem emit_tdm (s : State) (e : Emit) : (s.emit e).tdm = s.tdm := rfl
@[simp] theorem emit_cas (s : State) (e : Emit) : (s.emit e).cas = s.cas := rfl
@[simp] theorem emit_hedge (s : State) (e : Emit) : (s.emit e).hedge = s.hedge := rfl
@[simp] theorem emit_store (s : State) (e : Emit) : (s.emit e).store = s.store := rfl
@[simp] theorem emit_bootf (s : State) (e : Emit) : (s.emit e).bootf = s.bootf := rfl
@[simp] theorem emit_mtx (s : State) (e : Emit) : (s.emit e).mtx = s.mtx := rfl
@[simp] theorem emit_dram (s : State) (e : Emit) : (s.emit e).dram = s.dram := rfl
@[simp] theorem emit_nand (s : State) (e : Emit) : (s.emit e).nand = s.nand := rfl
@[simp] theorem emit_bootCopies (s : State) (e : Emit) : (s.emit e).bootCopies = s.bootCopies := rfl
@[simp] theorem emit_flash (s : State) (e : Emit) : (s.emit e).flash = s.flash := rfl
@[simp] theorem emit_freeIdx (s : State) (e : Emit) : (s.emit e).freeIdx = s.freeIdx := rfl
@[simp] theorem emit_readData (s : State) (e : Emit) : (s.emit e).readData = s.readData := rfl
@[simp] theorem emit_pending (s : State) (e : Emit) : (s.emit e).pending = s.pending := rfl

@[simp] theorem bumpFree_dev (s : State)  : (s.bumpFree ).dev = s.dev := rfl
@[simp] theorem bumpFree_now (s : State)  : (s.bumpFree ).now = s.now := rfl
@[simp] theorem bumpFree_uptime (s : State)  : (s.bumpFree ).uptime = s.uptime := rfl
@[simp] theorem bumpFree_regs (s : State)  : (s.bumpFree ).regs = s.regs := rfl
@[simp] theorem bumpFree_applied (s : State)  : (s.bumpFree ).applied = s.applied := rfl
@[simp] theorem bumpFree_latches (s : State)  : (s.bumpFree ).latches = s.latches := rfl
@[simp] theorem bumpFree_ticked (s : State)  : (s.bumpFree ).ticked = s.ticked := rfl
@[simp] theorem bumpFree_evt (s : State)  : (s.bumpFree ).evt = s.evt := rfl
@[simp] theorem bumpFree_host (s : State)  : (s.bumpFree ).host = s.host := rfl
@[simp] theorem bumpFree_clk (s : State)  : (s.bumpFree ).clk = s.clk := rfl
@[simp] theorem bumpFree_time (s : State)  : (s.bumpFree ).time = s.time := rfl
@[simp] theorem bumpFree_net (s : State)  : (s.bumpFree ).net = s.net := rfl
@[simp] theorem bumpFree_cond (s : State)  : (s.bumpFree ).cond = s.cond := rfl
@[simp] theorem bumpFree_skein (s : State)  : (s.bumpFree ).skein = s.skein := rfl
@[simp] theorem bumpFree_pat (s : State)  : (s.bumpFree ).pat = s.pat := rfl
@[simp] theorem bumpFree_omd (s : State)  : (s.bumpFree ).omd = s.omd := rfl
@[simp] theorem bumpFree_rndr (s : State)  : (s.bumpFree ).rndr = s.rndr := rfl
@[simp] theorem bumpFree_ndl (s : State)  : (s.bumpFree ).ndl = s.ndl := rfl
@[simp] theorem bumpFree_sched (s : State)  : (s.bumpFree ).sched = s.sched := rfl
@[simp] theorem bumpFree_xp (s : State)  : (s.bumpFree ).xp = s.xp := rfl
@[simp] theorem bumpFree_outs (s : State)  : (s.bumpFree ).outs = s.outs := rfl
@[simp] theorem bumpFree_gauge (s : State)  : (s.bumpFree ).gauge = s.gauge := rfl
@[simp] theorem bumpFree_tdm (s : State)  : (s.bumpFree ).tdm = s.tdm := rfl
@[simp] theorem bumpFree_cas (s : State)  : (s.bumpFree ).cas = s.cas := rfl
@[simp] theorem bumpFree_hedge (s : State)  : (s.bumpFree ).hedge = s.hedge := rfl
@[simp] theorem bumpFree_store (s : State)  : (s.bumpFree ).store = s.store := rfl
@[simp] theorem bumpFree_bootf (s : State)  : (s.bumpFree ).bootf = s.bootf := rfl
@[simp] theorem bumpFree_mtx (s : State)  : (s.bumpFree ).mtx = s.mtx := rfl
@[simp] theorem bumpFree_dram (s : State)  : (s.bumpFree ).dram = s.dram := rfl
@[simp] theorem bumpFree_nand (s : State)  : (s.bumpFree ).nand = s.nand := rfl
@[simp] theorem bumpFree_bootCopies (s : State)  : (s.bumpFree ).bootCopies = s.bootCopies := rfl
@[simp] theorem bumpFree_flash (s : State)  : (s.bumpFree ).flash = s.flash := rfl
@[simp] theorem bumpFree_outbox (s : State)  : (s.bumpFree ).outbox = s.outbox := rfl
@[simp] theorem bumpFree_readData (s : State)  : (s.bumpFree ).readData = s.readData := rfl
@[simp] theorem bumpFree_pending (s : State)  : (s.bumpFree ).pending = s.pending := rfl

/-! ### The setters of the units write their unit alone -/

@[simp] theorem setTimer_dev (s : State) (k : Nat) (t : Option Nat) : (s.setTimer k t).dev = s.dev := rfl
@[simp] theorem setTimer_now (s : State) (k : Nat) (t : Option Nat) : (s.setTimer k t).now = s.now := rfl
@[simp] theorem setTimer_regs (s : State) (k : Nat) (t : Option Nat) : (s.setTimer k t).regs = s.regs := rfl
@[simp] theorem setTimer_applied (s : State) (k : Nat) (t : Option Nat) : (s.setTimer k t).applied = s.applied := rfl
@[simp] theorem setTimer_dram (s : State) (k : Nat) (t : Option Nat) : (s.setTimer k t).dram = s.dram := rfl
@[simp] theorem setTimer_outbox (s : State) (k : Nat) (t : Option Nat) : (s.setTimer k t).outbox = s.outbox := rfl
@[simp] theorem setTimer_pending (s : State) (k : Nat) (t : Option Nat) : (s.setTimer k t).pending = s.pending := rfl
theorem setTimer_frame (s : State) (k : Nat) (t : Option Nat) : s.setTimer k t = { s with evt := (s.setTimer k t).evt } := rfl
@[simp] theorem setTxn_dev (s : State) (i : Nat) (t : Txn) : (s.setTxn i t).dev = s.dev := rfl
@[simp] theorem setTxn_now (s : State) (i : Nat) (t : Txn) : (s.setTxn i t).now = s.now := rfl
@[simp] theorem setTxn_regs (s : State) (i : Nat) (t : Txn) : (s.setTxn i t).regs = s.regs := rfl
@[simp] theorem setTxn_applied (s : State) (i : Nat) (t : Txn) : (s.setTxn i t).applied = s.applied := rfl
@[simp] theorem setTxn_evt (s : State) (i : Nat) (t : Txn) : (s.setTxn i t).evt = s.evt := rfl
@[simp] theorem setTxn_dram (s : State) (i : Nat) (t : Txn) : (s.setTxn i t).dram = s.dram := rfl
@[simp] theorem setTxn_outbox (s : State) (i : Nat) (t : Txn) : (s.setTxn i t).outbox = s.outbox := rfl
@[simp] theorem setTxn_pending (s : State) (i : Nat) (t : Txn) : (s.setTxn i t).pending = s.pending := rfl
theorem setTxn_frame (s : State) (i : Nat) (t : Txn) : s.setTxn i t = { s with mtx := (s.setTxn i t).mtx } := rfl
@[simp] theorem setCasPort_dev (s : State) (n : Nat) (p : CasPort) : (s.setCasPort n p).dev = s.dev := rfl
@[simp] theorem setCasPort_now (s : State) (n : Nat) (p : CasPort) : (s.setCasPort n p).now = s.now := rfl
@[simp] theorem setCasPort_regs (s : State) (n : Nat) (p : CasPort) : (s.setCasPort n p).regs = s.regs := rfl
@[simp] theorem setCasPort_applied (s : State) (n : Nat) (p : CasPort) : (s.setCasPort n p).applied = s.applied := rfl
@[simp] theorem setCasPort_evt (s : State) (n : Nat) (p : CasPort) : (s.setCasPort n p).evt = s.evt := rfl
@[simp] theorem setCasPort_dram (s : State) (n : Nat) (p : CasPort) : (s.setCasPort n p).dram = s.dram := rfl
@[simp] theorem setCasPort_outbox (s : State) (n : Nat) (p : CasPort) : (s.setCasPort n p).outbox = s.outbox := rfl
@[simp] theorem setCasPort_pending (s : State) (n : Nat) (p : CasPort) : (s.setCasPort n p).pending = s.pending := rfl
theorem setCasPort_frame (s : State) (n : Nat) (p : CasPort) : s.setCasPort n p = { s with cas := (s.setCasPort n p).cas } := rfl
@[simp] theorem setChan_dev (s : State) (n : Nat) (c : CondChannel) : (s.setChan n c).dev = s.dev := rfl
@[simp] theorem setChan_now (s : State) (n : Nat) (c : CondChannel) : (s.setChan n c).now = s.now := rfl
@[simp] theorem setChan_regs (s : State) (n : Nat) (c : CondChannel) : (s.setChan n c).regs = s.regs := rfl
@[simp] theorem setChan_applied (s : State) (n : Nat) (c : CondChannel) : (s.setChan n c).applied = s.applied := rfl
@[simp] theorem setChan_evt (s : State) (n : Nat) (c : CondChannel) : (s.setChan n c).evt = s.evt := rfl
@[simp] theorem setChan_dram (s : State) (n : Nat) (c : CondChannel) : (s.setChan n c).dram = s.dram := rfl
@[simp] theorem setChan_outbox (s : State) (n : Nat) (c : CondChannel) : (s.setChan n c).outbox = s.outbox := rfl
@[simp] theorem setChan_pending (s : State) (n : Nat) (c : CondChannel) : (s.setChan n c).pending = s.pending := rfl
theorem setChan_frame (s : State) (n : Nat) (c : CondChannel) : s.setChan n c = { s with cond := (s.setChan n c).cond } := rfl
@[simp] theorem setMeas_dev (s : State) (m : Nat) (x : MeasState) : (s.setMeas m x).dev = s.dev := rfl
@[simp] theorem setMeas_now (s : State) (m : Nat) (x : MeasState) : (s.setMeas m x).now = s.now := rfl
@[simp] theorem setMeas_regs (s : State) (m : Nat) (x : MeasState) : (s.setMeas m x).regs = s.regs := rfl
@[simp] theorem setMeas_applied (s : State) (m : Nat) (x : MeasState) : (s.setMeas m x).applied = s.applied := rfl
@[simp] theorem setMeas_evt (s : State) (m : Nat) (x : MeasState) : (s.setMeas m x).evt = s.evt := rfl
@[simp] theorem setMeas_dram (s : State) (m : Nat) (x : MeasState) : (s.setMeas m x).dram = s.dram := rfl
@[simp] theorem setMeas_outbox (s : State) (m : Nat) (x : MeasState) : (s.setMeas m x).outbox = s.outbox := rfl
@[simp] theorem setMeas_pending (s : State) (m : Nat) (x : MeasState) : (s.setMeas m x).pending = s.pending := rfl
theorem setMeas_frame (s : State) (m : Nat) (x : MeasState) : s.setMeas m x = { s with gauge := (s.setMeas m x).gauge } := rfl
@[simp] theorem setGout_dev (s : State) (j : Nat) (x : GaugeOut) : (s.setGout j x).dev = s.dev := rfl
@[simp] theorem setGout_now (s : State) (j : Nat) (x : GaugeOut) : (s.setGout j x).now = s.now := rfl
@[simp] theorem setGout_regs (s : State) (j : Nat) (x : GaugeOut) : (s.setGout j x).regs = s.regs := rfl
@[simp] theorem setGout_applied (s : State) (j : Nat) (x : GaugeOut) : (s.setGout j x).applied = s.applied := rfl
@[simp] theorem setGout_evt (s : State) (j : Nat) (x : GaugeOut) : (s.setGout j x).evt = s.evt := rfl
@[simp] theorem setGout_dram (s : State) (j : Nat) (x : GaugeOut) : (s.setGout j x).dram = s.dram := rfl
@[simp] theorem setGout_outbox (s : State) (j : Nat) (x : GaugeOut) : (s.setGout j x).outbox = s.outbox := rfl
@[simp] theorem setGout_pending (s : State) (j : Nat) (x : GaugeOut) : (s.setGout j x).pending = s.pending := rfl
theorem setGout_frame (s : State) (j : Nat) (x : GaugeOut) : s.setGout j x = { s with gauge := (s.setGout j x).gauge } := rfl
@[simp] theorem setVersions_dev (s : State) (l : List Version) : (s.setVersions l).dev = s.dev := rfl
@[simp] theorem setVersions_now (s : State) (l : List Version) : (s.setVersions l).now = s.now := rfl
@[simp] theorem setVersions_regs (s : State) (l : List Version) : (s.setVersions l).regs = s.regs := rfl
@[simp] theorem setVersions_applied (s : State) (l : List Version) : (s.setVersions l).applied = s.applied := rfl
@[simp] theorem setVersions_evt (s : State) (l : List Version) : (s.setVersions l).evt = s.evt := rfl
@[simp] theorem setVersions_dram (s : State) (l : List Version) : (s.setVersions l).dram = s.dram := rfl
@[simp] theorem setVersions_outbox (s : State) (l : List Version) : (s.setVersions l).outbox = s.outbox := rfl
@[simp] theorem setVersions_pending (s : State) (l : List Version) : (s.setVersions l).pending = s.pending := rfl
theorem setVersions_frame (s : State) (l : List Version) : s.setVersions l = { s with pat := (s.setVersions l).pat } := rfl
@[simp] theorem setDramChan_dev (s : State) (n : Nat) (c : DramChannel) : (s.setDramChan n c).dev = s.dev := rfl
@[simp] theorem setDramChan_now (s : State) (n : Nat) (c : DramChannel) : (s.setDramChan n c).now = s.now := rfl
@[simp] theorem setDramChan_regs (s : State) (n : Nat) (c : DramChannel) : (s.setDramChan n c).regs = s.regs := rfl
@[simp] theorem setDramChan_applied (s : State) (n : Nat) (c : DramChannel) : (s.setDramChan n c).applied = s.applied := rfl
@[simp] theorem setDramChan_evt (s : State) (n : Nat) (c : DramChannel) : (s.setDramChan n c).evt = s.evt := rfl
@[simp] theorem setDramChan_dram (s : State) (n : Nat) (c : DramChannel) : (s.setDramChan n c).dram = s.dram := rfl
@[simp] theorem setDramChan_outbox (s : State) (n : Nat) (c : DramChannel) : (s.setDramChan n c).outbox = s.outbox := rfl
@[simp] theorem setDramChan_pending (s : State) (n : Nat) (c : DramChannel) : (s.setDramChan n c).pending = s.pending := rfl
theorem setDramChan_frame (s : State) (n : Nat) (c : DramChannel) : s.setDramChan n c = { s with mtx := (s.setDramChan n c).mtx } := rfl
@[simp] theorem setNeedle_dev (s : State) (h : Nat) (x : NeedleState) : (s.setNeedle h x).dev = s.dev := rfl
@[simp] theorem setNeedle_now (s : State) (h : Nat) (x : NeedleState) : (s.setNeedle h x).now = s.now := rfl
@[simp] theorem setNeedle_regs (s : State) (h : Nat) (x : NeedleState) : (s.setNeedle h x).regs = s.regs := rfl
@[simp] theorem setNeedle_applied (s : State) (h : Nat) (x : NeedleState) : (s.setNeedle h x).applied = s.applied := rfl
@[simp] theorem setNeedle_evt (s : State) (h : Nat) (x : NeedleState) : (s.setNeedle h x).evt = s.evt := rfl
@[simp] theorem setNeedle_dram (s : State) (h : Nat) (x : NeedleState) : (s.setNeedle h x).dram = s.dram := rfl
@[simp] theorem setNeedle_outbox (s : State) (h : Nat) (x : NeedleState) : (s.setNeedle h x).outbox = s.outbox := rfl
@[simp] theorem setNeedle_pending (s : State) (h : Nat) (x : NeedleState) : (s.setNeedle h x).pending = s.pending := rfl
theorem setNeedle_frame (s : State) (h : Nat) (x : NeedleState) : s.setNeedle h x = { s with ndl := (s.setNeedle h x).ndl } := rfl
@[simp] theorem setNetPort_dev (s : State) (n : Nat) (p : NetPort) : (s.setNetPort n p).dev = s.dev := rfl
@[simp] theorem setNetPort_now (s : State) (n : Nat) (p : NetPort) : (s.setNetPort n p).now = s.now := rfl
@[simp] theorem setNetPort_regs (s : State) (n : Nat) (p : NetPort) : (s.setNetPort n p).regs = s.regs := rfl
@[simp] theorem setNetPort_applied (s : State) (n : Nat) (p : NetPort) : (s.setNetPort n p).applied = s.applied := rfl
@[simp] theorem setNetPort_evt (s : State) (n : Nat) (p : NetPort) : (s.setNetPort n p).evt = s.evt := rfl
@[simp] theorem setNetPort_dram (s : State) (n : Nat) (p : NetPort) : (s.setNetPort n p).dram = s.dram := rfl
@[simp] theorem setNetPort_outbox (s : State) (n : Nat) (p : NetPort) : (s.setNetPort n p).outbox = s.outbox := rfl
@[simp] theorem setNetPort_pending (s : State) (n : Nat) (p : NetPort) : (s.setNetPort n p).pending = s.pending := rfl
theorem setNetPort_frame (s : State) (n : Nat) (p : NetPort) : s.setNetPort n p = { s with net := (s.setNetPort n p).net } := rfl
@[simp] theorem setObj_dev (s : State) (n : Nat) (o : ObjState) : (s.setObj n o).dev = s.dev := rfl
@[simp] theorem setObj_now (s : State) (n : Nat) (o : ObjState) : (s.setObj n o).now = s.now := rfl
@[simp] theorem setObj_regs (s : State) (n : Nat) (o : ObjState) : (s.setObj n o).regs = s.regs := rfl
@[simp] theorem setObj_applied (s : State) (n : Nat) (o : ObjState) : (s.setObj n o).applied = s.applied := rfl
@[simp] theorem setObj_evt (s : State) (n : Nat) (o : ObjState) : (s.setObj n o).evt = s.evt := rfl
@[simp] theorem setObj_dram (s : State) (n : Nat) (o : ObjState) : (s.setObj n o).dram = s.dram := rfl
@[simp] theorem setObj_outbox (s : State) (n : Nat) (o : ObjState) : (s.setObj n o).outbox = s.outbox := rfl
@[simp] theorem setObj_pending (s : State) (n : Nat) (o : ObjState) : (s.setObj n o).pending = s.pending := rfl
theorem setObj_frame (s : State) (n : Nat) (o : ObjState) : s.setObj n o = { s with omd := (s.setObj n o).omd } := rfl
@[simp] theorem setOut_dev (s : State) (j : Nat) (o : OutState) : (s.setOut j o).dev = s.dev := rfl
@[simp] theorem setOut_now (s : State) (j : Nat) (o : OutState) : (s.setOut j o).now = s.now := rfl
@[simp] theorem setOut_regs (s : State) (j : Nat) (o : OutState) : (s.setOut j o).regs = s.regs := rfl
@[simp] theorem setOut_applied (s : State) (j : Nat) (o : OutState) : (s.setOut j o).applied = s.applied := rfl
@[simp] theorem setOut_evt (s : State) (j : Nat) (o : OutState) : (s.setOut j o).evt = s.evt := rfl
@[simp] theorem setOut_dram (s : State) (j : Nat) (o : OutState) : (s.setOut j o).dram = s.dram := rfl
@[simp] theorem setOut_outbox (s : State) (j : Nat) (o : OutState) : (s.setOut j o).outbox = s.outbox := rfl
@[simp] theorem setOut_pending (s : State) (j : Nat) (o : OutState) : (s.setOut j o).pending = s.pending := rfl
theorem setOut_frame (s : State) (j : Nat) (o : OutState) : s.setOut j o = { s with outs := (s.setOut j o).outs } := rfl
@[simp] theorem setLogical_dev (s : State) (l : Nat) (x : LogicalTile) : (s.setLogical l x).dev = s.dev := rfl
@[simp] theorem setLogical_now (s : State) (l : Nat) (x : LogicalTile) : (s.setLogical l x).now = s.now := rfl
@[simp] theorem setLogical_regs (s : State) (l : Nat) (x : LogicalTile) : (s.setLogical l x).regs = s.regs := rfl
@[simp] theorem setLogical_applied (s : State) (l : Nat) (x : LogicalTile) : (s.setLogical l x).applied = s.applied := rfl
@[simp] theorem setLogical_evt (s : State) (l : Nat) (x : LogicalTile) : (s.setLogical l x).evt = s.evt := rfl
@[simp] theorem setLogical_dram (s : State) (l : Nat) (x : LogicalTile) : (s.setLogical l x).dram = s.dram := rfl
@[simp] theorem setLogical_outbox (s : State) (l : Nat) (x : LogicalTile) : (s.setLogical l x).outbox = s.outbox := rfl
@[simp] theorem setLogical_pending (s : State) (l : Nat) (x : LogicalTile) : (s.setLogical l x).pending = s.pending := rfl
theorem setLogical_frame (s : State) (l : Nat) (x : LogicalTile) : s.setLogical l x = { s with rndr := (s.setLogical l x).rndr } := rfl
@[simp] theorem setOutConceal_dev (s : State) (j : Nat) (c : OutConceal) : (s.setOutConceal j c).dev = s.dev := rfl
@[simp] theorem setOutConceal_now (s : State) (j : Nat) (c : OutConceal) : (s.setOutConceal j c).now = s.now := rfl
@[simp] theorem setOutConceal_regs (s : State) (j : Nat) (c : OutConceal) : (s.setOutConceal j c).regs = s.regs := rfl
@[simp] theorem setOutConceal_applied (s : State) (j : Nat) (c : OutConceal) : (s.setOutConceal j c).applied = s.applied := rfl
@[simp] theorem setOutConceal_evt (s : State) (j : Nat) (c : OutConceal) : (s.setOutConceal j c).evt = s.evt := rfl
@[simp] theorem setOutConceal_dram (s : State) (j : Nat) (c : OutConceal) : (s.setOutConceal j c).dram = s.dram := rfl
@[simp] theorem setOutConceal_outbox (s : State) (j : Nat) (c : OutConceal) : (s.setOutConceal j c).outbox = s.outbox := rfl
@[simp] theorem setOutConceal_pending (s : State) (j : Nat) (c : OutConceal) : (s.setOutConceal j c).pending = s.pending := rfl
theorem setOutConceal_frame (s : State) (j : Nat) (c : OutConceal) : s.setOutConceal j c = { s with sched := (s.setOutConceal j c).sched } := rfl
@[simp] theorem setHist_dev (s : State) (k : Nat) (c : HistChannel) : (s.setHist k c).dev = s.dev := rfl
@[simp] theorem setHist_now (s : State) (k : Nat) (c : HistChannel) : (s.setHist k c).now = s.now := rfl
@[simp] theorem setHist_regs (s : State) (k : Nat) (c : HistChannel) : (s.setHist k c).regs = s.regs := rfl
@[simp] theorem setHist_applied (s : State) (k : Nat) (c : HistChannel) : (s.setHist k c).applied = s.applied := rfl
@[simp] theorem setHist_evt (s : State) (k : Nat) (c : HistChannel) : (s.setHist k c).evt = s.evt := rfl
@[simp] theorem setHist_dram (s : State) (k : Nat) (c : HistChannel) : (s.setHist k c).dram = s.dram := rfl
@[simp] theorem setHist_outbox (s : State) (k : Nat) (c : HistChannel) : (s.setHist k c).outbox = s.outbox := rfl
@[simp] theorem setHist_pending (s : State) (k : Nat) (c : HistChannel) : (s.setHist k c).pending = s.pending := rfl
theorem setHist_frame (s : State) (k : Nat) (c : HistChannel) : s.setHist k c = { s with skein := (s.setHist k c).skein } := rfl
@[simp] theorem setStem_dev (s : State) (k : Nat) (x : StemState) : (s.setStem k x).dev = s.dev := rfl
@[simp] theorem setStem_now (s : State) (k : Nat) (x : StemState) : (s.setStem k x).now = s.now := rfl
@[simp] theorem setStem_regs (s : State) (k : Nat) (x : StemState) : (s.setStem k x).regs = s.regs := rfl
@[simp] theorem setStem_applied (s : State) (k : Nat) (x : StemState) : (s.setStem k x).applied = s.applied := rfl
@[simp] theorem setStem_evt (s : State) (k : Nat) (x : StemState) : (s.setStem k x).evt = s.evt := rfl
@[simp] theorem setStem_dram (s : State) (k : Nat) (x : StemState) : (s.setStem k x).dram = s.dram := rfl
@[simp] theorem setStem_outbox (s : State) (k : Nat) (x : StemState) : (s.setStem k x).outbox = s.outbox := rfl
@[simp] theorem setStem_pending (s : State) (k : Nat) (x : StemState) : (s.setStem k x).pending = s.pending := rfl
theorem setStem_frame (s : State) (k : Nat) (x : StemState) : s.setStem k x = { s with store := (s.setStem k x).store } := rfl
@[simp] theorem setRxs_dev (s : State) (i : Nat) (r : RxStream) : (s.setRxs i r).dev = s.dev := rfl
@[simp] theorem setRxs_now (s : State) (i : Nat) (r : RxStream) : (s.setRxs i r).now = s.now := rfl
@[simp] theorem setRxs_regs (s : State) (i : Nat) (r : RxStream) : (s.setRxs i r).regs = s.regs := rfl
@[simp] theorem setRxs_applied (s : State) (i : Nat) (r : RxStream) : (s.setRxs i r).applied = s.applied := rfl
@[simp] theorem setRxs_evt (s : State) (i : Nat) (r : RxStream) : (s.setRxs i r).evt = s.evt := rfl
@[simp] theorem setRxs_dram (s : State) (i : Nat) (r : RxStream) : (s.setRxs i r).dram = s.dram := rfl
@[simp] theorem setRxs_outbox (s : State) (i : Nat) (r : RxStream) : (s.setRxs i r).outbox = s.outbox := rfl
@[simp] theorem setRxs_pending (s : State) (i : Nat) (r : RxStream) : (s.setRxs i r).pending = s.pending := rfl
theorem setRxs_frame (s : State) (i : Nat) (r : RxStream) : s.setRxs i r = { s with net := (s.setRxs i r).net } := rfl
@[simp] theorem setTdm_dev (s : State) (n : Nat) (p : TdmPort) : (s.setTdm n p).dev = s.dev := rfl
@[simp] theorem setTdm_now (s : State) (n : Nat) (p : TdmPort) : (s.setTdm n p).now = s.now := rfl
@[simp] theorem setTdm_regs (s : State) (n : Nat) (p : TdmPort) : (s.setTdm n p).regs = s.regs := rfl
@[simp] theorem setTdm_applied (s : State) (n : Nat) (p : TdmPort) : (s.setTdm n p).applied = s.applied := rfl
@[simp] theorem setTdm_evt (s : State) (n : Nat) (p : TdmPort) : (s.setTdm n p).evt = s.evt := rfl
@[simp] theorem setTdm_dram (s : State) (n : Nat) (p : TdmPort) : (s.setTdm n p).dram = s.dram := rfl
@[simp] theorem setTdm_outbox (s : State) (n : Nat) (p : TdmPort) : (s.setTdm n p).outbox = s.outbox := rfl
@[simp] theorem setTdm_pending (s : State) (n : Nat) (p : TdmPort) : (s.setTdm n p).pending = s.pending := rfl
theorem setTdm_frame (s : State) (n : Nat) (p : TdmPort) : s.setTdm n p = { s with tdm := (s.setTdm n p).tdm } := rfl
@[simp] theorem setTile_dev (s : State) (p : Nat) (x : TileState) : (s.setTile p x).dev = s.dev := rfl
@[simp] theorem setTile_now (s : State) (p : Nat) (x : TileState) : (s.setTile p x).now = s.now := rfl
@[simp] theorem setTile_regs (s : State) (p : Nat) (x : TileState) : (s.setTile p x).regs = s.regs := rfl
@[simp] theorem setTile_applied (s : State) (p : Nat) (x : TileState) : (s.setTile p x).applied = s.applied := rfl
@[simp] theorem setTile_evt (s : State) (p : Nat) (x : TileState) : (s.setTile p x).evt = s.evt := rfl
@[simp] theorem setTile_dram (s : State) (p : Nat) (x : TileState) : (s.setTile p x).dram = s.dram := rfl
@[simp] theorem setTile_outbox (s : State) (p : Nat) (x : TileState) : (s.setTile p x).outbox = s.outbox := rfl
@[simp] theorem setTile_pending (s : State) (p : Nat) (x : TileState) : (s.setTile p x).pending = s.pending := rfl
theorem setTile_frame (s : State) (p : Nat) (x : TileState) : s.setTile p x = { s with rndr := (s.setTile p x).rndr } := rfl
@[simp] theorem setSlot_dev (s : State) (k : Nat) (x : KeySlot) : (s.setSlot k x).dev = s.dev := rfl
@[simp] theorem setSlot_now (s : State) (k : Nat) (x : KeySlot) : (s.setSlot k x).now = s.now := rfl
@[simp] theorem setSlot_regs (s : State) (k : Nat) (x : KeySlot) : (s.setSlot k x).regs = s.regs := rfl
@[simp] theorem setSlot_applied (s : State) (k : Nat) (x : KeySlot) : (s.setSlot k x).applied = s.applied := rfl
@[simp] theorem setSlot_evt (s : State) (k : Nat) (x : KeySlot) : (s.setSlot k x).evt = s.evt := rfl
@[simp] theorem setSlot_dram (s : State) (k : Nat) (x : KeySlot) : (s.setSlot k x).dram = s.dram := rfl
@[simp] theorem setSlot_outbox (s : State) (k : Nat) (x : KeySlot) : (s.setSlot k x).outbox = s.outbox := rfl
@[simp] theorem setSlot_pending (s : State) (k : Nat) (x : KeySlot) : (s.setSlot k x).pending = s.pending := rfl
theorem setSlot_frame (s : State) (k : Nat) (x : KeySlot) : s.setSlot k x = { s with net := (s.setSlot k x).net } := rfl

/-! ### What a register reads -/

/-- A register depends on the register file and on the device alone. -/
theorem rd_congr {s t : State} (hd : t.dev = s.dev) (hr : t.regs = s.regs) (o : Nat) : t.rd o = s.rd o := by
  simp [rd, hd, hr]

@[simp] theorem rd_enforce (s : State) (p : Nat) (v : Word) (o : Nat) : (s.enforce p v).rd o = s.rd o := rfl
@[simp] theorem rd_emit (s : State) (e : Emit) (o : Nat) : (s.emit e).rd o = s.rd o := rfl
@[simp] theorem rd_bumpFree (s : State)  (o : Nat) : (s.bumpFree ).rd o = s.rd o := rfl
@[simp] theorem rd_setTimer (s : State) (k : Nat) (t : Option Nat) (o : Nat) : (s.setTimer k t).rd o = s.rd o := rfl
@[simp] theorem rd_setTxn (s : State) (i : Nat) (t : Txn) (o : Nat) : (s.setTxn i t).rd o = s.rd o := rfl
@[simp] theorem rd_setCasPort (s : State) (n : Nat) (p : CasPort) (o : Nat) : (s.setCasPort n p).rd o = s.rd o := rfl
@[simp] theorem rd_setChan (s : State) (n : Nat) (c : CondChannel) (o : Nat) : (s.setChan n c).rd o = s.rd o := rfl
@[simp] theorem rd_setMeas (s : State) (m : Nat) (x : MeasState) (o : Nat) : (s.setMeas m x).rd o = s.rd o := rfl
@[simp] theorem rd_setGout (s : State) (j : Nat) (x : GaugeOut) (o : Nat) : (s.setGout j x).rd o = s.rd o := rfl
@[simp] theorem rd_setVersions (s : State) (l : List Version) (o : Nat) : (s.setVersions l).rd o = s.rd o := rfl
@[simp] theorem rd_setDramChan (s : State) (n : Nat) (c : DramChannel) (o : Nat) : (s.setDramChan n c).rd o = s.rd o := rfl
@[simp] theorem rd_setNeedle (s : State) (h : Nat) (x : NeedleState) (o : Nat) : (s.setNeedle h x).rd o = s.rd o := rfl
@[simp] theorem rd_setNetPort (s : State) (n : Nat) (p : NetPort) (o : Nat) : (s.setNetPort n p).rd o = s.rd o := rfl
@[simp] theorem rd_setObj (s : State) (n : Nat) (x : ObjState) (o : Nat) : (s.setObj n x).rd o = s.rd o := rfl
@[simp] theorem rd_setOut (s : State) (j : Nat) (x : OutState) (o : Nat) : (s.setOut j x).rd o = s.rd o := rfl
@[simp] theorem rd_setLogical (s : State) (l : Nat) (x : LogicalTile) (o : Nat) : (s.setLogical l x).rd o = s.rd o := rfl
@[simp] theorem rd_setOutConceal (s : State) (j : Nat) (c : OutConceal) (o : Nat) : (s.setOutConceal j c).rd o = s.rd o := rfl
@[simp] theorem rd_setHist (s : State) (k : Nat) (c : HistChannel) (o : Nat) : (s.setHist k c).rd o = s.rd o := rfl
@[simp] theorem rd_setStem (s : State) (k : Nat) (x : StemState) (o : Nat) : (s.setStem k x).rd o = s.rd o := rfl
@[simp] theorem rd_setRxs (s : State) (i : Nat) (r : RxStream) (o : Nat) : (s.setRxs i r).rd o = s.rd o := rfl
@[simp] theorem rd_setTdm (s : State) (n : Nat) (p : TdmPort) (o : Nat) : (s.setTdm n p).rd o = s.rd o := rfl
@[simp] theorem rd_setTile (s : State) (p : Nat) (x : TileState) (o : Nat) : (s.setTile p x).rd o = s.rd o := rfl
@[simp] theorem rd_setSlot (s : State) (k : Nat) (x : KeySlot) (o : Nat) : (s.setSlot k x).rd o = s.rd o := rfl

@[simp] theorem rd_wr_same (s : State) (o : Nat) (v : Word) : (s.wr o v).rd o = v := RegFile.get_put_same ..

theorem rd_wr_other (s : State) {o p : Nat} (h : p ≠ o) (v : Word) : (s.wr o v).rd p = s.rd p := RegFile.get_put_other _ _ h v

theorem rd_wr (s : State) (o p : Nat) (v : Word) : (s.wr o v).rd p = if p = o then v else s.rd p := by
  split
  · rename_i h; subst h; simp
  · rename_i h; exact rd_wr_other s h v

@[simp] theorem rd_wf_same (s : State) (o hi lo n : Nat) : (s.wf o hi lo n).rd o = setFld (s.rd o) hi lo n := rd_wr_same ..
theorem rd_wf_other (s : State) {o p : Nat} (h : p ≠ o) (hi lo n : Nat) : (s.wf o hi lo n).rd p = s.rd p := rd_wr_other s h _
theorem rd_setBit_other (s : State) {o p : Nat} (h : p ≠ o) (b : Nat) : (s.setBit o b).rd p = s.rd p := rd_wr_other s h _
theorem rd_clrBit_other (s : State) {o p : Nat} (h : p ≠ o) (b : Nat) : (s.clrBit o b).rd p = s.rd p := rd_wr_other s h _
theorem rd_putBit_other (s : State) {o p : Nat} (h : p ≠ o) (b : Nat) (v : Bool) : (s.putBit o b v).rd p = s.rd p := rd_wr_other s h _
theorem rd_countBy_other (s : State) {o p : Nat} (h : p ≠ o) (n : Nat) : (s.countBy o n).rd p = s.rd p := rd_wr_other s h _
theorem rd_count_other (s : State) {o p : Nat} (h : p ≠ o) : (s.count o).rd p = s.rd p := rd_wr_other s h _
theorem rd_countField_other (s : State) {o p : Nat} (h : p ≠ o) (hi lo n : Nat) : (s.countField o hi lo n).rd p = s.rd p := rd_wr_other s h _

/-- A counter after one more event (R14). -/
@[simp] theorem rd_count_same (s : State) (o : Nat) : (s.count o).rd o = BitVec.ofNat 32 (min ((s.rd o).toNat + 1) 0xFFFFFFFF) := rd_wr_same ..
@[simp] theorem rd_countBy_same (s : State) (o n : Nat) : (s.countBy o n).rd o = BitVec.ofNat 32 (min ((s.rd o).toNat + n) 0xFFFFFFFF) := rd_wr_same ..

/-- A counter never falls when it counts, and stops at its greatest value (R14). -/
theorem rd_count_toNat (s : State) (o : Nat) : ((s.count o).rd o).toNat = min ((s.rd o).toNat + 1) 0xFFFFFFFF := by
  rw [rd_count_same, BitVec.toNat_ofNat, Nat.mod_eq_of_lt]
  exact Nat.lt_of_le_of_lt (Nat.min_le_right ..) (by decide)

theorem rd_countBy_toNat (s : State) (o n : Nat) : ((s.countBy o n).rd o).toNat = min ((s.rd o).toNat + n) 0xFFFFFFFF := by
  rw [rd_countBy_same, BitVec.toNat_ofNat, Nat.mod_eq_of_lt]
  exact Nat.lt_of_le_of_lt (Nat.min_le_right ..) (by decide)

theorem rf_wf_same (s : State) (o hi lo n : Nat) (h : lo ≤ hi) (h32 : hi < 32) : (s.wf o hi lo n).rf o hi lo = n % 2 ^ (hi + 1 - lo) := by
  rw [rf, rd_wf_same, fld_setFld_same _ hi lo n h h32]

theorem rf_of_rd {s t : State} {o : Nat} (h : t.rd o = s.rd o) (hi lo : Nat) : t.rf o hi lo = s.rf o hi lo := by simp [rf, h]
theorem bitOf_of_rd {s t : State} {o : Nat} (h : t.rd o = s.rd o) (b : Nat) : t.bitOf o b = s.bitOf o b := by simp [bitOf, h]

theorem bitOf_setBit_same (s : State) (o b : Nat) (h : b < 32) : (s.setBit o b).bitOf o b = true := by
  show bitAt ((s.wf o b b 1).rd o) b = true
  rw [rd_wf_same]; exact bitAt_setFld_same _ b true h
theorem bitOf_clrBit_same (s : State) (o b : Nat) (h : b < 32) : (s.clrBit o b).bitOf o b = false := by
  show bitAt ((s.wf o b b 0).rd o) b = false
  rw [rd_wf_same]; exact bitAt_setFld_same _ b false h
theorem bitOf_putBit_same (s : State) (o b : Nat) (v : Bool) (h : b < 32) : (s.putBit o b v).bitOf o b = v := by
  show bitAt ((s.wf o b b (b2n v)).rd o) b = v
  rw [rd_wf_same]; exact bitAt_setFld_same _ b v h
theorem bitOf_wf_other (s : State) (o b c n : Nat) (h : b < 32) (hc : c ≠ b) : (s.wf o b b n).bitOf o c = s.bitOf o c := by
  rw [bitOf, rd_wf_same]; exact bitAt_setFld_other _ b c n h hc
theorem bitOf_setBit_other (s : State) (o b c : Nat) (h : b < 32) (hc : c ≠ b) : (s.setBit o b).bitOf o c = s.bitOf o c := bitOf_wf_other s o b c 1 h hc
theorem bitOf_clrBit_other (s : State) (o b c : Nat) (h : b < 32) (hc : c ≠ b) : (s.clrBit o b).bitOf o c = s.bitOf o c := bitOf_wf_other s o b c 0 h hc

@[simp] theorem inForce_enforce_same (s : State) (o : Nat) (v : Word) : (s.enforce o v).inForce o = v := RegFile.get_put_same ..
theorem inForce_enforce_other (s : State) {o p : Nat} (h : p ≠ o) (v : Word) : (s.enforce o v).inForce p = s.inForce p := RegFile.get_put_other _ _ h v

/-! ### Folds over a list -/

@[simp] theorem over_nil {α : Type} (s : State) (f : State → α → State) : s.over ([] : List α) f = s := rfl
@[simp] theorem over_cons {α : Type} (s : State) (a : α) (l : List α) (f : State → α → State) : s.over (a :: l) f = (f s a).over l f := rfl

/-- What each step of a fold keeps, the fold keeps. -/
theorem over_keeps {α : Type} {β : Sort _} (p : State → β) (f : State → α → State) (hf : ∀ t a, p (f t a) = p t) (s : State) (l : List α) :
    p (s.over l f) = p s := by
  induction l generalizing s with
  | nil => rfl
  | cons a l ih => rw [over_cons, ih, hf]

/-- A property that each step of a fold keeps holds after the fold. -/
theorem over_induct {α : Type} (P : State → Prop) (f : State → α → State) (l : List α) (hf : ∀ t, ∀ a ∈ l, P t → P (f t a))
    {s : State} (h : P s) : P (s.over l f) := by
  induction l generalizing s with
  | nil => exact h
  | cons a l ih => exact ih (fun t b hb => hf t b (List.mem_cons_of_mem _ hb)) (hf s a (List.mem_cons_self ..) h)

theorem resetRegs_nil (s : State) : s.resetRegs [] = s := rfl

theorem resetRegs_foldl (s t : State) (hd : t.dev = s.dev) (l : List Nat) :
    l.foldl (fun u o => u.wr o (resetValue s.dev o)) t = { t with regs := (l.foldl (fun u o => u.wr o (resetValue s.dev o)) t).regs } ∧
    ∀ p, (l.foldl (fun u o => u.wr o (resetValue s.dev o)) t).rd p = if p ∈ l then resetValue s.dev p else t.rd p := by
  induction l generalizing t with
  | nil => exact ⟨rfl, fun p => by simp⟩
  | cons o l ih =>
    obtain ⟨h1, h2⟩ := ih (t.wr o (resetValue s.dev o)) (by simpa using hd)
    refine ⟨?_, fun p => ?_⟩
    · rw [List.foldl_cons]; conv_lhs => rw [h1]
      rfl
    · rw [List.foldl_cons, h2 p, rd_wr]
      by_cases hp : p ∈ l
      · simp [hp]
      · by_cases ho : p = o
        · subst ho; simp
        · simp [hp, ho]

/-- The CLEAR_COUNTS commands: registers alone change. -/
theorem resetRegs_frame (s : State) (l : List Nat) : s.resetRegs l = { s with regs := (s.resetRegs l).regs } := (resetRegs_foldl s s rfl l).1

/-- The listed registers hold their reset values, and every other register what it held. -/
theorem rd_resetRegs (s : State) (l : List Nat) (p : Nat) : (s.resetRegs l).rd p = if p ∈ l then resetValue s.dev p else s.rd p :=
  (resetRegs_foldl s s rfl l).2 p

@[simp] theorem resetRegs_dev (s : State) (l : List Nat) : (s.resetRegs l).dev = s.dev := by rw [resetRegs_frame]
@[simp] theorem resetRegs_now (s : State) (l : List Nat) : (s.resetRegs l).now = s.now := by rw [resetRegs_frame]
@[simp] theorem resetRegs_uptime (s : State) (l : List Nat) : (s.resetRegs l).uptime = s.uptime := by rw [resetRegs_frame]
@[simp] theorem resetRegs_applied (s : State) (l : List Nat) : (s.resetRegs l).applied = s.applied := by rw [resetRegs_frame]
@[simp] theorem resetRegs_latches (s : State) (l : List Nat) : (s.resetRegs l).latches = s.latches := by rw [resetRegs_frame]
@[simp] theorem resetRegs_ticked (s : State) (l : List Nat) : (s.resetRegs l).ticked = s.ticked := by rw [resetRegs_frame]
@[simp] theorem resetRegs_evt (s : State) (l : List Nat) : (s.resetRegs l).evt = s.evt := by rw [resetRegs_frame]
@[simp] theorem resetRegs_host (s : State) (l : List Nat) : (s.resetRegs l).host = s.host := by rw [resetRegs_frame]
@[simp] theorem resetRegs_clk (s : State) (l : List Nat) : (s.resetRegs l).clk = s.clk := by rw [resetRegs_frame]
@[simp] theorem resetRegs_time (s : State) (l : List Nat) : (s.resetRegs l).time = s.time := by rw [resetRegs_frame]
@[simp] theorem resetRegs_net (s : State) (l : List Nat) : (s.resetRegs l).net = s.net := by rw [resetRegs_frame]
@[simp] theorem resetRegs_cond (s : State) (l : List Nat) : (s.resetRegs l).cond = s.cond := by rw [resetRegs_frame]
@[simp] theorem resetRegs_skein (s : State) (l : List Nat) : (s.resetRegs l).skein = s.skein := by rw [resetRegs_frame]
@[simp] theorem resetRegs_pat (s : State) (l : List Nat) : (s.resetRegs l).pat = s.pat := by rw [resetRegs_frame]
@[simp] theorem resetRegs_omd (s : State) (l : List Nat) : (s.resetRegs l).omd = s.omd := by rw [resetRegs_frame]
@[simp] theorem resetRegs_rndr (s : State) (l : List Nat) : (s.resetRegs l).rndr = s.rndr := by rw [resetRegs_frame]
@[simp] theorem resetRegs_ndl (s : State) (l : List Nat) : (s.resetRegs l).ndl = s.ndl := by rw [resetRegs_frame]
@[simp] theorem resetRegs_sched (s : State) (l : List Nat) : (s.resetRegs l).sched = s.sched := by rw [resetRegs_frame]
@[simp] theorem resetRegs_xp (s : State) (l : List Nat) : (s.resetRegs l).xp = s.xp := by rw [resetRegs_frame]
@[simp] theorem resetRegs_outs (s : State) (l : List Nat) : (s.resetRegs l).outs = s.outs := by rw [resetRegs_frame]
@[simp] theorem resetRegs_gauge (s : State) (l : List Nat) : (s.resetRegs l).gauge = s.gauge := by rw [resetRegs_frame]
@[simp] theorem resetRegs_tdm (s : State) (l : List Nat) : (s.resetRegs l).tdm = s.tdm := by rw [resetRegs_frame]
@[simp] theorem resetRegs_cas (s : State) (l : List Nat) : (s.resetRegs l).cas = s.cas := by rw [resetRegs_frame]
@[simp] theorem resetRegs_hedge (s : State) (l : List Nat) : (s.resetRegs l).hedge = s.hedge := by rw [resetRegs_frame]
@[simp] theorem resetRegs_store (s : State) (l : List Nat) : (s.resetRegs l).store = s.store := by rw [resetRegs_frame]
@[simp] theorem resetRegs_bootf (s : State) (l : List Nat) : (s.resetRegs l).bootf = s.bootf := by rw [resetRegs_frame]
@[simp] theorem resetRegs_mtx (s : State) (l : List Nat) : (s.resetRegs l).mtx = s.mtx := by rw [resetRegs_frame]
@[simp] theorem resetRegs_dram (s : State) (l : List Nat) : (s.resetRegs l).dram = s.dram := by rw [resetRegs_frame]
@[simp] theorem resetRegs_nand (s : State) (l : List Nat) : (s.resetRegs l).nand = s.nand := by rw [resetRegs_frame]
@[simp] theorem resetRegs_bootCopies (s : State) (l : List Nat) : (s.resetRegs l).bootCopies = s.bootCopies := by rw [resetRegs_frame]
@[simp] theorem resetRegs_flash (s : State) (l : List Nat) : (s.resetRegs l).flash = s.flash := by rw [resetRegs_frame]
@[simp] theorem resetRegs_freeIdx (s : State) (l : List Nat) : (s.resetRegs l).freeIdx = s.freeIdx := by rw [resetRegs_frame]
@[simp] theorem resetRegs_outbox (s : State) (l : List Nat) : (s.resetRegs l).outbox = s.outbox := by rw [resetRegs_frame]
@[simp] theorem resetRegs_readData (s : State) (l : List Nat) : (s.resetRegs l).readData = s.readData := by rw [resetRegs_frame]
@[simp] theorem resetRegs_pending (s : State) (l : List Nat) : (s.resetRegs l).pending = s.pending := by rw [resetRegs_frame]

end Sys2Proof.Machine.State
end

