-- ==== Sys2Proof/Laws/Flags.lean ====
section
/-! SUPPORT. What the event controller's operations can do: an event or a level writes the pending, live and vector registers of its
own source, the merged counter and the vector's timer, and nothing else. -/

namespace Sys2Proof.Machine.State

theorem startTimer_frame (s : State) (k : Nat) : s.startTimer k = { s with evt := (s.startTimer k).evt } := by
  unfold startTimer; split <;> rfl

@[simp] theorem rd_startTimer (s : State) (k o : Nat) : (s.startTimer k).rd o = s.rd o := by
  unfold startTimer; split <;> rfl

theorem countAssertion_frame (s : State) (n : Nat) :
    s.countAssertion n = { s with regs := (s.countAssertion n).regs, evt := (s.countAssertion n).evt } := by
  unfold countAssertion; split
  · rw [startTimer_frame]; rfl
  · rfl

theorem rd_countAssertion_other (s : State) (n : Nat) {o : Nat} (h : o ≠ Reg.VEC_STATUS (n / 32)) : (s.countAssertion n).rd o = s.rd o := by
  unfold countAssertion; split
  · rw [rd_startTimer, rd_wf_other s h]
  · rfl

/-- Frames of registers and timers compose. -/
theorem evt_frame_trans {s t u : State} (h1 : t = { s with regs := t.regs, evt := t.evt })
    (h2 : u = { t with regs := u.regs, evt := u.evt }) : u = { s with regs := u.regs, evt := u.evt } :=
  h2.trans (by rw [h1])

theorem wr_frame (s : State) (o : Nat) (v : Word) : s.wr o v = { s with regs := (s.wr o v).regs, evt := (s.wr o v).evt } := rfl

/-- An event writes registers and the vectors' timers alone. -/
theorem event_frame (s : State) (n : Nat) : s.event n = { s with regs := (s.event n).regs, evt := (s.event n).evt } := by
  unfold event; split
  · simp only []
    split
    · exact evt_frame_trans (t := s.count Reg.EVT_MERGED) (wr_frame s _ _) (countAssertion_frame _ n)
    · exact evt_frame_trans (t := s.setBit (Reg.EVT_PENDING (n / 32)) (n % 32)) (wr_frame s _ _) (countAssertion_frame _ n)
  · rfl

theorem rd_event_other (s : State) (n : Nat) {o : Nat} (h : o ∉ evtRegs n) : (s.event n).rd o = s.rd o := by
  simp only [evtRegs, List.mem_cons, List.not_mem_nil, or_false, not_or] at h
  unfold event; split
  · simp only []
    rw [rd_countAssertion_other _ n h.2.2.1]; split
    · exact rd_count_other s h.1
    · exact rd_setBit_other s h.2.1 _
  · rfl

theorem eventTimes_zero (s : State) (n : Nat) : s.eventTimes n 0 = s := rfl
theorem eventTimes_succ (s : State) (n k : Nat) : s.eventTimes n (k + 1) = (s.event n).eventTimes n k := rfl

theorem eventTimes_frame (s : State) (n k : Nat) :
    s.eventTimes n k = { s with regs := (s.eventTimes n k).regs, evt := (s.eventTimes n k).evt } := by
  induction k generalizing s with
  | zero => rfl
  | succ k ih => exact evt_frame_trans (event_frame s n) (ih (s.event n))

theorem rd_eventTimes_other (s : State) (n k : Nat) {o : Nat} (h : o ∉ evtRegs n) : (s.eventTimes n k).rd o = s.rd o := by
  induction k generalizing s with
  | zero => exact congrArg (·.rd o) (eventTimes_zero s n)
  | succ k ih => rw [eventTimes_succ, ih, rd_event_other s n h]

theorem levelAssert_frame (s : State) (n : Nat) :
    s.levelAssert n = { s with regs := (s.levelAssert n).regs, evt := (s.levelAssert n).evt } := by
  unfold levelAssert; split
  · exact evt_frame_trans rfl (countAssertion_frame _ n)
  · rfl

theorem rd_levelAssert_other (s : State) (n : Nat) {o : Nat} (h : o ∉ evtRegs n) : (s.levelAssert n).rd o = s.rd o := by
  simp only [evtRegs, List.mem_cons, List.not_mem_nil, or_false, not_or] at h
  unfold levelAssert; split
  · rw [rd_countAssertion_other _ n h.2.2.1, rd_setBit_other s h.2.1 _]
  · rfl

/-- A level source writes registers and the vectors' timers alone. -/
theorem level_frame (s : State) (n : Nat) (v : Bool) : s.level n v = { s with regs := (s.level n v).regs, evt := (s.level n v).evt } := by
  unfold level; split
  · refine evt_frame_trans (t := if v && !s.sourceLive n then s.levelAssert n else s) ?_ rfl
    split
    · exact levelAssert_frame s n
    · rfl
  · rfl

theorem rd_level_other (s : State) (n : Nat) (v : Bool) {o : Nat} (h : o ∉ evtRegs n) : (s.level n v).rd o = s.rd o := by
  have h' := h
  simp only [evtRegs, List.mem_cons, List.not_mem_nil, or_false, not_or] at h
  unfold level; split
  · simp only []
    rw [rd_putBit_other _ h.2.2.2]; split
    · exact rd_levelAssert_other s n h'
    · rfl
  · rfl

/-- Nothing but registers and timers: the projections of an event. -/
theorem event_proj {β : Sort _} (p : State → β) (hp : ∀ t r e, p { t with regs := r, evt := e } = p t) (s : State) (n : Nat) :
    p (s.event n) = p s := by rw [event_frame]; exact hp ..

theorem level_proj {β : Sort _} (p : State → β) (hp : ∀ t r e, p { t with regs := r, evt := e } = p t) (s : State) (n : Nat) (v : Bool) :
    p (s.level n v) = p s := by rw [level_frame]; exact hp ..

@[simp] theorem event_dev (s : State) (n : Nat) : (s.event n).dev = s.dev := by rw [event_frame]
@[simp] theorem eventTimes_dev (s : State) (n k : Nat) : (s.eventTimes n k).dev = s.dev := by rw [eventTimes_frame]
@[simp] theorem level_dev (s : State) (n : Nat) (v : Bool) : (s.level n v).dev = s.dev := by rw [level_frame]
@[simp] theorem event_now (s : State) (n : Nat) : (s.event n).now = s.now := by rw [event_frame]
@[simp] theorem eventTimes_now (s : State) (n k : Nat) : (s.eventTimes n k).now = s.now := by rw [eventTimes_frame]
@[simp] theorem level_now (s : State) (n : Nat) (v : Bool) : (s.level n v).now = s.now := by rw [level_frame]
@[simp] theorem event_uptime (s : State) (n : Nat) : (s.event n).uptime = s.uptime := by rw [event_frame]
@[simp] theorem eventTimes_uptime (s : State) (n k : Nat) : (s.eventTimes n k).uptime = s.uptime := by rw [eventTimes_frame]
@[simp] theorem level_uptime (s : State) (n : Nat) (v : Bool) : (s.level n v).uptime = s.uptime := by rw [level_frame]
@[simp] theorem event_applied (s : State) (n : Nat) : (s.event n).applied = s.applied := by rw [event_frame]
@[simp] theorem eventTimes_applied (s : State) (n k : Nat) : (s.eventTimes n k).applied = s.applied := by rw [eventTimes_frame]
@[simp] theorem level_applied (s : State) (n : Nat) (v : Bool) : (s.level n v).applied = s.applied := by rw [level_frame]
@[simp] theorem event_latches (s : State) (n : Nat) : (s.event n).latches = s.latches := by rw [event_frame]
@[simp] theorem eventTimes_latches (s : State) (n k : Nat) : (s.eventTimes n k).latches = s.latches := by rw [eventTimes_frame]
@[simp] theorem level_latches (s : State) (n : Nat) (v : Bool) : (s.level n v).latches = s.latches := by rw [level_frame]
@[simp] theorem event_ticked (s : State) (n : Nat) : (s.event n).ticked = s.ticked := by rw [event_frame]
@[simp] theorem eventTimes_ticked (s : State) (n k : Nat) : (s.eventTimes n k).ticked = s.ticked := by rw [eventTimes_frame]
@[simp] theorem level_ticked (s : State) (n : Nat) (v : Bool) : (s.level n v).ticked = s.ticked := by rw [level_frame]
@[simp] theorem event_host (s : State) (n : Nat) : (s.event n).host = s.host := by rw [event_frame]
@[simp] theorem eventTimes_host (s : State) (n k : Nat) : (s.eventTimes n k).host = s.host := by rw [eventTimes_frame]
@[simp] theorem level_host (s : State) (n : Nat) (v : Bool) : (s.level n v).host = s.host := by rw [level_frame]
@[simp] theorem event_clk (s : State) (n : Nat) : (s.event n).clk = s.clk := by rw [event_frame]
@[simp] theorem eventTimes_clk (s : State) (n k : Nat) : (s.eventTimes n k).clk = s.clk := by rw [eventTimes_frame]
@[simp] theorem level_clk (s : State) (n : Nat) (v : Bool) : (s.level n v).clk = s.clk := by rw [level_frame]
@[simp] theorem event_time (s : State) (n : Nat) : (s.event n).time = s.time := by rw [event_frame]
@[simp] theorem eventTimes_time (s : State) (n k : Nat) : (s.eventTimes n k).time = s.time := by rw [eventTimes_frame]
@[simp] theorem level_time (s : State) (n : Nat) (v : Bool) : (s.level n v).time = s.time := by rw [level_frame]
@[simp] theorem event_net (s : State) (n : Nat) : (s.event n).net = s.net := by rw [event_frame]
@[simp] theorem eventTimes_net (s : State) (n k : Nat) : (s.eventTimes n k).net = s.net := by rw [eventTimes_frame]
@[simp] theorem level_net (s : State) (n : Nat) (v : Bool) : (s.level n v).net = s.net := by rw [level_frame]
@[simp] theorem event_cond (s : State) (n : Nat) : (s.event n).cond = s.cond := by rw [event_frame]
@[simp] theorem eventTimes_cond (s : State) (n k : Nat) : (s.eventTimes n k).cond = s.cond := by rw [eventTimes_frame]
@[simp] theorem level_cond (s : State) (n : Nat) (v : Bool) : (s.level n v).cond = s.cond := by rw [level_frame]
@[simp] theorem event_skein (s : State) (n : Nat) : (s.event n).skein = s.skein := by rw [event_frame]
@[simp] theorem eventTimes_skein (s : State) (n k : Nat) : (s.eventTimes n k).skein = s.skein := by rw [eventTimes_frame]
@[simp] theorem level_skein (s : State) (n : Nat) (v : Bool) : (s.level n v).skein = s.skein := by rw [level_frame]
@[simp] theorem event_pat (s : State) (n : Nat) : (s.event n).pat = s.pat := by rw [event_frame]
@[simp] theorem eventTimes_pat (s : State) (n k : Nat) : (s.eventTimes n k).pat = s.pat := by rw [eventTimes_frame]
@[simp] theorem level_pat (s : State) (n : Nat) (v : Bool) : (s.level n v).pat = s.pat := by rw [level_frame]
@[simp] theorem event_omd (s : State) (n : Nat) : (s.event n).omd = s.omd := by rw [event_frame]
@[simp] theorem eventTimes_omd (s : State) (n k : Nat) : (s.eventTimes n k).omd = s.omd := by rw [eventTimes_frame]
@[simp] theorem level_omd (s : State) (n : Nat) (v : Bool) : (s.level n v).omd = s.omd := by rw [level_frame]
@[simp] theorem event_rndr (s : State) (n : Nat) : (s.event n).rndr = s.rndr := by rw [event_frame]
@[simp] theorem eventTimes_rndr (s : State) (n k : Nat) : (s.eventTimes n k).rndr = s.rndr := by rw [eventTimes_frame]
@[simp] theorem level_rndr (s : State) (n : Nat) (v : Bool) : (s.level n v).rndr = s.rndr := by rw [level_frame]
@[simp] theorem event_ndl (s : State) (n : Nat) : (s.event n).ndl = s.ndl := by rw [event_frame]
@[simp] theorem eventTimes_ndl (s : State) (n k : Nat) : (s.eventTimes n k).ndl = s.ndl := by rw [eventTimes_frame]
@[simp] theorem level_ndl (s : State) (n : Nat) (v : Bool) : (s.level n v).ndl = s.ndl := by rw [level_frame]
@[simp] theorem event_sched (s : State) (n : Nat) : (s.event n).sched = s.sched := by rw [event_frame]
@[simp] theorem eventTimes_sched (s : State) (n k : Nat) : (s.eventTimes n k).sched = s.sched := by rw [eventTimes_frame]
@[simp] theorem level_sched (s : State) (n : Nat) (v : Bool) : (s.level n v).sched = s.sched := by rw [level_frame]
@[simp] theorem event_xp (s : State) (n : Nat) : (s.event n).xp = s.xp := by rw [event_frame]
@[simp] theorem eventTimes_xp (s : State) (n k : Nat) : (s.eventTimes n k).xp = s.xp := by rw [eventTimes_frame]
@[simp] theorem level_xp (s : State) (n : Nat) (v : Bool) : (s.level n v).xp = s.xp := by rw [level_frame]
@[simp] theorem event_outs (s : State) (n : Nat) : (s.event n).outs = s.outs := by rw [event_frame]
@[simp] theorem eventTimes_outs (s : State) (n k : Nat) : (s.eventTimes n k).outs = s.outs := by rw [eventTimes_frame]
@[simp] theorem level_outs (s : State) (n : Nat) (v : Bool) : (s.level n v).outs = s.outs := by rw [level_frame]
@[simp] theorem event_gauge (s : State) (n : Nat) : (s.event n).gauge = s.gauge := by rw [event_frame]
@[simp] theorem eventTimes_gauge (s : State) (n k : Nat) : (s.eventTimes n k).gauge = s.gauge := by rw [eventTimes_frame]
@[simp] theorem level_gauge (s : State) (n : Nat) (v : Bool) : (s.level n v).gauge = s.gauge := by rw [level_frame]
@[simp] theorem event_tdm (s : State) (n : Nat) : (s.event n).tdm = s.tdm := by rw [event_frame]
@[simp] theorem eventTimes_tdm (s : State) (n k : Nat) : (s.eventTimes n k).tdm = s.tdm := by rw [eventTimes_frame]
@[simp] theorem level_tdm (s : State) (n : Nat) (v : Bool) : (s.level n v).tdm = s.tdm := by rw [level_frame]
@[simp] theorem event_cas (s : State) (n : Nat) : (s.event n).cas = s.cas := by rw [event_frame]
@[simp] theorem eventTimes_cas (s : State) (n k : Nat) : (s.eventTimes n k).cas = s.cas := by rw [eventTimes_frame]
@[simp] theorem level_cas (s : State) (n : Nat) (v : Bool) : (s.level n v).cas = s.cas := by rw [level_frame]
@[simp] theorem event_hedge (s : State) (n : Nat) : (s.event n).hedge = s.hedge := by rw [event_frame]
@[simp] theorem eventTimes_hedge (s : State) (n k : Nat) : (s.eventTimes n k).hedge = s.hedge := by rw [eventTimes_frame]
@[simp] theorem level_hedge (s : State) (n : Nat) (v : Bool) : (s.level n v).hedge = s.hedge := by rw [level_frame]
@[simp] theorem event_store (s : State) (n : Nat) : (s.event n).store = s.store := by rw [event_frame]
@[simp] theorem eventTimes_store (s : State) (n k : Nat) : (s.eventTimes n k).store = s.store := by rw [eventTimes_frame]
@[simp] theorem level_store (s : State) (n : Nat) (v : Bool) : (s.level n v).store = s.store := by rw [level_frame]
@[simp] theorem event_bootf (s : State) (n : Nat) : (s.event n).bootf = s.bootf := by rw [event_frame]
@[simp] theorem eventTimes_bootf (s : State) (n k : Nat) : (s.eventTimes n k).bootf = s.bootf := by rw [eventTimes_frame]
@[simp] theorem level_bootf (s : State) (n : Nat) (v : Bool) : (s.level n v).bootf = s.bootf := by rw [level_frame]
@[simp] theorem event_mtx (s : State) (n : Nat) : (s.event n).mtx = s.mtx := by rw [event_frame]
@[simp] theorem eventTimes_mtx (s : State) (n k : Nat) : (s.eventTimes n k).mtx = s.mtx := by rw [eventTimes_frame]
@[simp] theorem level_mtx (s : State) (n : Nat) (v : Bool) : (s.level n v).mtx = s.mtx := by rw [level_frame]
@[simp] theorem event_dram (s : State) (n : Nat) : (s.event n).dram = s.dram := by rw [event_frame]
@[simp] theorem eventTimes_dram (s : State) (n k : Nat) : (s.eventTimes n k).dram = s.dram := by rw [eventTimes_frame]
@[simp] theorem level_dram (s : State) (n : Nat) (v : Bool) : (s.level n v).dram = s.dram := by rw [level_frame]
@[simp] theorem event_nand (s : State) (n : Nat) : (s.event n).nand = s.nand := by rw [event_frame]
@[simp] theorem eventTimes_nand (s : State) (n k : Nat) : (s.eventTimes n k).nand = s.nand := by rw [eventTimes_frame]
@[simp] theorem level_nand (s : State) (n : Nat) (v : Bool) : (s.level n v).nand = s.nand := by rw [level_frame]
@[simp] theorem event_bootCopies (s : State) (n : Nat) : (s.event n).bootCopies = s.bootCopies := by rw [event_frame]
@[simp] theorem eventTimes_bootCopies (s : State) (n k : Nat) : (s.eventTimes n k).bootCopies = s.bootCopies := by rw [eventTimes_frame]
@[simp] theorem level_bootCopies (s : State) (n : Nat) (v : Bool) : (s.level n v).bootCopies = s.bootCopies := by rw [level_frame]
@[simp] theorem event_flash (s : State) (n : Nat) : (s.event n).flash = s.flash := by rw [event_frame]
@[simp] theorem eventTimes_flash (s : State) (n k : Nat) : (s.eventTimes n k).flash = s.flash := by rw [eventTimes_frame]
@[simp] theorem level_flash (s : State) (n : Nat) (v : Bool) : (s.level n v).flash = s.flash := by rw [level_frame]
@[simp] theorem event_freeIdx (s : State) (n : Nat) : (s.event n).freeIdx = s.freeIdx := by rw [event_frame]
@[simp] theorem eventTimes_freeIdx (s : State) (n k : Nat) : (s.eventTimes n k).freeIdx = s.freeIdx := by rw [eventTimes_frame]
@[simp] theorem level_freeIdx (s : State) (n : Nat) (v : Bool) : (s.level n v).freeIdx = s.freeIdx := by rw [level_frame]
@[simp] theorem event_outbox (s : State) (n : Nat) : (s.event n).outbox = s.outbox := by rw [event_frame]
@[simp] theorem eventTimes_outbox (s : State) (n k : Nat) : (s.eventTimes n k).outbox = s.outbox := by rw [eventTimes_frame]
@[simp] theorem level_outbox (s : State) (n : Nat) (v : Bool) : (s.level n v).outbox = s.outbox := by rw [level_frame]
@[simp] theorem event_readData (s : State) (n : Nat) : (s.event n).readData = s.readData := by rw [event_frame]
@[simp] theorem eventTimes_readData (s : State) (n k : Nat) : (s.eventTimes n k).readData = s.readData := by rw [eventTimes_frame]
@[simp] theorem level_readData (s : State) (n : Nat) (v : Bool) : (s.level n v).readData = s.readData := by rw [level_frame]
@[simp] theorem event_pending (s : State) (n : Nat) : (s.event n).pending = s.pending := by rw [event_frame]
@[simp] theorem eventTimes_pending (s : State) (n k : Nat) : (s.eventTimes n k).pending = s.pending := by rw [eventTimes_frame]
@[simp] theorem level_pending (s : State) (n : Nat) (v : Bool) : (s.level n v).pending = s.pending := by rw [level_frame]

/-- An event of a source that exists leaves its pending bit set, whether it latched now or had latched before (R493). -/
theorem event_sets_pending (s : State) (n : Nat) (h : s.sourceExists n = true) : (s.event n).sourcePending n = true := by
  have h32 : n % 32 < 32 := Nat.mod_lt _ (by decide)
  have hv : Reg.EVT_PENDING (n / 32) ≠ Reg.VEC_STATUS (n / 32) := by
    simp only [Reg.EVT_PENDING, Reg.VEC_STATUS]; omega
  have hm : Reg.EVT_PENDING (n / 32) ≠ Reg.EVT_MERGED := by
    have hn : n < 256 := by
      simp only [sourceExists, sourceReserved, Bool.and_eq_true, Bool.not_eq_true', Bool.or_eq_false_iff, decide_eq_false_iff_not] at h
      omega
    simp only [Reg.EVT_PENDING, Reg.EVT_MERGED]; omega
  unfold event; rw [if_pos h]; simp only []
  have key : ∀ t : State, t.bitOf (Reg.EVT_PENDING (n / 32)) (n % 32) = true → (t.countAssertion n).sourcePending n = true := by
    intro t ht; rw [sourcePending, bitOf_of_rd (rd_countAssertion_other t n hv)]; exact ht
  split
  · rename_i hp
    exact key _ (by rw [bitOf_of_rd (rd_count_other s hm)]; exact hp)
  · exact key _ (bitOf_setBit_same s _ _ h32)

/-- An event of a source that does not exist changes nothing (R12, R492). -/
theorem event_absent (s : State) (n : Nat) (h : s.sourceExists n = false) : s.event n = s := by unfold event; simp [h]

end Sys2Proof.Machine.State
end

