-- ==== Sys2Proof/Laws/Ops.lean ====
section
/-! SUPPORT. What the operations that several commands share can do: absent accesses, the default target, the fabric's events, and the
form in which a command's effect on the memories and the device is answered. -/

namespace Sys2Proof.Machine

@[simp] theorem Device.keep_same (d : Device) : d.keep d = d := by simp [Device.keep, Nat.or_self]

theorem Device.keep_grows (d e : Device) (k : Nat) (h : d.revoked.testBit k = true) : (d.keep e).revoked.testBit k = true := by
  show (d.revoked ||| e.revoked).testBit k = true
  simp [Nat.testBit_or, h]

namespace State

/-! ### Counters -/

theorem counter_count (s : State) (o : Nat) : (s.count o).counter o = s.counterAfter o 1 := rd_count_toNat s o
theorem counter_countBy (s : State) (o n : Nat) : (s.countBy o n).counter o = s.counterAfter o n := rd_countBy_toNat s o n
theorem counter_of_rd {s t : State} {o : Nat} (h : t.rd o = s.rd o) : t.counter o = s.counter o := by simp [counter, h]

/-! ### The answered form -/

/-- A canonical state's memories and its device are answered as they are. -/
theorem answered_same (s u : State) (h : s.Canonical) (hd : u.dev = s.dev) (h1 : u.dram = s.dram) (h2 : u.flash = s.flash) :
    ({ u with dev := s.dev.keep u.dev, dram := Memory.canon 0 u.dram, flash := Memory.canon 0xFF u.flash } : State) = u := by
  rw [hd, h1, h2, Device.keep_same, Memory.canon_of_wf _ h.1, Memory.canon_of_wf _ h.2, ← hd, ← h1, ← h2]

/-! ### Absent units (R11) -/

theorem absentAccess_frame (s : State) (off : Nat) : s.absentAccess off = { s with regs := (s.absentAccess off).regs } := rfl

theorem absentAccess_spec (s : State) (off : Nat) :
    (s.absentAccess off).counter Reg.IDENT_ABSENT_ACCESS_COUNT = s.counterAfter Reg.IDENT_ABSENT_ACCESS_COUNT 1 ∧
    (s.absentAccess off).rd Reg.IDENT_ABSENT_LAST_OFFSET = BitVec.ofNat 32 off ∧
    s.RegsKept (s.absentAccess off) [Reg.IDENT_ABSENT_ACCESS_COUNT, Reg.IDENT_ABSENT_LAST_OFFSET] := by
  refine ⟨?_, rd_wr_same _ _ _, fun o ho => ?_⟩
  · unfold absentAccess
    rw [counter_of_rd (rd_wr_other _ (by decide) _)]; exact counter_count s _
  · simp only [List.mem_cons, List.not_mem_nil, or_false, not_or] at ho
    unfold absentAccess
    rw [rd_wr_other _ ho.2, rd_count_other _ ho.1]

/-- A command of an absent unit is an access to it, and of a present one its effect. -/
theorem unit_present (s : State) {b : Block} {i : Nat} (off : Nat) (f : State → State) (h : s.dev.part.has b i = true) : s.unit b i off f = f s := by
  simp [unit, h]

theorem unit_absent (s : State) {b : Block} {i : Nat} (off : Nat) (f : State → State) (h : s.dev.part.has b i = false) :
    s.unit b i off f = s.absentAccess off := by simp [unit, h]

/-! ### The fabric (R446, R447) -/

theorem mtxOnce_frame (s : State) (n : Nat) :
    s.mtxOnce n = { s with regs := (s.mtxOnce n).regs, evt := (s.mtxOnce n).evt, mtx := (s.mtxOnce n).mtx } := by
  have h : s.event n = { s with regs := (s.event n).regs, evt := (s.event n).evt } := event_frame s n
  unfold mtxOnce; split
  · rfl
  · conv_lhs => rw [h]

theorem rd_mtxOnce_other (s : State) (n : Nat) {o : Nat} (h : o ∉ evtRegs n) : (s.mtxOnce n).rd o = s.rd o := by
  unfold mtxOnce; split
  · rfl
  · exact rd_event_other s n h

/-- The registers a decode error writes. -/
def decodeRegs : List Nat := [Reg.MATRIX_DECODE_ADDR_LO, Reg.MATRIX_DECODE_ADDR_LO + 4, Reg.MATRIX_DECODE_INFO, Reg.MATRIX_DECODE_ERRORS]

theorem decodeError_frame (s : State) (m a : Nat) (w : Bool) (c : Nat) :
    s.decodeError m a w c =
      { s with regs := (s.decodeError m a w c).regs, evt := (s.decodeError m a w c).evt, mtx := (s.decodeError m a w c).mtx } := by
  generalize hu : ((s.wr64 Reg.MATRIX_DECODE_ADDR_LO (a % 2 ^ 40)).wr Reg.MATRIX_DECODE_INFO
    (BitVec.ofNat 32 (m % 16 + 16 * b2n w + 32 * c))).count Reg.MATRIX_DECODE_ERRORS = u
  have h := mtxOnce_frame u 56
  have hd : s.decodeError m a w c = u.mtxOnce 56 := by unfold decodeError; rw [hu]
  rw [hd]
  exact h.trans (by rw [← hu]; rfl)

theorem rd_decodeError (s : State) (m a : Nat) (w : Bool) (c : Nat) {o : Nat} (h : o ∉ evtRegs 56) :
    (s.decodeError m a w c).rd o = (((s.wr64 Reg.MATRIX_DECODE_ADDR_LO (a % 2 ^ 40)).wr Reg.MATRIX_DECODE_INFO
      (BitVec.ofNat 32 (m % 16 + 16 * b2n w + 32 * c))).count Reg.MATRIX_DECODE_ERRORS).rd o := rd_mtxOnce_other _ 56 h

theorem rd_decodeError_other (s : State) (m a : Nat) (w : Bool) (c : Nat) {o : Nat} (h : o ∉ decodeRegs) (he : o ∉ evtRegs 56) :
    (s.decodeError m a w c).rd o = s.rd o := by
  simp only [decodeRegs, List.mem_cons, List.not_mem_nil, or_false, not_or] at h
  rw [rd_decodeError s m a w c he, rd_count_other _ h.2.2.2, rd_wr_other _ h.2.2.1, wr64, rd_wr_other _ h.2.1, rd_wr_other _ h.1]

@[simp] theorem mtxOnce_dev (s : State) (n : Nat) : (s.mtxOnce n).dev = s.dev := by rw [mtxOnce_frame]
@[simp] theorem mtxOnce_now (s : State) (n : Nat) : (s.mtxOnce n).now = s.now := by rw [mtxOnce_frame]
@[simp] theorem mtxOnce_uptime (s : State) (n : Nat) : (s.mtxOnce n).uptime = s.uptime := by rw [mtxOnce_frame]
@[simp] theorem mtxOnce_applied (s : State) (n : Nat) : (s.mtxOnce n).applied = s.applied := by rw [mtxOnce_frame]
@[simp] theorem mtxOnce_latches (s : State) (n : Nat) : (s.mtxOnce n).latches = s.latches := by rw [mtxOnce_frame]
@[simp] theorem mtxOnce_ticked (s : State) (n : Nat) : (s.mtxOnce n).ticked = s.ticked := by rw [mtxOnce_frame]
@[simp] theorem mtxOnce_host (s : State) (n : Nat) : (s.mtxOnce n).host = s.host := by rw [mtxOnce_frame]
@[simp] theorem mtxOnce_clk (s : State) (n : Nat) : (s.mtxOnce n).clk = s.clk := by rw [mtxOnce_frame]
@[simp] theorem mtxOnce_time (s : State) (n : Nat) : (s.mtxOnce n).time = s.time := by rw [mtxOnce_frame]
@[simp] theorem mtxOnce_net (s : State) (n : Nat) : (s.mtxOnce n).net = s.net := by rw [mtxOnce_frame]
@[simp] theorem mtxOnce_cond (s : State) (n : Nat) : (s.mtxOnce n).cond = s.cond := by rw [mtxOnce_frame]
@[simp] theorem mtxOnce_skein (s : State) (n : Nat) : (s.mtxOnce n).skein = s.skein := by rw [mtxOnce_frame]
@[simp] theorem mtxOnce_pat (s : State) (n : Nat) : (s.mtxOnce n).pat = s.pat := by rw [mtxOnce_frame]
@[simp] theorem mtxOnce_omd (s : State) (n : Nat) : (s.mtxOnce n).omd = s.omd := by rw [mtxOnce_frame]
@[simp] theorem mtxOnce_rndr (s : State) (n : Nat) : (s.mtxOnce n).rndr = s.rndr := by rw [mtxOnce_frame]
@[simp] theorem mtxOnce_ndl (s : State) (n : Nat) : (s.mtxOnce n).ndl = s.ndl := by rw [mtxOnce_frame]
@[simp] theorem mtxOnce_sched (s : State) (n : Nat) : (s.mtxOnce n).sched = s.sched := by rw [mtxOnce_frame]
@[simp] theorem mtxOnce_xp (s : State) (n : Nat) : (s.mtxOnce n).xp = s.xp := by rw [mtxOnce_frame]
@[simp] theorem mtxOnce_outs (s : State) (n : Nat) : (s.mtxOnce n).outs = s.outs := by rw [mtxOnce_frame]
@[simp] theorem mtxOnce_gauge (s : State) (n : Nat) : (s.mtxOnce n).gauge = s.gauge := by rw [mtxOnce_frame]
@[simp] theorem mtxOnce_tdm (s : State) (n : Nat) : (s.mtxOnce n).tdm = s.tdm := by rw [mtxOnce_frame]
@[simp] theorem mtxOnce_cas (s : State) (n : Nat) : (s.mtxOnce n).cas = s.cas := by rw [mtxOnce_frame]
@[simp] theorem mtxOnce_hedge (s : State) (n : Nat) : (s.mtxOnce n).hedge = s.hedge := by rw [mtxOnce_frame]
@[simp] theorem mtxOnce_store (s : State) (n : Nat) : (s.mtxOnce n).store = s.store := by rw [mtxOnce_frame]
@[simp] theorem mtxOnce_bootf (s : State) (n : Nat) : (s.mtxOnce n).bootf = s.bootf := by rw [mtxOnce_frame]
@[simp] theorem mtxOnce_dram (s : State) (n : Nat) : (s.mtxOnce n).dram = s.dram := by rw [mtxOnce_frame]
@[simp] theorem mtxOnce_nand (s : State) (n : Nat) : (s.mtxOnce n).nand = s.nand := by rw [mtxOnce_frame]
@[simp] theorem mtxOnce_bootCopies (s : State) (n : Nat) : (s.mtxOnce n).bootCopies = s.bootCopies := by rw [mtxOnce_frame]
@[simp] theorem mtxOnce_flash (s : State) (n : Nat) : (s.mtxOnce n).flash = s.flash := by rw [mtxOnce_frame]
@[simp] theorem mtxOnce_freeIdx (s : State) (n : Nat) : (s.mtxOnce n).freeIdx = s.freeIdx := by rw [mtxOnce_frame]
@[simp] theorem mtxOnce_outbox (s : State) (n : Nat) : (s.mtxOnce n).outbox = s.outbox := by rw [mtxOnce_frame]
@[simp] theorem mtxOnce_readData (s : State) (n : Nat) : (s.mtxOnce n).readData = s.readData := by rw [mtxOnce_frame]
@[simp] theorem mtxOnce_pending (s : State) (n : Nat) : (s.mtxOnce n).pending = s.pending := by rw [mtxOnce_frame]
@[simp] theorem decodeError_dev (s : State) (m a : Nat) (w : Bool) (c : Nat) : (s.decodeError m a w c).dev = s.dev := by rw [decodeError_frame]
@[simp] theorem decodeError_now (s : State) (m a : Nat) (w : Bool) (c : Nat) : (s.decodeError m a w c).now = s.now := by rw [decodeError_frame]
@[simp] theorem decodeError_uptime (s : State) (m a : Nat) (w : Bool) (c : Nat) : (s.decodeError m a w c).uptime = s.uptime := by rw [decodeError_frame]
@[simp] theorem decodeError_applied (s : State) (m a : Nat) (w : Bool) (c : Nat) : (s.decodeError m a w c).applied = s.applied := by rw [decodeError_frame]
@[simp] theorem decodeError_latches (s : State) (m a : Nat) (w : Bool) (c : Nat) : (s.decodeError m a w c).latches = s.latches := by rw [decodeError_frame]
@[simp] theorem decodeError_ticked (s : State) (m a : Nat) (w : Bool) (c : Nat) : (s.decodeError m a w c).ticked = s.ticked := by rw [decodeError_frame]
@[simp] theorem decodeError_host (s : State) (m a : Nat) (w : Bool) (c : Nat) : (s.decodeError m a w c).host = s.host := by rw [decodeError_frame]
@[simp] theorem decodeError_clk (s : State) (m a : Nat) (w : Bool) (c : Nat) : (s.decodeError m a w c).clk = s.clk := by rw [decodeError_frame]
@[simp] theorem decodeError_time (s : State) (m a : Nat) (w : Bool) (c : Nat) : (s.decodeError m a w c).time = s.time := by rw [decodeError_frame]
@[simp] theorem decodeError_net (s : State) (m a : Nat) (w : Bool) (c : Nat) : (s.decodeError m a w c).net = s.net := by rw [decodeError_frame]
@[simp] theorem decodeError_cond (s : State) (m a : Nat) (w : Bool) (c : Nat) : (s.decodeError m a w c).cond = s.cond := by rw [decodeError_frame]
@[simp] theorem decodeError_skein (s : State) (m a : Nat) (w : Bool) (c : Nat) : (s.decodeError m a w c).skein = s.skein := by rw [decodeError_frame]
@[simp] theorem decodeError_pat (s : State) (m a : Nat) (w : Bool) (c : Nat) : (s.decodeError m a w c).pat = s.pat := by rw [decodeError_frame]
@[simp] theorem decodeError_omd (s : State) (m a : Nat) (w : Bool) (c : Nat) : (s.decodeError m a w c).omd = s.omd := by rw [decodeError_frame]
@[simp] theorem decodeError_rndr (s : State) (m a : Nat) (w : Bool) (c : Nat) : (s.decodeError m a w c).rndr = s.rndr := by rw [decodeError_frame]
@[simp] theorem decodeError_ndl (s : State) (m a : Nat) (w : Bool) (c : Nat) : (s.decodeError m a w c).ndl = s.ndl := by rw [decodeError_frame]
@[simp] theorem decodeError_sched (s : State) (m a : Nat) (w : Bool) (c : Nat) : (s.decodeError m a w c).sched = s.sched := by rw [decodeError_frame]
@[simp] theorem decodeError_xp (s : State) (m a : Nat) (w : Bool) (c : Nat) : (s.decodeError m a w c).xp = s.xp := by rw [decodeError_frame]
@[simp] theorem decodeError_outs (s : State) (m a : Nat) (w : Bool) (c : Nat) : (s.decodeError m a w c).outs = s.outs := by rw [decodeError_frame]
@[simp] theorem decodeError_gauge (s : State) (m a : Nat) (w : Bool) (c : Nat) : (s.decodeError m a w c).gauge = s.gauge := by rw [decodeError_frame]
@[simp] theorem decodeError_tdm (s : State) (m a : Nat) (w : Bool) (c : Nat) : (s.decodeError m a w c).tdm = s.tdm := by rw [decodeError_frame]
@[simp] theorem decodeError_cas (s : State) (m a : Nat) (w : Bool) (c : Nat) : (s.decodeError m a w c).cas = s.cas := by rw [decodeError_frame]
@[simp] theorem decodeError_hedge (s : State) (m a : Nat) (w : Bool) (c : Nat) : (s.decodeError m a w c).hedge = s.hedge := by rw [decodeError_frame]
@[simp] theorem decodeError_store (s : State) (m a : Nat) (w : Bool) (c : Nat) : (s.decodeError m a w c).store = s.store := by rw [decodeError_frame]
@[simp] theorem decodeError_bootf (s : State) (m a : Nat) (w : Bool) (c : Nat) : (s.decodeError m a w c).bootf = s.bootf := by rw [decodeError_frame]
@[simp] theorem decodeError_dram (s : State) (m a : Nat) (w : Bool) (c : Nat) : (s.decodeError m a w c).dram = s.dram := by rw [decodeError_frame]
@[simp] theorem decodeError_nand (s : State) (m a : Nat) (w : Bool) (c : Nat) : (s.decodeError m a w c).nand = s.nand := by rw [decodeError_frame]
@[simp] theorem decodeError_bootCopies (s : State) (m a : Nat) (w : Bool) (c : Nat) : (s.decodeError m a w c).bootCopies = s.bootCopies := by rw [decodeError_frame]
@[simp] theorem decodeError_flash (s : State) (m a : Nat) (w : Bool) (c : Nat) : (s.decodeError m a w c).flash = s.flash := by rw [decodeError_frame]
@[simp] theorem decodeError_freeIdx (s : State) (m a : Nat) (w : Bool) (c : Nat) : (s.decodeError m a w c).freeIdx = s.freeIdx := by rw [decodeError_frame]
@[simp] theorem decodeError_outbox (s : State) (m a : Nat) (w : Bool) (c : Nat) : (s.decodeError m a w c).outbox = s.outbox := by rw [decodeError_frame]
@[simp] theorem decodeError_readData (s : State) (m a : Nat) (w : Bool) (c : Nat) : (s.decodeError m a w c).readData = s.readData := by rw [decodeError_frame]
@[simp] theorem decodeError_pending (s : State) (m a : Nat) (w : Bool) (c : Nat) : (s.decodeError m a w c).pending = s.pending := by rw [decodeError_frame]
@[simp] theorem absentAccess_dev (s : State) (off : Nat) : (s.absentAccess off).dev = s.dev := by rw [absentAccess_frame]
@[simp] theorem absentAccess_now (s : State) (off : Nat) : (s.absentAccess off).now = s.now := by rw [absentAccess_frame]
@[simp] theorem absentAccess_uptime (s : State) (off : Nat) : (s.absentAccess off).uptime = s.uptime := by rw [absentAccess_frame]
@[simp] theorem absentAccess_applied (s : State) (off : Nat) : (s.absentAccess off).applied = s.applied := by rw [absentAccess_frame]
@[simp] theorem absentAccess_latches (s : State) (off : Nat) : (s.absentAccess off).latches = s.latches := by rw [absentAccess_frame]
@[simp] theorem absentAccess_ticked (s : State) (off : Nat) : (s.absentAccess off).ticked = s.ticked := by rw [absentAccess_frame]
@[simp] theorem absentAccess_evt (s : State) (off : Nat) : (s.absentAccess off).evt = s.evt := by rw [absentAccess_frame]
@[simp] theorem absentAccess_host (s : State) (off : Nat) : (s.absentAccess off).host = s.host := by rw [absentAccess_frame]
@[simp] theorem absentAccess_clk (s : State) (off : Nat) : (s.absentAccess off).clk = s.clk := by rw [absentAccess_frame]
@[simp] theorem absentAccess_time (s : State) (off : Nat) : (s.absentAccess off).time = s.time := by rw [absentAccess_frame]
@[simp] theorem absentAccess_net (s : State) (off : Nat) : (s.absentAccess off).net = s.net := by rw [absentAccess_frame]
@[simp] theorem absentAccess_cond (s : State) (off : Nat) : (s.absentAccess off).cond = s.cond := by rw [absentAccess_frame]
@[simp] theorem absentAccess_skein (s : State) (off : Nat) : (s.absentAccess off).skein = s.skein := by rw [absentAccess_frame]
@[simp] theorem absentAccess_pat (s : State) (off : Nat) : (s.absentAccess off).pat = s.pat := by rw [absentAccess_frame]
@[simp] theorem absentAccess_omd (s : State) (off : Nat) : (s.absentAccess off).omd = s.omd := by rw [absentAccess_frame]
@[simp] theorem absentAccess_rndr (s : State) (off : Nat) : (s.absentAccess off).rndr = s.rndr := by rw [absentAccess_frame]
@[simp] theorem absentAccess_ndl (s : State) (off : Nat) : (s.absentAccess off).ndl = s.ndl := by rw [absentAccess_frame]
@[simp] theorem absentAccess_sched (s : State) (off : Nat) : (s.absentAccess off).sched = s.sched := by rw [absentAccess_frame]
@[simp] theorem absentAccess_xp (s : State) (off : Nat) : (s.absentAccess off).xp = s.xp := by rw [absentAccess_frame]
@[simp] theorem absentAccess_outs (s : State) (off : Nat) : (s.absentAccess off).outs = s.outs := by rw [absentAccess_frame]
@[simp] theorem absentAccess_gauge (s : State) (off : Nat) : (s.absentAccess off).gauge = s.gauge := by rw [absentAccess_frame]
@[simp] theorem absentAccess_tdm (s : State) (off : Nat) : (s.absentAccess off).tdm = s.tdm := by rw [absentAccess_frame]
@[simp] theorem absentAccess_cas (s : State) (off : Nat) : (s.absentAccess off).cas = s.cas := by rw [absentAccess_frame]
@[simp] theorem absentAccess_hedge (s : State) (off : Nat) : (s.absentAccess off).hedge = s.hedge := by rw [absentAccess_frame]
@[simp] theorem absentAccess_store (s : State) (off : Nat) : (s.absentAccess off).store = s.store := by rw [absentAccess_frame]
@[simp] theorem absentAccess_bootf (s : State) (off : Nat) : (s.absentAccess off).bootf = s.bootf := by rw [absentAccess_frame]
@[simp] theorem absentAccess_mtx (s : State) (off : Nat) : (s.absentAccess off).mtx = s.mtx := by rw [absentAccess_frame]
@[simp] theorem absentAccess_dram (s : State) (off : Nat) : (s.absentAccess off).dram = s.dram := by rw [absentAccess_frame]
@[simp] theorem absentAccess_nand (s : State) (off : Nat) : (s.absentAccess off).nand = s.nand := by rw [absentAccess_frame]
@[simp] theorem absentAccess_bootCopies (s : State) (off : Nat) : (s.absentAccess off).bootCopies = s.bootCopies := by rw [absentAccess_frame]
@[simp] theorem absentAccess_flash (s : State) (off : Nat) : (s.absentAccess off).flash = s.flash := by rw [absentAccess_frame]
@[simp] theorem absentAccess_freeIdx (s : State) (off : Nat) : (s.absentAccess off).freeIdx = s.freeIdx := by rw [absentAccess_frame]
@[simp] theorem absentAccess_outbox (s : State) (off : Nat) : (s.absentAccess off).outbox = s.outbox := by rw [absentAccess_frame]
@[simp] theorem absentAccess_readData (s : State) (off : Nat) : (s.absentAccess off).readData = s.readData := by rw [absentAccess_frame]
@[simp] theorem absentAccess_pending (s : State) (off : Nat) : (s.absentAccess off).pending = s.pending := by rw [absentAccess_frame]

end State

end Sys2Proof.Machine
end

