-- ==== Sys2Proof/Laws/Loader.lean ====
section
/-! SUPPORT. What the operations on DRAM frames, on bus masters' reads and on the Pattern loader can do: each is given by what every
projection of the state that it cannot reach keeps. -/

namespace Sys2Proof.Machine.State

variable {β : Sort _}

/-! ### Frames -/

/-- Backing and releasing frames write registers and the fabric's unit alone. -/
theorem unbackFrame_proj (p : State → β) (hp : ∀ t r m, p { t with regs := r, mtx := m } = p t) (s : State) (f : Nat) :
    p (s.unbackFrame f) = p s := by
  unfold unbackFrame; split
  · rfl
  · exact hp s _ _

theorem reportAllocLow_proj (p : State → β) (hp : ∀ t r, p { t with regs := r } = p t) (s : State) : p s.reportAllocLow = p s := by
  unfold reportAllocLow; split <;> exact hp s _

theorem releaseFrames_proj (p : State → β) (hp : ∀ t r m, p { t with regs := r, mtx := m } = p t) (s : State) (o : FrameOwner) :
    p (s.releaseFrames o) = p s := by
  unfold releaseFrames
  rw [reportAllocLow_proj p (fun t r => hp t r t.mtx)]
  exact over_keeps p (fun t (e : Nat × Frame) => t.unbackFrame e.1) (fun t a => unbackFrame_proj p hp t _) s _

theorem backFrame_proj (p : State → β) (hp : ∀ t r m, p { t with regs := r, mtx := m } = p t) (s : State) (f : Nat) (o : FrameOwner) :
    p (s.backFrame f o) = p s := by
  unfold backFrame; split
  · rfl
  · exact hp s _ _

theorem takeFrames_proj (p : State → β) (hp : ∀ t r m, p { t with regs := r, mtx := m } = p t) (o : FrameOwner) (f n : Nat) (s : State) :
    p (takeFrames o f n s) = p s := by
  induction f generalizing n s with
  | zero => cases n <;> rfl
  | succ f ih =>
    cases n with
    | zero => rfl
    | succ n =>
      unfold takeFrames; split
      · exact ih _ _
      · rw [ih, backFrame_proj p hp]

theorem allocFrames_proj (p : State → β) (hp : ∀ t r m, p { t with regs := r, mtx := m } = p t) (s : State) (o : FrameOwner) (n : Nat) :
    p (s.allocFrames o n) = p s := by
  unfold allocFrames; rw [reportAllocLow_proj p (fun t r => hp t r t.mtx), takeFrames_proj p hp]

/-! ### Reads by a bus master -/

theorem event_rem (p : State → β) (hp : ∀ t r e m, p { t with regs := r, evt := e, mtx := m } = p t) (s : State) (n : Nat) :
    p (s.event n) = p s := by rw [event_frame]; exact hp s _ _ s.mtx

theorem mtxOnce_proj (p : State → β) (hp : ∀ t r e m, p { t with regs := r, evt := e, mtx := m } = p t) (s : State) (n : Nat) :
    p (s.mtxOnce n) = p s := by rw [mtxOnce_frame]; exact hp ..

theorem decodeError_proj (p : State → β) (hp : ∀ t r e m, p { t with regs := r, evt := e, mtx := m } = p t) (s : State) (m a : Nat)
    (w : Bool) (c : Nat) : p (s.decodeError m a w c) = p s := by rw [decodeError_frame]; exact hp ..

theorem windowUe_proj (p : State → β) (hp : ∀ t r e m, p { t with regs := r, evt := e, mtx := m } = p t) (s : State) (n b : Nat) :
    p (s.windowUe n b) = p s := hp s _ s.evt _

theorem eccUncorrectable_proj (p : State → β) (hp : ∀ t r e m, p { t with regs := r, evt := e, mtx := m } = p t) (s : State) (a : Nat) :
    p (s.eccUncorrectable a) = p s := by
  unfold eccUncorrectable; split
  · rfl
  · rename_i n _
    simp only []
    rw [windowUe_proj p hp]
    refine (hp (((s.count (Reg.DRAM_UE_COUNT n)).wr64 (Reg.DRAM_UE_ADDR_LO n) (a / 32 * 32)).mtxOnce 49) _ _ _).trans ?_
    rw [mtxOnce_proj p hp]
    exact hp s _ s.evt s.mtx

theorem readMarked_proj (p : State → β) (hp : ∀ t r e m, p { t with regs := r, evt := e, mtx := m } = p t) (s : State) (a n : Nat) :
    p (s.readMarked a n) = p s := by
  unfold readMarked
  refine (over_keeps p (fun t x => t.eccUncorrectable x) (fun t x => eccUncorrectable_proj p hp t x) _ _).trans ?_
  exact hp s s.regs s.evt _

/-- A read by a bus master leaves everything but registers, events and the fabric's unit alone. -/
theorem masterRead_proj (p : State → β) (hp : ∀ t r e m, p { t with regs := r, evt := e, mtx := m } = p t) (s : State) (m a n : Nat) :
    p (s.masterRead m a n).1 = p s := by
  unfold masterRead; split
  · exact decodeError_proj p hp ..
  · exact readMarked_proj p hp ..

theorem loadSource_proj (p : State → β) (hp : ∀ t r e m, p { t with regs := r, evt := e, mtx := m } = p t) (s : State) :
    p s.loadSource.1 = p s := by
  match hk : s.rf Reg.PAT_SOURCE 1 0 with
  | 0 => simp only [loadSource, hk]; exact masterRead_proj p hp ..
  | 1 => simp only [loadSource, hk]
  | k + 2 => simp only [loadSource, hk]

/-! ### The Pattern loader's registers -/

theorem putReject_frame (s : State) (r : Reject) :
    s.putReject r = { s with regs := (s.putReject r).regs, evt := (s.putReject r).evt } := by
  unfold putReject; exact evt_frame_trans rfl (event_frame _ _)

@[simp] theorem putReject_pat (s : State) (r : Reject) : (s.putReject r).pat = s.pat := by rw [putReject_frame]
@[simp] theorem putReject_dev (s : State) (r : Reject) : (s.putReject r).dev = s.dev := by rw [putReject_frame]

theorem dropImage_pat (s : State) : s.dropImage.pat = { s.pat with image := [], sampled := none } := by
  unfold dropImage; exact releaseFrames_proj (·.pat) (fun _ _ _ => rfl) _ _

@[simp] theorem dropImage_dev (s : State) : s.dropImage.dev = s.dev := by
  unfold dropImage; exact releaseFrames_proj (·.dev) (fun _ _ _ => rfl) _ _

/-- The word REJECT holds for a rejection (R65). -/
def rejectWord (r : Reject) : Word := BitVec.ofNat 32 (r.code % 256 + r.region % 128 * 256 + r.rtype % 65536 * 65536)

/-- A rejection: REJECTED, the image dropped, its code and offset readable, and event 17 (R71). -/
theorem rejectLoad_spec (s : State) (r : Reject) :
    (s.rejectLoad r).patState = 6 ∧ (s.rejectLoad r).pat = { s.pat with image := [], sampled := none } ∧
    (s.rejectLoad r).rd Reg.PAT_REJECT = rejectWord r ∧ (s.rejectLoad r).rd Reg.PAT_REJECT_OFFSET = BitVec.ofNat 32 r.off ∧
    (s.rejectLoad r).Raised 17 := by
  refine ⟨rf_wf_same _ _ _ _ _ (by decide) (by decide), ?_, ?_, ?_, fun h => ?_⟩
  · show (s.dropImage.putReject r).pat = _; rw [putReject_pat, dropImage_pat]
  · unfold rejectLoad setPatState; rw [rd_wf_other _ (by decide)]; unfold putReject
    rw [rd_event_other _ _ (by decide), rd_wr_other _ (by decide), rd_wr_same]; rfl
  · unfold rejectLoad setPatState; rw [rd_wf_other _ (by decide)]; unfold putReject
    rw [rd_event_other _ _ (by decide), rd_wr_same]
  · have hd : (s.rejectLoad r).dev = s.dropImage.dev := by show (s.dropImage.putReject r).dev = _; rw [putReject_dev]
    have : (s.dropImage.putReject r).sourcePending 17 = true := by
      unfold putReject; exact event_sets_pending _ _ (by simpa [sourceExists, hd] using h)
    unfold rejectLoad setPatState sourcePending
    rw [bitOf_of_rd (rd_wf_other _ (by decide) _ _ _)]; exact this

@[simp] theorem rejectLoad_dev (s : State) (r : Reject) : (s.rejectLoad r).dev = s.dev := by
  show (s.dropImage.putReject r).dev = _; rw [putReject_dev, dropImage_dev]

theorem reportLoads_proj (p : State → β) (hp : ∀ t r, p { t with regs := r } = p t) (s : State) : p s.reportLoads = p s := by
  unfold reportLoads; split
  · exact hp s _
  · rfl

theorem rd_reportLoads_other (s : State) {o : Nat} (h : o ∉ [Reg.PAT_LOAD_SUM0, Reg.PAT_LOAD_SUM1]) : s.reportLoads.rd o = s.rd o := by
  simp only [List.mem_cons, List.not_mem_nil, or_false, not_or] at h
  unfold reportLoads; split
  · rw [rd_wr_other _ h.2, rd_wr_other _ h.1]
  · rfl

/-- Reporting the regions writes REGION[k] and the load sums alone. -/
theorem reportRegions_proj (p : State → β) (hp : ∀ t r, p { t with regs := r } = p t) (s : State) : p s.reportRegions = p s := by
  unfold reportRegions
  rw [reportLoads_proj p hp]
  exact over_keeps p (fun t k => t.wr (Reg.PAT_REGION k) (t.regionWord k)) (fun t a => hp t _) s _

theorem rd_reportRegions_other (s : State) {o : Nat} (h : o ∉ [Reg.PAT_LOAD_SUM0, Reg.PAT_LOAD_SUM1]) (h2 : ∀ k < 64, o ≠ Reg.PAT_REGION k) :
    s.reportRegions.rd o = s.rd o := by
  unfold reportRegions; rw [rd_reportLoads_other _ h]
  exact over_induct (fun t => t.rd o = s.rd o) _ _ (fun t k hk ht => by rw [rd_wr_other _ (h2 k (List.mem_range.mp hk))]; exact ht) rfl

end Sys2Proof.Machine.State
end

