-- ==== Sys2Proof/Laws/PerInstr.lean ====
section
/-! SUPPORT. What holds of every command as syntax: no word of bits spells it, since the command table gives no row any bits, and a
command that reaches the show-store array or the boot descriptors lets nothing leave the device. -/

namespace Sys2Proof.Laws.Spelled

/-- No word spells the command, and one that reaches the array lets nothing out. -/
def Statement (i : Instr) : Prop := (∀ nbits w, decodeTableWord nbits w ≠ some i) ∧ (i.reachesArray && i.reachesOutside) = false

theorem of_array {i : Instr} (h : (i.reachesArray && i.reachesOutside) = false) : Statement i := ⟨(fun _ _ h => nomatch h), h⟩

theorem registerWrite (t : RegTarget) (v : Word) : Statement (.registerWrite t v) := of_array rfl
theorem loReadLatch (off : Nat) : Statement (.loReadLatch off) := of_array rfl
theorem absentUnitAccess (off : Nat) (w : Option Word) : Statement (.absentUnitAccess off w) := of_array rfl
theorem absentClear (same : Option Nat) : Statement (.absentClear same) := of_array rfl
theorem partialWriteDiscard : Statement .partialWriteDiscard := of_array rfl
theorem sampleTick (bits : List (Nat × List Bool)) : Statement (.sampleTick bits) := of_array rfl
theorem blockStart : Statement .blockStart := of_array rfl
theorem metadataCutoff : Statement .metadataCutoff := of_array rfl
theorem foregroundCutoff : Statement .foregroundCutoff := of_array rfl
theorem patLoad : Statement .patLoad := of_array rfl
theorem patVerifyDone (bad : Option Nat) : Statement (.patVerifyDone bad) := of_array rfl
theorem patCommit : Statement .patCommit := of_array rfl
theorem patBindOff : Statement .patBindOff := of_array rfl
theorem patDiscard : Statement .patDiscard := of_array rfl
theorem patAbort : Statement .patAbort := of_array rfl
theorem patCmdRefused (op : Nat) : Statement (.patCmdRefused op) := of_array rfl
theorem keyRevoke (v : Word) : Statement (.keyRevoke v) := of_array rfl
theorem crossfadeRetire (region : Nat) : Statement (.crossfadeRetire region) := of_array rfl
theorem hardSwitchRetire (region : Nat) : Statement (.hardSwitchRetire region) := of_array rfl
theorem bindOffRetire (region : Nat) : Statement (.bindOffRetire region) := of_array rfl
theorem condApply : Statement .condApply := of_array rfl
theorem condClearCounts : Statement .condClearCounts := of_array rfl
theorem condReleasePages : Statement .condReleasePages := of_array rfl
theorem phaseDelayWrite (n : Nat) (v : Word) : Statement (.phaseDelayWrite n v) := of_array rfl
theorem delayPageGrant (n : Nat) : Statement (.delayPageGrant n) := of_array rfl
theorem delayLineFilled (n : Nat) : Statement (.delayLineFilled n) := of_array rfl
theorem trackLockTimer (n : Nat) : Statement (.trackLockTimer n) := of_array rfl
theorem mdecWrite (m : Nat) (v : Word) : Statement (.mdecWrite m v) := of_array rfl
theorem fomPacket (src : Nat) (port : Nat) (sub : Nat) (bytes : List Byte) : Statement (.fomPacket src port sub bytes) := of_array rfl
theorem oscPacket (sub : Nat) (bytes : List Byte) : Statement (.oscPacket sub bytes) := of_array rfl
theorem omdApply : Statement .omdApply := of_array rfl
theorem omdClearCounts : Statement .omdClearCounts := of_array rfl
theorem flushAll : Statement .flushAll := of_array rfl
theorem resetSenders : Statement .resetSenders := of_array rfl
theorem mPush (n : Nat) : Statement (.mPush n) := of_array rfl
theorem rndrClearCounts : Statement .rndrClearCounts := of_array rfl
theorem tolGainWrite (v : Word) : Statement (.tolGainWrite v) := of_array rfl
theorem tileClearCounts (p : Nat) : Statement (.tileClearCounts p) := of_array rfl
theorem tileFence (p : Nat) : Statement (.tileFence p) := of_array rfl
theorem tileKatNow (p : Nat) : Statement (.tileKatNow p) := of_array rfl
theorem tileKatTimer (p : Nat) : Statement (.tileKatTimer p) := of_array rfl
theorem tileKatDone (p : Nat) (passed : Bool) : Statement (.tileKatDone p passed) := of_array rfl
theorem tileParityError (p : Nat) : Statement (.tileParityError p) := of_array rfl
theorem spareRefillDone (p : Nat) : Statement (.spareRefillDone p) := of_array rfl
theorem skeinClearCounts : Statement .skeinClearCounts := of_array rfl
theorem winSelWrite (v : Word) : Statement (.winSelWrite v) := of_array rfl
theorem borrowLimitWrite (v : Word) : Statement (.borrowLimitWrite v) := of_array rfl
theorem pageInDone (channel : Nat) (page : Nat) (zeros : List Nat) : Statement (.pageInDone channel page zeros) := of_array rfl
theorem ndlClearCounts (h : Nat) : Statement (.ndlClearCounts h) := of_array rfl
theorem ndlFence (h : Nat) : Statement (.ndlFence h) := of_array rfl
theorem ndlKatNow (h : Nat) : Statement (.ndlKatNow h) := of_array rfl
theorem ndlKatTimer (h : Nat) (passed : Bool) : Statement (.ndlKatTimer h passed) := of_array rfl
theorem ndlFault (h : Nat) (parity : Bool) : Statement (.ndlFault h parity) := of_array rfl
theorem microBlock (claims : List (List Nat)) (late : List Nat) : Statement (.microBlock claims late) := of_array rfl
theorem schedClearCounts : Statement .schedClearCounts := of_array rfl
theorem instanceReady (u : Nat) : Statement (.instanceReady u) := of_array rfl
theorem instanceDispatch (cls : Nat) (tile : Nat) : Statement (.instanceDispatch cls tile) := of_array rfl
theorem instanceComplete (u : Nat) : Statement (.instanceComplete u) := of_array rfl
theorem instanceCancel (u : Nat) (made : Bool) : Statement (.instanceCancel u made) := of_array rfl
theorem spillRefill (cls : Nat) (tile : Nat) : Statement (.spillRefill cls tile) := of_array rfl
theorem readyRetry (u : Nat) : Statement (.readyRetry u) := of_array rfl
theorem hardDeadlineMiss (d : Domain) : Statement (.hardDeadlineMiss d) := of_array rfl
theorem xpApply : Statement .xpApply := of_array rfl
theorem xpClearCounts : Statement .xpClearCounts := of_array rfl
theorem nodeRampEnd (off : Nat) : Statement (.nodeRampEnd off) := of_array rfl
theorem outputMicroBlock : Statement .outputMicroBlock := of_array rfl
theorem outsApply : Statement .outsApply := of_array rfl
theorem outsClearCounts : Statement .outsClearCounts := of_array rfl
theorem prepare : Statement .prepare := of_array rfl
theorem prepareDone (ok : Bool) : Statement (.prepareDone ok) := of_array rfl
theorem swap : Statement .swap := of_array rfl
theorem discard : Statement .discard := of_array rfl
theorem filterXfadeEnd (j : Nat) : Statement (.filterXfadeEnd j) := of_array rfl
theorem spkClearCounts (j : Nat) : Statement (.spkClearCounts j) := of_array rfl
theorem gaugeApply : Statement .gaugeApply := of_array rfl
theorem gaugeClearCounts : Statement .gaugeClearCounts := of_array rfl
theorem baseline : Statement .baseline := of_array rfl
theorem restartSweep : Statement .restartSweep := of_array rfl
theorem clearMute (j : Nat) : Statement (.clearMute j) := of_array rfl
theorem clearInvert (j : Nat) : Statement (.clearInvert j) := of_array rfl
theorem measClearCounts (m : Nat) : Statement (.measClearCounts m) := of_array rfl
theorem pilotPeriodStart : Statement .pilotPeriodStart := of_array rfl
theorem correlationJobDone (k : Nat) : Statement (.correlationJobDone k) := of_array rfl
theorem overrideHoldEnd (j : Nat) : Statement (.overrideHoldEnd j) := of_array rfl
theorem stepAccept : Statement .stepAccept := of_array rfl
theorem slew : Statement .slew := of_array rfl
theorem setTod : Statement .setTod := of_array rfl
theorem timeClearCounts : Statement .timeClearCounts := of_array rfl
theorem timeCmdRefused (op : Nat) : Statement (.timeCmdRefused op) := of_array rfl
theorem ptpMessage (port : Nat) (sub : Nat) (m : PtpMsg) : Statement (.ptpMessage port sub m) := of_array rfl
theorem ptpSourceLoss : Statement .ptpSourceLoss := of_array rfl
theorem refInEdge (sub : Nat) (falling : Bool) : Statement (.refInEdge sub falling) := of_array rfl
theorem refLoss : Statement .refLoss := of_array rfl
theorem refRateChange (rate : Nat) (sub : Nat) : Statement (.refRateChange rate sub) := of_array rfl
theorem taArm (n : Nat) : Statement (.taArm n) := of_array rfl
theorem taDisarm (n : Nat) : Statement (.taDisarm n) := of_array rfl
theorem taClearCounts (n : Nat) : Statement (.taClearCounts n) := of_array rfl
theorem taFire (n : Nat) : Statement (.taFire n) := of_array rfl
theorem pulseEnd (o : Nat) : Statement (.pulseEnd o) := of_array rfl
theorem captureEdge (c : Nat) (sub : Nat) (falling : Bool) : Statement (.captureEdge c sub falling) := of_array rfl
theorem capturePop (c : Nat) : Statement (.capturePop c) := of_array rfl
theorem cuePop : Statement .cuePop := of_array rfl
theorem netClearCounts (n : Nat) : Statement (.netClearCounts n) := of_array rfl
theorem retrain (n : Nat) : Statement (.retrain n) := of_array rfl
theorem gclApply (n : Nat) : Statement (.gclApply n) := of_array rfl
theorem gclActivate (n : Nat) : Statement (.gclActivate n) := of_array rfl
theorem gateIntervalEnd (n : Nat) : Statement (.gateIntervalEnd n) := of_array rfl
theorem linkTrainingDone (n : Nat) (up : Bool) : Statement (.linkTrainingDone n up) := of_array rfl
theorem polarityRetry (n : Nat) : Statement (.polarityRetry n) := of_array rfl
theorem netFrameReceive (n : Nat) (bytes : List Byte) (fcsOk : Bool) : Statement (.netFrameReceive n bytes fcsOk) := of_array rfl
theorem prpSupervision : Statement .prpSupervision := of_array rfl
theorem prpForget : Statement .prpForget := of_array rfl
theorem txFrameDepart (n : Nat) : Statement (.txFrameDepart n) := of_array rfl
theorem netcClearCounts : Statement .netcClearCounts := of_array rfl
theorem prpFlush : Statement .prpFlush := of_array rfl
theorem keyCtrlWrite (k : Nat) (v : Word) : Statement (.keyCtrlWrite k v) := of_array rfl
theorem tunnelRequest (r : TunnelRequest) : Statement (.tunnelRequest r) := of_array rfl
theorem tunnelExecute : Statement .tunnelExecute := of_array rfl
theorem rtpPacket (n : Nat) (sub : Nat) (bytes : List Byte) : Statement (.rtpPacket n sub bytes) := of_array rfl
theorem rxStreamLost (n : Nat) : Statement (.rxStreamLost n) := of_array rfl
theorem rxsEnable (n : Nat) : Statement (.rxsEnable n) := of_array rfl
theorem rxsDisable (n : Nat) : Statement (.rxsDisable n) := of_array rfl
theorem rxsClearCounts (n : Nat) : Statement (.rxsClearCounts n) := of_array rfl
theorem txsEnable (n : Nat) : Statement (.txsEnable n) := of_array rfl
theorem txsClearCounts (n : Nat) : Statement (.txsClearCounts n) := of_array rfl
theorem txPacketSend (n : Nat) : Statement (.txPacketSend n) := of_array rfl
theorem tdmClearCounts (n : Nat) : Statement (.tdmClearCounts n) := of_array rfl
theorem tdmEnable (n : Nat) (v : Word) : Statement (.tdmEnable n v) := of_array rfl
theorem tdmDisable (n : Nat) : Statement (.tdmDisable n) := of_array rfl
theorem maskApply (n : Nat) : Statement (.maskApply n) := of_array rfl
theorem dmaCfgWrite (n : Nat) (v : Word) : Statement (.dmaCfgWrite n v) := of_array rfl
theorem tdmFrameReceive (n : Nat) (wire : List Nat) (bclks : Nat) (matched : Bool) : Statement (.tdmFrameReceive n wire bclks matched) := of_array rfl
theorem tdmDeviceFrameTick (n : Nat) (wire : List Nat) (matched : Bool) : Statement (.tdmDeviceFrameTick n wire matched) := of_array rfl
theorem tdmStall (n : Nat) : Statement (.tdmStall n) := of_array rfl
theorem tdmRateWindow (n : Nat) (err : Int) (swapped : Bool) : Statement (.tdmRateWindow n err swapped) := of_array rfl
theorem tdmRunning (n : Nat) : Statement (.tdmRunning n) := of_array rfl
theorem casClearCounts (n : Nat) : Statement (.casClearCounts n) := of_array rfl
theorem casRetrain (n : Nat) : Statement (.casRetrain n) := of_array rfl
theorem casFrameSend (n : Nat) (departure : Int) : Statement (.casFrameSend n departure) := of_array rfl
theorem casFrameReceive (n : Nat) (h0 : Nat) (blocks : List Nat) (crc : Nat) (sub : Nat) : Statement (.casFrameReceive n h0 blocks crc sub) := of_array rfl
theorem mixForward : Statement .mixForward := of_array rfl
theorem masterLoss : Statement .masterLoss := of_array rfl
theorem backupYield : Statement .backupYield := of_array rfl
theorem importWrite (r : Nat) (v : Word) : Statement (.importWrite r v) := of_array rfl
theorem hedgeClearCounts : Statement .hedgeClearCounts := of_array rfl
theorem transfer : Statement .transfer := of_array rfl
theorem resync : Statement .resync := of_array rfl
theorem query : Statement .query := of_array rfl
theorem hedgeMessage (bytes : List Byte) : Statement (.hedgeMessage bytes) := of_array rfl
theorem peerLost : Statement .peerLost := of_array rfl
theorem queryRepeat : Statement .queryRepeat := of_array rfl
theorem arbTimeout : Statement .arbTimeout := of_array rfl
theorem verdictApply : Statement .verdictApply := of_array rfl
theorem revertTimer : Statement .revertTimer := of_array rfl
theorem epochIssue : Statement .epochIssue := of_array rfl
theorem divergencePersists : Statement .divergencePersists := of_array rfl
theorem withholdStart : Statement .withholdStart := of_array rfl
theorem matrixClearCounts : Statement .matrixClearCounts := of_array rfl
theorem winWrite (w : Nat) (word : Nat) (v : Word) : Statement (.winWrite w word v) := of_array rfl
theorem busTransaction (b : Burst) : Statement (.busTransaction b) := of_array rfl
theorem transactionTimeout (m : Nat) (tag : Nat) : Statement (.transactionTimeout m tag) := of_array rfl
theorem transactionResponse (m : Nat) (tag : Nat) : Statement (.transactionResponse m tag) := of_array rfl
theorem abortedBurst (b : Burst) (beats : Nat) : Statement (.abortedBurst b beats) := of_array rfl
theorem dramClearCounts (n : Nat) : Statement (.dramClearCounts n) := of_array rfl
theorem dramOffline (n : Nat) : Statement (.dramOffline n) := of_array rfl
theorem retrainNow (n : Nat) : Statement (.retrainNow n) := of_array rfl
theorem dramRetrainTimer (n : Nat) : Statement (.dramRetrainTimer n) := of_array rfl
theorem dramRetrainDone (n : Nat) (found : Bool) (changed : Bool) : Statement (.dramRetrainDone n found changed) := of_array rfl
theorem dramRefresh (n : Nat) (postponed : Nat) : Statement (.dramRefresh n postponed) := of_array rfl
theorem patrolScrub (n : Nat) (corrected : List Nat) (uncorrectable : List Nat) : Statement (.patrolScrub n corrected uncorrectable) := of_array rfl
theorem frameMigrated (n : Nat) (bad : List Nat) : Statement (.frameMigrated n bad) := of_array rfl
theorem storeWrite : Statement .storeWrite := of_array rfl
theorem storeRead : Statement .storeRead := of_array rfl
theorem storeDelete : Statement .storeDelete := of_array rfl
theorem storeInfo : Statement .storeInfo := of_array rfl
theorem storeClearCounts : Statement .storeClearCounts := of_array rfl
theorem storeCmdDone : Statement .storeCmdDone := of_array rfl
theorem storeMountDone (ok : Bool) : Statement (.storeMountDone ok) := of_array rfl
theorem nandUncorrectable (obj : Nat) (sector : Nat) : Statement (.nandUncorrectable obj sector) := of_array rfl
theorem blockRefresh (b : Nat) (corrected : Nat) (reads : Nat) : Statement (.blockRefresh b corrected reads) := of_array rfl
theorem wearMove : Statement .wearMove := of_array rfl
theorem grownBad (b : Nat) : Statement (.grownBad b) := of_array rfl
theorem storeScrub (found : List (Nat × Nat)) : Statement (.storeScrub found) := of_array rfl
theorem play (k : Nat) : Statement (.play k) := of_array rfl
theorem stop (k : Nat) : Statement (.stop k) := of_array rfl
theorem stemPreloaded (k : Nat) : Statement (.stemPreloaded k) := of_array rfl
theorem stemEnd (k : Nat) : Statement (.stemEnd k) := of_array rfl
theorem installFw (slot : Nat) : Statement (.installFw slot) := of_array rfl
theorem installPat (slot : Nat) : Statement (.installPat slot) := of_array rfl
theorem setBoot : Statement .setBoot := of_array rfl
theorem bootfRead : Statement .bootfRead := of_array rfl
theorem bootfProgram : Statement .bootfProgram := of_array rfl
theorem bootfErase : Statement .bootfErase := of_array rfl
theorem bootfCmdDone : Statement .bootfCmdDone := of_array rfl
theorem bootPatternSelect : Statement .bootPatternSelect := of_array rfl
theorem eventAssert (source : Nat) (pulses : Nat) (crossing : Option Nat) : Statement (.eventAssert source pulses crossing) := of_array rfl
theorem pendingClear (w : Nat) (v : Word) (same : Option Nat) : Statement (.pendingClear w v same) := of_array rfl
theorem vecAck (k : Nat) : Statement (.vecAck k) := of_array rfl
theorem vecCfgWrite (k : Nat) (v : Word) : Statement (.vecCfgWrite k v) := of_array rfl
theorem vectorTimer (k : Nat) : Statement (.vectorTimer k) := of_array rfl
theorem vectorRaise : Statement .vectorRaise := of_array rfl
theorem linkWakeDone : Statement .linkWakeDone := of_array rfl
theorem flush : Statement .flush := of_array rfl
theorem doorbell (v : Word) : Statement (.doorbell v) := of_array rfl
theorem evtClearCounts : Statement .evtClearCounts := of_array rfl
theorem hostClearCounts : Statement .hostClearCounts := of_array rfl
theorem functionReset : Statement .functionReset := of_array rfl
theorem pcieLinkChange (up : Bool) (speed : Nat) (width : Nat) (pm : Nat) : Statement (.pcieLinkChange up speed width pm) := of_array rfl
theorem d3hotChange (d3 : Bool) : Statement (.d3hotChange d3) := of_array rfl
theorem mbDoorbell : Statement .mbDoorbell := of_array rfl
theorem getInfo : Statement .getInfo := of_array rfl
theorem fwLoad : Statement .fwLoad := of_array rfl
theorem sdpToRxs : Statement .sdpToRxs := of_array rfl
theorem txsToSdp : Statement .txsToSdp := of_array rfl
theorem ptpStatus : Statement .ptpStatus := of_array rfl
theorem logRead : Statement .logRead := of_array rfl
theorem mailboxReset : Statement .mailboxReset := of_array rfl
theorem mailboxReply : Statement .mailboxReply := of_array rfl
theorem fwHeartbeatStall : Statement .fwHeartbeatStall := of_array rfl
theorem watchdog : Statement .watchdog := of_array rfl
theorem clkClearCounts (key : Nat) : Statement (.clkClearCounts key) := of_array rfl
theorem systemResetCmd (key : Nat) : Statement (.systemResetCmd key) := of_array rfl
theorem firmwareResetCmd (key : Nat) : Statement (.firmwareResetCmd key) := of_array rfl
theorem pllUnlock : Statement .pllUnlock := of_array rfl
theorem pllRelock : Statement .pllRelock := of_array rfl
theorem supplyWarn (rails : Nat) (t : Nat) : Statement (.supplyWarn rails t) := of_array rfl
theorem dipEnd (last : Nat) : Statement (.dipEnd last) := of_array rfl
theorem brownout (rails : Nat) : Statement (.brownout rails) := of_array rfl
theorem por : Statement .por := of_array rfl
theorem perst : Statement .perst := of_array rfl
theorem thermalSample (raw : Int) : Statement (.thermalSample raw) := of_array rfl
theorem thermalReset : Statement .thermalReset := of_array rfl
theorem resetRelease (failed : List Nat) (trained : List Nat) : Statement (.resetRelease failed trained) := of_array rfl
theorem fifoResync (c : Crossing) (held : Nat) (offered : Nat) : Statement (.fifoResync c held offered) := of_array rfl
theorem refclkChange (ref25 : Bool) (present : Bool) : Statement (.refclkChange ref25 present) := of_array rfl
theorem frenusLinkTrainingDone (n : Nat) (up : Bool) (inverted : Bool) : Statement (.frenusLinkTrainingDone n up inverted) := of_array rfl
theorem slewingEnd : Statement .slewingEnd := of_array rfl

end Sys2Proof.Laws.Spelled
end

