-- ==== Sys2Proof/Tests/Slice0.lean ====
section
/-! SUPPORT. Tests: for every check of WellFormed.lean an ill-formed command that it refuses, and for every statement of
Certificates/Slice0/Obligations.lean that has hypotheses a state and operands that meet them, clause by clause. -/

namespace Sys2Proof.Tests

open Sys2Proof Sys2Proof.Machine

/-- State after reset with some registers holding other values. -/
def st (l : List (Nat × Word)) : State := l.foldl (fun s e => s.wr e.1 e.2) .reset

/-! ### Ill-formed commands: one for each check -/

theorem test_ill_formed : (∀ c ∈ ([.registerWrite (.bar0 2) 0, .registerWrite (.bar0 0x4000000) 0, .loReadLatch 0x4000000, .absentUnitAccess 6 none,
    .absentClear (some 1), .sampleTick [(16, [])], .patCmdRefused 16, .crossfadeRetire 64, .hardSwitchRetire 64, .bindOffRetire 64,
    .phaseDelayWrite 1808 0, .delayPageGrant 1808, .delayLineFilled 1808, .trackLockTimer 1024, .mdecWrite 16 0, .fomPacket 0 2 0 [],
    .fomPacket 0 0 32768 [], .oscPacket 32768 [], .mPush 1024, .tileClearCounts 68, .tileFence 68, .tileKatNow 68, .tileKatTimer 68] : List Instr),
    c.wellFormed = false) := by decide
theorem test_ill_formed_render : (∀ c ∈ ([.tileKatDone 68 true, .tileParityError 68, .spareRefillDone 68, .pageInDone 2048 0 [], .pageInDone 0 0 [128],
    .ndlClearCounts 16, .ndlFence 16, .ndlKatNow 16, .ndlKatTimer 16 true, .ndlFault 16 true, .instanceDispatch 6 0, .spillRefill 6 0,
    .hardDeadlineMiss (.fgMix 8), .hardDeadlineMiss (.output 640), .nodeRampEnd 0, .nodeRampEnd 0x1000001, .filterXfadeEnd 640,
    .spkClearCounts 640, .clearMute 640, .clearInvert 640, .measClearCounts 16, .overrideHoldEnd 640] : List Instr), c.wellFormed = false) := by decide
theorem test_ill_formed_time : (∀ c ∈ ([.timeCmdRefused 8, .ptpMessage 2 0 (.sync 0), .ptpMessage 0 32768 (.sync 0), .refInEdge 32768 true,
    .refRateChange 5 0, .refRateChange 0 32768, .taArm 256, .taDisarm 256, .taClearCounts 256, .taFire 256, .pulseEnd 16,
    .captureEdge 4 0 true, .captureEdge 0 32768 true, .capturePop 4, .netClearCounts 2, .retrain 2, .gclApply 2, .gclActivate 2,
    .gateIntervalEnd 2, .linkTrainingDone 2 true, .polarityRetry 2, .netFrameReceive 2 [] true, .txFrameDepart 2, .keyCtrlWrite 16 0,
    .tunnelRequest ⟨2, 0, 0, false, []⟩, .rtpPacket 128 0 [], .rtpPacket 0 32768 [], .rxStreamLost 128, .rxsEnable 128, .rxsDisable 128,
    .rxsClearCounts 128, .txsEnable 128, .txsClearCounts 128, .txPacketSend 128] : List Instr), c.wellFormed = false) := by decide
theorem test_ill_formed_ports : (∀ c ∈ ([.tdmClearCounts 32, .tdmEnable 32 0, .tdmDisable 32, .maskApply 32, .dmaCfgWrite 32 0,
    .tdmFrameReceive 32 [] 0 true, .tdmDeviceFrameTick 32 [] true, .tdmStall 32, .tdmRateWindow 32 0 true, .tdmRunning 32,
    .casClearCounts 4, .casRetrain 4, .casFrameSend 4 0, .casFrameReceive 4 0 [] 0 0, .casFrameReceive 0 0 [] 0 32768, .importWrite 1024 0,
    .winWrite 16 0 0, .winWrite 0 4 0, .busTransaction { master := 16, addr := .bar2 0, write := false },
    .busTransaction { master := 0, tag := 64, addr := .bar2 0, write := false }, .transactionTimeout 16 0, .transactionResponse 16 0,
    .abortedBurst { master := 16, addr := .bar2 0, write := true } 0, .dramClearCounts 4, .dramOffline 4, .retrainNow 4,
    .dramRetrainTimer 4, .dramRetrainDone 4 true true, .dramRefresh 4 0, .dramRefresh 0 9, .patrolScrub 4 [] [], .frameMigrated 4 [],
    .frameMigrated 0 [2048]] : List Instr), c.wellFormed = false) := by decide
theorem test_ill_formed_host : (∀ c ∈ ([.nandUncorrectable 65536 0, .play 256, .stop 256, .stemPreloaded 256, .stemEnd 256, .installFw 4,
    .installPat 4, .eventAssert 256 1 none, .pendingClear 8 0 none, .vecAck 8, .vecCfgWrite 8 0, .vectorTimer 8, .pcieLinkChange true 16 0 0,
    .pcieLinkChange true 0 32 0, .pcieLinkChange true 0 0 4, .clkClearCounts 65536, .systemResetCmd 65536, .firmwareResetCmd 65536,
    .supplyWarn 2048 0, .brownout 2048, .thermalSample (-20001), .thermalSample 20001, .resetRelease [68] [], .resetRelease [] [4],
    .fifoResync (.net 2) 0 0, .fifoResync (.cas 4) 0 0, .fifoResync (.tdm 32) 0 0, .frenusLinkTrainingDone 4 true true] : List Instr),
    c.wellFormed = false) := by decide

/-! ### Premises of the statements -/

theorem test_step_premises : ({ State.reset with pending := [.patLoad] } : State).Inv ∧ State.reset.pending = [] :=
  ⟨⟨⟨rfl, rfl⟩, by decide⟩, rfl⟩
theorem test_exec_premise : ∃ t, exec .partialWriteDiscard State.reset = .next t := ⟨_, rfl⟩
theorem test_absent_premises : (let d : Device := { part := .f8242 }
    ({ State.reset with dev := d } : State).Canonical ∧ place Reg.GAUGE_STATUS = .reg .gauge 0 0x00C ∧ d.part.hasReg .gauge 0 0x00C = false ∧
    (∃ u e, place 0x1258000 = .ixpNode u e ∧ d.part.hasIxpNode u e = false)) := by
  refine ⟨⟨rfl, rfl⟩, by decide, by decide, ?_⟩
  exact ⟨_, _, rfl, by decide⟩
theorem test_unmapped_premises : place 0x47FFC = .reserved ∧ place 0x280000 = .default ∧ place 0x3FFFFFC = .default := by decide
theorem test_plain_write_premise : place 0x23001C = .reg .outs 0 0x1C ∧ (0x1C : Nat) ≠ 0x08 := by decide
theorem test_lo_read_premises : (∃ off o i, place off = .reg .outs i o ∧ place (off + 4) = .reg .outs i (o + 4) ∧ isPairLo .outs o = true ∧
    isPairLo .outs (o + 4) = false ∧ Assoc.get? off ({ State.reset with latches := [(off, 5)] } : State).latches = some 5) := by
  exact ⟨Reg.OUTS_APPLY_BLOCK_LO, _, _, rfl, rfl, by decide, by decide, by decide⟩
theorem test_tick_premise : State.reset.host.resetDue = none ∧ State.reset.Canonical := ⟨rfl, rfl, rfl⟩
theorem test_block_start_premise : State.reset.phase = 0 ∧ State.reset.ticked.block = false := by decide
def atCutoff : State := { State.reset with now := 16 * 32768 }
theorem test_cutoff_premises : atCutoff.phase = 16 ∧ atCutoff.ticked.cutoff = false ∧
    (let s : State := { atCutoff with ticked := { block := true, cutoff := true } }
     s.phase = 16 ∧ s.ticked.cutoff = true ∧ s.ticked.fgCutoff = false) := by decide
/-- R69 at the bounds: block 0 is in progress, so 1 is too early and 2 is kept. -/
theorem test_target_block : State.reset.targetBlock Reg.PAT_COMMIT_BLOCK_LO = some 1 ∧
    (st [(Reg.PAT_COMMIT_BLOCK_LO, 1)]).targetBlock Reg.PAT_COMMIT_BLOCK_LO = none ∧
    (st [(Reg.PAT_COMMIT_BLOCK_LO, 2)]).targetBlock Reg.PAT_COMMIT_BLOCK_LO = some 2 := by decide
/-- A state whose loader may take an image of two bytes from the store. -/
def fromStore (dram : Word) (lost : List Nat) : State :=
  { st [(Reg.PAT_SOURCE, 1), (Reg.STORE_STATUS, 2), (Reg.DRAM_STATUS 0, dram)] with
    nand := { objects := [(0, { kind := 1, bytes := [1, 2], lost := lost })] } }
def accepted (s : State) : State := (s.patAccepted.wf Reg.PAT_STATUS 14 8 0).clrBit Reg.PAT_STATUS 3
theorem test_load_premises : (st [(Reg.PAT_STATUS, 1)]).loadRefused = true ∧ (fromStore 1 []).loadRefused = false ∧
    (accepted (fromStore 1 [])).loadSource.2 = some [1, 2] ∧ 1 ≤ (accepted (fromStore 1 [])).loadSource.1.freeDramFrames ∧
    (accepted (fromStore 0 [])).loadSource.2 = some [1, 2] ∧ (accepted (fromStore 0 [])).loadSource.1.freeDramFrames = 0 ∧
    (accepted (fromStore 1 [0])).loadSource.2 = none := by decide
theorem test_verify_premises : (st [(Reg.PAT_STATUS, 1)]).patState = 1 ∧
    ((st [(Reg.PAT_STATUS, 1)]).verifyImage [] 0).toOption.isNone = true := by decide +kernel
def region (id tiles load : Nat) : Region :=
  { id := id, kind := 1, priority := 0, parallel := true, deps := [], tiles := tiles, needles := 0, pages := 0, dramMiB := 0, loads := [load, 0, 0, 0] }
def shadow (r : Region) : Shadow := { regions := [r], full := true, crc := 0, build := 0, time := 0, key := 0, caps := 0, boot := false }
def withShadow (r : Region) (b : Word) : State :=
  { st [(Reg.PAT_STATUS, 3), (Reg.PAT_COMMIT_BLOCK_LO, b)] with pat := { shadow := some (shadow r) } }
theorem test_commit_premises : (let s := withShadow (region 0 0 0) 0
     s.pat.shadow = some (shadow (region 0 0 0)) ∧ s.patState = 3 ∧ s.targetBlock Reg.PAT_COMMIT_BLOCK_LO = some 1 ∧
     s.resourcesFit (s.shadowScene (shadow (region 0 0 0))).counted = true ∧
     State.headroomFits (s.shadowScene (shadow (region 0 0 0))).counted = true) ∧
    (let s := withShadow (region 0 99 0) 2
     s.targetBlock Reg.PAT_COMMIT_BLOCK_LO = some 2 ∧ s.resourcesFit (s.shadowScene (shadow (region 0 99 0))).counted = false) ∧
    (let s := withShadow (region 0 0 751) 2
     s.resourcesFit (s.shadowScene (shadow (region 0 0 751))).counted = true ∧
     State.headroomFits (s.shadowScene (shadow (region 0 0 751))).counted = false) ∧
    (withShadow (region 0 0 0) 1).targetBlock Reg.PAT_COMMIT_BLOCK_LO = none := by decide
theorem test_loader_premises : (let s : State := { st [(Reg.PAT_BINDOFF_MASK_LO, 2)] with pat := { versions := [{ uid := 1, region := region 1 0 0, since := 0 }] } }
     s.patState = 0 ∧ s.targetBlock Reg.PAT_COMMIT_BLOCK_LO = some 1 ∧ s.bindMask = [1] ∧ (s.version? 1).isSome = true ∧
     s.bitOf (Reg.PAT_REGION 1) 2 = false ∧ s.pat.bindOff = [] ∧ s.orphaned s.bindMask = none) ∧
    (st [(Reg.PAT_STATUS, 3)]).patState = 3 ∧ (st [(Reg.PAT_STATUS, 6)]).patState = 6 ∧ (st [(Reg.PAT_STATUS, 1)]).patState = 1 := by decide
theorem test_revoke_premises : (let d : Device := { keyHash := [7, 7, 0, 0] }
     fld (1 : Word) 3 0 ≠ 0 ∧ (∃ k < 4, d.keyHash.getD k 0 ≠ 0 ∧ Nat.lor d.revoked (fld (1 : Word) 3 0) / 2 ^ k % 2 = 0)) ∧
    (∀ k < 4, ({} : Device).keyHash.getD k 0 = 0) := by decide
def leaving (f : Fade) (e : Fade) : State :=
  { State.reset with now := 9 * 32 * 32768, pat := { versions := [{ uid := 1, region := region 1 0 0, since := 0, leave := some f },
    { uid := 2, region := region 1 0 0, since := 2, enter := some e, replaces := true, settling := true }] } }
theorem test_retire_premises :
    (∃ v, (leaving (.cross 2 32) (.cross 2 32)).dueRetire 1 State.leavesCross = some v ∧
      (((leaving (.cross 2 32) (.cross 2 32)).endLeaver v).dueSettle 1 State.entersCross).isSome = true) ∧
    (∃ v, (leaving (.hard 2) (.hard 2)).dueRetire 1 State.leavesHard = some v ∧
      (((leaving (.hard 2) (.hard 2)).endLeaver v).dueSettle 1 State.entersHard).isSome = true) ∧
    (∃ v, (leaving (.hard 2) (.hard 20)).dueRetire 1 State.leavesHard = some v ∧
      ((leaving (.hard 2) (.hard 20)).endLeaver v).dueSettle 1 State.entersHard = none) := by
  refine ⟨⟨_, rfl, by decide⟩, ⟨_, rfl, by decide⟩, ⟨_, rfl, by decide⟩⟩
theorem test_apply_premises :
    (∀ o ∈ [Reg.COND_APPLY_BLOCK_LO, Reg.OMD_APPLY_BLOCK_LO, Reg.XP_APPLY_BLOCK_LO, Reg.OUTS_APPLY_BLOCK_LO, Reg.GAUGE_APPLY_BLOCK_LO],
      (st [(o, 2)]).targetBlock o = some 2 ∧ (st [(o, 1)]).targetBlock o = none) ∧ State.reset.dev.part.hasGauge = true := by decide
def withChan (n : Nat) (c : CondChannel) (l : List (Nat × Word)) : State := { st l with cond := { ch := [(n, c)] } }
theorem test_delay_premises : (let s := withChan 1807 { pageAsked := true, lineFrom := some 0 } [(Reg.SKEIN_FREE, 0)]
     (s.chan 1807).pageAsked = true ∧ s.skeinFree = 0 ∧ (s.chan 1807).lineFrom = some 0 ∧ s.tick < 0 + 1024) ∧
    (let s : State := { withChan 0 { pageAsked := true, lineFrom := some 0 } [(Reg.SKEIN_FREE, 1), (Reg.CH_STATUS 0, 256)] with now := 1024 * 32768 }
     (s.chan 0).pageAsked = true ∧ 0 < s.skeinFree ∧ 0 + 1024 ≤ s.tick ∧ (∀ m ∈ s.cond.ch.map (·.1), m < 1808) ∧
     s.bitOf (Reg.CH_STATUS 0) 8 = true ∧ s.chDelay 0 < 128 ∧ (s.chan 0).xfadeTo.getD 0 < 128) ∧
    128 ≤ fld (0x80 &&& 0x1FFFF : Word) 16 0 ∧ State.reset.bitOf (Reg.CH_STATUS 0) 8 = false ∧ (State.reset.chan 0).pageAsked = false := by decide
theorem test_tracking_premises : (let s := withChan 0 { track := { within := 3000 } } [(Reg.CH_CTRL 0, 1)]
     s.chTrack 0 = true ∧ 3000 ≤ (s.chan 0).track.within) ∧ State.reset.chTrack 0 = false ∧
    fld (3 : Word) 1 0 = 3 ∧ 6 ≤ fld (24 : Word) 4 2 ∧ fld (6 : Word) 1 0 = 2 ∧ fld (6 : Word) 4 2 ≠ 0 ∧ fld (6 : Word) 4 2 < 6 ∧
    fld (2 : Word) 1 0 = 2 ∧ fld (2 : Word) 4 2 = 0 ∧ fld (21 : Word) 1 0 < 2 ∧ fld (21 : Word) 4 2 < 6 := by decide
/-- A FOM packet of one entry, all its bytes zero but the header's (R99). -/
def fom (ver target count : Byte) : List Byte := [ver, 0, 0, 0, target, target, 0, 0, 0, 0, 0, 1, 0, count, 0, 0] ++ List.replicate 48 0
theorem test_fom_premises : State.reset.bitOf Reg.OMD_CTRL 0 = false ∧ (st [(Reg.OMD_CTRL, 1)]).bitOf Reg.OMD_CTRL 0 = true ∧
    beNat (fom 2 0 1) 0 1 ≠ 1 ∧ beNat (fom 1 1 1) 0 1 = 1 ∧ beNat (fom 1 1 1) 4 2 ≠ 0xFFFF ∧ beNat (fom 1 1 1) 4 2 ≠ State.reset.cascadeId ∧
    beNat (fom 1 0xFF 1) 4 2 = 0xFFFF ∧ (fom 1 0xFF 2).length ≠ 16 + 48 * beNat (fom 1 0xFF 2) 12 2 ∧
    (fom 1 0xFF 1).length = 16 + 48 * beNat (fom 1 0xFF 1) 12 2 ∧ 1 ≤ beNat (fom 1 0xFF 1) 12 2 ∧ beNat (fom 1 0xFF 1) 12 2 ≤ 186 ∧
    (State.reset.senderTake 1 1 1 0).2 = true ∧ ((State.reset.senderTake 1 1 1 0).1.senderTake 1 1 1 0).2 = false := by decide
/-- "/frenus/obj/0/gain" ",f" 1.0 (R104). -/
def oscGain : List Byte := [47, 102, 114, 101, 110, 117, 115, 47, 111, 98, 106, 47, 48, 47, 103, 97, 105, 110, 0, 0,
  44, 102, 0, 0, 63, 128, 0, 0]
theorem test_osc_premises : State.oscMerge (oscElements 8 0 none []) [] = [] ∧
    State.oscMerge (oscElements 8 0 none oscGain) [] = [(none, 0, { t := 0, block := 0, seq := none, flags := 2, law := 0, pos := {}, gain := 268435456, spread := 0, diffuse := 0 })] ∧
    (let s := st [(Reg.OMD_CTRL, 4), (Reg.OMD_OSC_CFG, 9000)]
     s.bitOf Reg.OMD_CTRL 2 = true ∧ s.rf Reg.OMD_OSC_CFG 15 0 ≠ 0) := by decide +kernel
theorem test_push_premises : (0 : Nat) < State.reset.dev.part.objects ∧ State.reset.inGroup 0 = false ∧
    (st [(Reg.OBJ_STATUS 0, 16), (Reg.OBJ_M_TIME_NS 0, 1000000000)]).inGroup 0 = true ∧
    (st [(Reg.OBJ_STATUS 0, 16), (Reg.OBJ_M_TIME_NS 0, 1000000000)]).metaImported 0 = false ∧
    999999999 < ((st [(Reg.OBJ_STATUS 0, 16), (Reg.OBJ_M_TIME_NS 0, 1000000000)]).rd (Reg.OBJ_M_TIME_NS 0)).toNat ∧
    ((st [(Reg.OBJ_M_TIME_NS 0, 999999999)]).rd (Reg.OBJ_M_TIME_NS 0)).toNat ≤ 999999999 := by decide
theorem test_clear_premises : State.reset.dev.part.has .meas 0 = true ∧ (0 : Nat) < State.reset.dev.part.casPorts ∧
    State.reset.dev.part.hasGauge = true ∧ State.reset.dev.part.hasHedge = true ∧ State.reset.dev.part.hasStore = true ∧
    State.reset.bitOf Reg.STORE_STATUS 3 = false ∧ (0 : Nat) < State.reset.dev.part.dramChannels ∧ (0 : Nat) < State.reset.dev.part.tiles ∧
    (0 : Nat) < State.reset.dev.part.needles ∧ State.reset.dev.part.hasOutput 0 = true := by decide
def withTile (p : Nat) (t : TileState) (l : List (Nat × Word)) : State := { st l with rndr := { tiles := [(p, t)] } }
theorem test_tile_premises : (let s := withTile 0 { katDue := true } [(Reg.TILE_CTRL 0, 1), (Reg.TILE_STATUS 0, 2)]
     s.bitOf (Reg.TILE_CTRL 0) 0 = true ∧ (s.tile 0).katDue = true ∧ s.tileTrueState 0 = 2 ∧ s.tileState 0 = 2) ∧
    (let s := withTile 0 { katDue := true } [(Reg.TILE_CTRL 0, 0), (Reg.TILE_STATUS 0, 1)]
     s.bitOf (Reg.TILE_CTRL 0) 0 = false ∧ (s.tile 0).katDue = true ∧ s.tileTrueState 0 ≠ 2) ∧
    (State.reset.tile 0).katDue = false ∧ (st [(Reg.TILE_STATUS 5, 3)]).tileState 5 = 3 ∧ State.reset.tileState 5 ≠ 3 := by decide
theorem test_page_premises : ({ State.reset with skein := { hist := [(0, { pages := [{ idx := 3, loaded := false }] })] } } : State).histCh 0
    |>.pages.any (fun x => x.idx == 3 && !x.loaded) := by decide
theorem test_needle_premises : (st [(Reg.NDL_CTRL 0, 1)]).bitOf (Reg.NDL_CTRL 0) 0 = true ∧ (st [(Reg.NDL_CTRL 0, 0)]).bitOf (Reg.NDL_CTRL 0) 0 = false ∧
    (State.reset.needle 0).katDue = false ∧ State.reset.tick < 4 ∧
    (let s : State := { State.reset with now := 4 * 32768 }
     s.tick % 4 = 0 ∧ 4 ≤ s.tick ∧ s.ticked.micro = false) := by decide
def gnode (kind engine : Nat) : GNode := { node := 0, nkind := kind, engine := engine, flow := 1024, deadline := 0, cost := 0, operand := 0 }
/-- Work of one node of version 1 in a run block. -/
def work (u kind engine : Nat) (x : InstState) : Instance := { uid := u, region := 0, ver := 1, node := gnode kind engine, block := 0, runBlock := 0, state := x }
def withWork (l : List Instance) (r : List (Nat × Word)) : State :=
  { st r with now := 32768, pat := { versions := [{ uid := 1, region := region 0 0 0, since := 0 }] }, sched := { inst := l } }
theorem test_ready_premises : (let s := withWork [work 1 5 2 .waiting, work 2 5 2 .deferred, work 3 5 2 .released] []
     State.reset.inst? 1 = none ∧ s.inst? 1 = some (work 1 5 2 .waiting) ∧ 32 * 0 + s.earliestOf (work 1 5 2 .waiting) ≤ s.tick ∧
     s.predecessorsDone (work 1 5 2 .waiting) = true ∧ s.inst? 2 = some (work 2 5 2 .deferred) ∧ s.inst? 3 = some (work 3 5 2 .released) ∧
     (s.onList (2, 0) .ready).length < s.listCapacity 2) := by decide
def crowded (b : Word) : State :=
  withWork (work 1 5 2 .waiting :: List.replicate 4096 (work 2 5 2 .ready)) [(Reg.SKEIN_FREE, 0), (Reg.SCHED_CTRL, b)]
theorem crowded_list (b : Word) : (crowded b).onList (2, 0) .ready = List.replicate 4096 (work 2 5 2 .ready) :=
  (List.filter_cons_of_neg (by rintro ⟨⟩)).trans (List.filter_eq_self.2 fun _ h => List.eq_of_mem_replicate h ▸ rfl)
/-- A ready list with no room, no page to borrow, and spilling off and on. -/
theorem test_full_premises (b : Word) : (crowded b).inst? 1 = some (work 1 5 2 .waiting) ∧
    (crowded 0).borrowSchedPage 2 = crowded 0 ∧ (crowded 1).borrowSchedPage 2 = crowded 1 ∧
    (crowded b).listCapacity 2 ≤ ((crowded b).onList (2, 0) .ready).length ∧
    (crowded 0).bitOf Reg.SCHED_CTRL 0 = false ∧ (crowded 1).bitOf Reg.SCHED_CTRL 0 = true ∧ (crowded b).classCount 2 .spilled < 65536 := by
  have room : ∀ s : State, s.skeinFree = 0 → s.borrowSchedPage 2 = s := fun s h => by
    unfold State.borrowSchedPage State.pagerFree; simp [h]
  refine ⟨rfl, room _ (by decide), room _ (by decide), ?_, by decide, by decide, ?_⟩
  · rw [crowded_list, List.length_replicate]; exact Nat.le_refl 4096
  · exact Nat.lt_of_le_of_lt (List.length_filter_le ..)
      (by rw [show (crowded b).sched.inst = work 1 5 2 .waiting :: List.replicate 4096 (work 2 5 2 .ready) from rfl,
        List.length_cons, List.length_replicate]; decide)
theorem test_dispatch_premises : (let s := withWork [work 1 5 2 .ready] []
     firstOf Instance.before ((s.onList (2, 0) .ready).filter fun x => !s.heldByFlow x) = some (work 1 5 2 .ready)) ∧
    (let f : Instance := { work 1 5 2 .ready with node := { gnode 5 2 with flow := 1023 }, seq := some 0 }
     let s := withWork [f] []
     firstOf Instance.before ((s.onList (2, 0) .ready).filter fun x => !s.heldByFlow x) = some f ∧ s.rf (Reg.SCHED_FLOW 1023) 24 16 < 511) ∧
    firstOf Instance.before ((State.reset.onList (5, 0) .ready).filter fun x => !State.reset.heldByFlow x) = none ∧
    (State.reset.onList (5, 0) .ready).length * 100 ≤ State.reset.listCapacity 5 * State.reset.rf Reg.SCHED_SPILL_CFG 15 8 ∧
    (let s := withWork [work 1 5 2 .ready] [(Reg.SCHED_SPILL_CFG, 0)]
     s.listCapacity 2 * s.rf Reg.SCHED_SPILL_CFG 15 8 < (s.onList (2, 0) .ready).length * 100) := by decide
theorem test_complete_premises : (let s := withWork [work 1 5 2 .running, work 2 6 2 .running, work 3 7 2 .running, work 4 5 2 .doomed] []
     (∀ i ∈ s.sched.inst, s.inst? i.uid = some i ∧ ¬ (i.node.flow < 1024 ∧ i.seq.isSome = true)) ∧
     (work 2 6 2 .running).deadline * 128 ≤ s.now ∧ (work 3 7 2 .running).deadline * 128 ≤ s.now) ∧
    (let i : Instance := { work 1 5 2 .running with runBlock := 1 }
     (withWork [i] []).now < i.deadline * 128) ∧
    InstState.waiting.unreleased = true ∧ InstState.released.unreleased = false := by decide
theorem test_deadline_premises : (State.reset.domainUnit .blockMix).2 = [] ∧
    (let s := withWork [work 1 3 0 .waiting] []
     ((s.domainUnit .blockMix).2.filter fun i => i.state.unreleased && !i.node.exempt).any (fun i => i.node.nkind == 3) = true ∧
     State.concealing s.rndr.blockConceal = false) ∧
    (let s := withWork [{ work 1 2 1 .waiting with micro := some 7 }] []
     (s.domainUnit (.fgMix 7)).2.filter (fun i => i.state.unreleased && !i.node.exempt) ≠ [] ∧ State.concealing s.ndl.conceal = false) ∧
    (let s := withWork [work 1 5 2 .waiting] []
     (s.domainUnit (.output 0)).2.filter (fun i => i.state.unreleased && !i.node.exempt) ≠ [] ∧
     State.concealing (s.outConceal 0).phase = false) := by decide
def ramping (start : Nat) : State := { State.reset with xp := { ramps := [(0x1250000, [{ start := start, len := 4, old := 0, new := 1 }])] } }
theorem test_ramp_premises : (ramping 4).nodeRamps 0x1250000 = [{ start := 4, len := 4, old := 0, new := 1 }] ∧
    State.reset.nodeRamps 0x1250000 = [] ∧ (ramping 4).tick + nodeShift 0x1250000 < 4 + 64 + 4 ∧
    (let s : State := { State.reset with now := 8 * 32768 }
     s.tick % 4 = 0 ∧ 8 ≤ s.tick ∧ s.ticked.outMicro = false) := by decide
theorem test_swap_premises : (let s := st [(Reg.OUTS_TARGET, 0x10000), (Reg.SPK_STATUS 0, 16)]
     s.targets Reg.OUTS_TARGET = some [0] ∧ s.targetBlock Reg.OUTS_SWAP_BLOCK_LO = some 1 ∧ s.bitOf Reg.OUTS_STATUS 2 = false ∧
     [0].filter (fun i => s.bitOf (Reg.SPK_STATUS i) 4) ≠ [] ∧ s.bitOf (Reg.SPK_STATUS 0) 3 = false ∧ (s.outp 0).gaugeStandby = false) ∧
    State.reset.targets Reg.OUTS_TARGET = none ∧
    (let s : State := { State.reset with now := 80 * 32768, outs := { out := [(639, { xfade := some ⟨0, 16, 1⟩ })] } }
     (s.outp 639).xfade = some ⟨0, 16, 1⟩ ∧ 32 * 0 + 64 + 16 ≤ s.tick) ∧
    (let s : State := { State.reset with now := 79 * 32768, outs := { out := [(0, { xfade := some ⟨0, 16, 1⟩ })] } }
     s.tick < 32 * 0 + 64 + 16) := by decide
def withFilter (l : List (Nat × Word)) : State :=
  { st l with pat := { versions := [{ uid := 1, region := { region 0 0 0 with filters := [⟨0, 0, 1, 0, 64, 0, []⟩] }, since := 0 }] } }
theorem test_prepare_premises : (let s := withFilter [(Reg.OUTS_TARGET, 0x10000), (Reg.OUTS_STAGE_TAPS, 64)]
     s.targets Reg.OUTS_TARGET = some [0] ∧ (∃ f, s.curFilter 0 = some f ∧ s.rf Reg.OUTS_STAGE_TAPS 15 0 ≤ f.taps) ∧
     s.bitOf (Reg.SPK_STATUS 0) 3 = false ∧ s.bitOf (Reg.SPK_STATUS 0) 2 = false ∧ (s.outp 0).gaugeStandby = false ∧
     s.bitOf Reg.OUTS_STATUS 2 = false ∧ 64 ≤ s.rf Reg.OUTS_STAGE_TAPS 15 0 ∧ s.rf Reg.OUTS_STAGE_TAPS 15 0 ≤ 32768) ∧
    State.reset.outs.prepare = none ∧ [0].Nodup ∧ (List.replicate 64 (0 : Int)).length = 64 * [0].length := by
  exact ⟨⟨rfl, ⟨_, rfl, by decide⟩, by decide⟩, by decide⟩
theorem test_gauge_premises : (let s : State := { State.reset with applied := (st [(Reg.GAUGE_TARGET, 0x10000)]).regs }
     0 < s.af Reg.GAUGE_TARGET 25 16 ∧ s.af Reg.GAUGE_TARGET 8 0 + s.af Reg.GAUGE_TARGET 25 16 ≤ 512) ∧
    State.reset.af Reg.GAUGE_TARGET 25 16 = 0 ∧ State.reset.dev.part.hasReg .spk 0 0x100 = true ∧ State.reset.tick % pilotPeriod = 0 ∧
    (let s : State := { State.reset with gauge := { out := [(0, { holds := [some 0, none, none, none] })] } }
     ((s.gout 0).holds[0]?).getD none = some 0 ∧ 0 ≤ s.uptime) := by decide
def withJob (g : GaugeOut) (j : Job) : State := { State.reset with gauge := { out := [(0, g)], jobs := [(31, j)] } }
def job : Job := { out := 0, chan := .v, src := 0, t0 := 0, lag := 0, taps := 4, sweep := 0, acc := [2, 0, 0, 0], energy := 1 }
theorem test_job_premises : Assoc.get? 31 (withJob {} job).gauge.jobs = some job ∧ Assoc.get? 63 (withJob {} job).gauge.jobs = none ∧
    ((withJob {} job).gout 0).pilotTop + 1 < job.ends ∧ job.ends ≤ ((withJob { pilotTop := job.ends - 1 } job).gout 0).pilotTop + 1 ∧
    job.response.2 = true ∧ { job with spoiled := true }.response.2 = false ∧
    1 ≤ ({ invalid := [1, 0, 0] } : GaugeOut).invalid.getD (State.channelNo .v) 0 := by decide
theorem test_step_slew_premises : (let s := st [(Reg.TIME_STATUS, 8)]
     s.jumpPending = true ∧ s.stepBlock = some 2) ∧ (st [(Reg.TIME_STEP_BLOCK_LO, 1)]).stepBlock = none ∧ State.reset.jumpPending = false ∧
    State.reset.timeSource ≠ 2 ∧ (st [(Reg.TIME_STATUS, 16)]).todValid = true ∧ State.reset.todValid = false ∧
    (st [(Reg.PAT_STATUS, 32)]).patternActive = true ∧ State.reset.patternActive = false ∧
    (let s : State := { st [(Reg.TIME_STATUS, 4)] with time := { slew := some ⟨0, 1, true⟩ } }
     s.time.slew = some ⟨0, 1, true⟩ ∧ s.timeState = 4) ∧ State.reset.time.slew = none := by decide
/-- A state that hears the master on port 0 of the selected source. -/
def hearing (status : Word) (settle : Nat) : State :=
  { st [(Reg.TIME_CTRL, 4), (Reg.TIME_STATUS, status)] with time := { ptp := { portState := [9, 0] }, settle := settle } }
theorem test_ptp_premises : ∀ k ∈ [1, 2, 3, 4, 5, 6],
    let s := hearing (BitVec.ofNat 32 (16 + k)) 15
    s.bitOf Reg.TIME_CTRL 2 = true ∧ s.time.ptp.portState.getD 0 0 = 9 ∧ s.linkTimed = false ∧ s.timeSource = 0 ∧ s.todValid = true ∧
    s.timeState = k ∧ s.time.settle = 15 := by decide
theorem test_ptp_offsets : (let s := hearing 17 15;
     (-s.jumpLimit ≤ divEven (s.instant 0 * 62500 : Nat) 3 - (0 : Nat)) ∧ divEven (s.instant 0 * 62500 : Nat) 3 - (0 : Nat) ≤ s.jumpLimit ∧
     divEven (s.instant 0 * 62500 : Nat) 3 - (1125899906842624 : Nat) < -s.jumpLimit) := by decide +kernel
theorem test_ptp_sources : (st [(Reg.TIME_CTRL, 2)]).timeSource = 2 ∧ (st [(Reg.TIME_CTRL, 1)]).timeSource ≠ 0 ∧ State.reset.timeSource = 0 ∧
    State.reset.time.ptp.portState.getD 0 0 ≠ 9 ∧ State.reset.timeState = 0 := by decide
def referenced (rate status : Word) (last : Nat) : State :=
  { st [(Reg.TIME_CTRL, 1), (Reg.TIME_REF_CFG, rate), (Reg.TIME_STATUS, status)] with now := 32768, time := { ref := { lastEdge := some last } } }
theorem test_reference_premises : (let s := referenced 4 32 (32768 - 128)
     s.timeSource = 1 ∧ s.bitOf Reg.TIME_REF_CFG 3 = false ∧ s.refRate = some 4 ∧ s.time.ref.lastEdge = some (32768 - 128) ∧
     State.refEdgeValid 4 (32768 - 128) (s.instant 0) = true ∧ s.bitOf Reg.TIME_STATUS 5 = true) ∧
    State.refEdgeValid 4 (32768 - 128) ((referenced 4 32 0).instant 9) = false ∧
    (let s := referenced 5 0x1C0 0
     s.refRate = none ∧ s.rf Reg.TIME_REF_CFG 2 0 = 5 ∧ s.rf Reg.TIME_STATUS 8 6 ≠ 4 ∧ s.bitOf Reg.TIME_STATUS 5 = false) ∧
    State.reset.timeSource ≠ 1 := by decide
theorem test_action_premises :
    (∀ n ∈ [0, 255], State.reset.armRefused n = true ∧ State.reset.taArmed n = false ∧
      (let s := st [(Reg.TA_CTRL n, 1), (Reg.TA_TIME_S_LO n, 100)]
       s.armRefused n = false ∧ s.pastOccurrences n 0 (s.nowUnits + 2000 * 65536) = 0) ∧
      (∀ late ∈ [0, 1],
       let s := st [(Reg.TA_CTRL n, BitVec.ofNat 32 (1 + 16 * late))]
       s.armRefused n = false ∧ s.pastOccurrences n 0 (s.nowUnits + 2000 * 65536) ≠ 0 ∧ s.taKind n ≠ 1 ∧ s.bitOf (Reg.TA_CTRL n) 4 = (late == 1))) ∧
    (let s : State := { st [(Reg.TA_CTRL 255, 1), (Reg.TA_STATUS 255, 1)] with time := { armed := [(255, ⟨0, none⟩)] } }
     s.taArmed 255 = true ∧ s.occurrenceDue 255 = some 0 ∧ s.taTotal 255 = some 1) ∧ State.reset.occurrenceDue 0 = none ∧
    (let l : List Pulse := [⟨0, 0, 32767⟩]
     l.find? (fun p => p.output == 0 && decide (p.ends < (State.reset.tick + 1) * 32768)) = some ⟨0, 0, 32767⟩ ∧
     l.find? (fun p => p.output == 1 && decide (p.ends < (State.reset.tick + 1) * 32768)) = none) := by decide +kernel
def capturing (n : Nat) : State :=
  { st [(0x30080, 5), (0x300E0, 1)] with now := 32768, time := { captures := [List.replicate n ⟨0, false⟩, [], [], []], lastEdges := [(0, 0)] } }
theorem test_capture_premises : (let s := capturing 15
     s.bitOf 0x30080 0 = true ∧ s.rf 0x30080 2 1 = 2 ∧ Assoc.get? 0 s.time.lastEdges = some 0 ∧ ¬ (s.instant 0 - 0) * 15625 < 20 * 49152 ∧
     ((s.time.captures[0]?).getD []).length < 16) ∧
    16 ≤ (((capturing 16).time.captures[0]?).getD []).length ∧
    ({ capturing 0 with now := 62 } : State).instant 0 * 15625 < 20 * 49152 ∧ State.reset.bitOf 0x300E0 0 = false ∧
    (capturing 1).bitOf 0x300E0 0 = true ∧ ((capturing 0).rf 0x300E0 2 1 = 1 ↔ false = true) ∧
    ((capturing 1).time.captures[0]?).getD [] = [⟨0, false⟩] ∧ State.reset.time.cues = [] ∧
    ({ State.reset with time := { cues := [⟨255, true, 0⟩] } } : State).time.cues = [⟨255, true, 0⟩] := by decide
def withPort (p : NetPort) (l : List (Nat × Word)) : State := { st l with net := { ports := [{}, p] } }
def gates (e cycle : Nat) : GateList := { cycle := cycle, base := 0, entries := [], cycleStart := 0, index := 0, entryEnd := e }
theorem test_link_premises : (let s := withPort { gclStart := some 0, gcl := some (gates 0 1) } [(Reg.NET_CFG0 1, 4), (Reg.CLK_CLK_STATUS, 6), (Reg.NET_STATUS 1, 1)]
     (s.netPort 1).training = true ∧ s.netEnabled 1 = true ∧ s.netRefOk 1 = true ∧ s.netLinkUp 1 = true ∧
     (s.netPort 1).gclStart = some 0 ∧ s.unitsDue 0 = true ∧ (s.netPort 1).gcl = some (gates 0 1)) ∧
    ((withPort { training := false } []).netPort 1).training = false ∧ (st [(Reg.NET_CFG0 1, 0)]).netEnabled 1 = false ∧
    (State.reset.netPort 0).gclStart = none ∧ State.reset.unitsDue (1099511627776) = false ∧ (State.reset.netPort 0).gcl = none ∧
    (gates (1099511627776) 0).cycle = 0 := by decide
theorem test_frame_premises : (let s := st [(Reg.NET_STATUS 1, 1)]
     s.netLinkUp 1 = true ∧ State.reset.netLinkUp 1 = false ∧ s.net.prp = false ∧ ([] : List Byte).length + 4 ≤ 1522 ∧
     (State.parseFrame []).vid = none ∧ ¬ (List.replicate 1519 (0 : Byte)).length + 4 ≤ 1522 ∧ s.bitOf (Reg.NET_CFG0 1) 4 = false ∧
     (s.count (Reg.NET_RX_FRAMES 1)).sortFrame 1 (State.parseFrame (List.replicate 6 0xFF)) = .firmware ∧
     (s.count (Reg.NET_RX_FRAMES 1)).sortFrame 1 (State.parseFrame [1, 2, 3, 4, 5, 6]) = .dropped) := by decide +kernel
theorem test_firmware_queue_full : ((withPort { fwQueue := List.replicate 256 [] } []).count (Reg.NET_RX_FRAMES 1)).sortFrame 1
    (State.parseFrame (List.replicate 6 0xFF)) = .fwOverflow := by decide +kernel
/-- A frame with a redundancy trailer of sequence 0 on LAN B (R351). -/
def trailed : List Byte := List.replicate 14 0 ++ [0, 0, 0xB0, 0, 0x88, 0xFB]
theorem test_prp_premises : (let s : State := { st [(Reg.NET_STATUS 1, 1), (Reg.HOST_STATUS, 2)] with net := { prp := true, nodes := [⟨0, 0, 1, 0⟩] } }
     s.net.prp = true ∧ ((s.count (Reg.NET_RX_FRAMES 1)).prpAccept 1 trailed).2 = false ∧ s.rf Reg.HOST_STATUS 1 0 = 2) ∧
    State.reset.net.prp = false := by decide
def queued : TxFrame := { datagram := { dst := 0, sport := 0, dport := 0, payload := [] } }
theorem test_depart_premises :
    ([7, 6, 5, 4, 3, 2, 1, 0].find? (((State.reset.bringCredit 0).markHeld 0).queueReady 0) = none) ∧
    (let m := ((withPort { queues := List.replicate 7 [] ++ [[queued]] } []).bringCredit 1).markHeld 1
     [7, 6, 5, 4, 3, 2, 1, 0].find? (m.queueReady 1) = some 7 ∧ (m.netPort 1).queues.getD 7 [] = [queued]) := by decide
def tunnelState (q : List TunnelRequest) (x : KeySlot) (auth : Bool) : State :=
  { st [(Reg.NETC_CTRL, if auth then 6 else 2)] with net := { tunnel := q, slots := List.replicate 16 {} ++ [x] } }
/-- A request in the open slot: one read of the word at BAR0 offset 0 (R365 to R367). -/
def request (n : Byte) : TunnelRequest := ⟨1, 0, 0, false, [0x10, 1, 0xFF, 0, 0, 0, 0, 9, 0, n, 0, 0, 0, 0, 0, 0, 1, 0, 0, 1, 0, 0, 0, 0]⟩
theorem test_tunnel_premises : (let s := tunnelState [] {} true
     (request 1).port < 2 ∧ (request 1).tcp = false ∧ s.bitOf Reg.NETC_CTRL 1 = true ∧ s.net.tunnel.length < 4 ∧
     16 ≤ (request 1).bytes.length ∧ (request 1).bytes.length ≤ State.tunnelLimit (request 1) ∧ byteAt (request 1).bytes 0 / 16 = 1 ∧
     byteAt (request 1).bytes 1 = 1 ∧ s.tunnelAuth (request 1).bytes = true ∧
     (s.keySlot (State.tunnelSlot (byteAt (request 1).bytes 2))).window = none ∧ beNat (request 1).bytes 4 4 = 9) ∧
    (st [(Reg.NETC_CTRL, 0)]).bitOf Reg.NETC_CTRL 1 = false ∧ 4 ≤ (tunnelState (List.replicate 4 (request 1)) {} true).net.tunnel.length ∧
    ¬ 16 ≤ ([] : List Byte).length ∧ (tunnelState [] {} false).tunnelAuth (request 1).bytes = false ∧
    ({ last := 8, seen := 1 } : SeqWindow).take 9 = (some { last := 9, seen := 3 }, true) ∧
    (({ last := 9, seen := 1 } : SeqWindow).take 9).2 = false := by decide +kernel
theorem test_replay_premises : (let x : KeySlot := { window := some { last := 9, seen := 1 }, lastRequest := (request 1).bytes, lastReply := [1] }
     let s := tunnelState [] x true
     s.keySlot (State.tunnelSlot (byteAt (request 1).bytes 2)) = x ∧ x.lastReply ≠ []) ∧
    ¬ ({} : KeySlot).lastRequest = (request 1).bytes := by decide
theorem test_execute_premises : (let s := tunnelState [request 1] {} true
     let l : List TunnelOp := [{ op := 1, words := 1, off := 0, data := [] }]
     parseOps 1 (((request 1).bytes.take 24).drop 16) = some l ∧ 16 + 0 + (l.map (·.replyBytes)).sum ≤ State.tunnelLimit (request 1) ∧
     (State.tunnelRun (request 1) false false l false s).1.net.tunnel.head? = some (request 1)) ∧
    beNat (request 0).bytes 8 2 = 0 ∧ 64 < beNat (request 65).bytes 8 2 := by decide +kernel
/-- An RTP packet without payload (R355). -/
def rtp (pt : Byte) (ts : List Byte) : List Byte := [0x80, pt, 0, 0] ++ ts ++ [0, 0, 0, 1]
def streaming (x : RxStream) : State := { st [(Reg.RXS_CTRL 127, 1), (Reg.RXS_FORMAT 127, 0)] with net := { rx := [(127, x)] } }
theorem test_stream_premises : State.reset.sharesAddress 127 = false ∧ State.reset.rxsEnabled 127 = false ∧ parseRtp [] = none ∧
    (let s := streaming {}
     s.sharesAddress 127 = false ∧ s.rxsEnabled 127 = true ∧ parseRtp (rtp 0 [0, 0, 0, 0]) = some ⟨0, 0, 0, 1, []⟩ ∧
     s.rf (Reg.RXS_CTRL 127) 22 16 = 0 ∧ s.rxsPayload 127 = 0 ∧ s.rxsFrames 127 = 6 ∧ (s.rxs 127).locked = false ∧
     parseRtp (rtp 1 [0, 0, 0, 0]) = some ⟨1, 0, 0, 1, []⟩ ∧
     parseRtp (rtp 0 [0, 15, 0, 0]) = some ⟨0, 0, 983040, 1, []⟩ ∧ parseRtp (rtp 0 [255, 255, 255, 255]) = some ⟨0, 0, 4294967296 - 1, 1, []⟩ ∧
     s.rxsIndex 127 0 = 0 ∧ s.rxsIndex 127 (4294967296 - 1) < 0 ∧ 0 ≤ s.rxsIndex 127 983040 ∧ 0 < s.rxsLead 127 0 (s.instant 0) ∧
     s.rxsLead 127 0 (s.instant 0) ≤ 20000000 * countsPerSecond * s.rxsHz 127 ∧
     20000000 * countsPerSecond * s.rxsHz 127 < s.rxsLead 127 983040 (s.instant 0) ∧
     ¬ ∀ f < s.rxsFrames 127, (Assoc.get? (0 + f) (s.rxs 127).buffer).isSome = true) ∧
    (let s := streaming { buffer := (List.range 6).map fun i => (i, []) }
     ∀ f < s.rxsFrames 127, (Assoc.get? (0 + f) (s.rxs 127).buffer).isSome = true) ∧
    (let s := streaming { locked := true }
     (s.rxs 127).locked = true ∧ 1 ≠ (s.rd (Reg.RXS_SSRC 127)).toNat) := by decide +kernel
theorem test_quiet_premise : (let s : State := { st [(Reg.RXS_CTRL 0, 1), (Reg.RXS_STATUS 0, 1)] with uptime := countsPerSecond }
     s.rxsEnabled 0 = true ∧ s.bitOf (Reg.RXS_STATUS 0) 0 = true ∧
     max (8 * s.rxsFrames 0 * countsPerSecond / s.rxsHz 0) (countsPerSecond / 250) ≤ s.uptime - (s.rxs 0).lastAccept) := by decide +kernel
theorem test_enable_premises :
    (let s := st [(Reg.RXS_FORMAT 0, 0x03FF0002)]
     s.rxsEnabled 0 = false ∧ s.rxsRefused 0 = true) ∧ (st [(Reg.RXS_FORMAT 0, 0x03FF0001), (Reg.DRAM_STATUS 0, 1)]).rxsRefused 0 = false ∧
    (st [(Reg.TXS_CTRL 0, 1)]).txsEnabled 0 = true ∧ State.reset.txsEnabled 0 = false ∧ (st [(Reg.TXS_FORMAT 0, 0x02800001)]).txsRefused 0 = true ∧
    (st [(Reg.TXS_FORMAT 0, 0x027F0001)]).txsRefused 0 = false := by decide +kernel
theorem test_packet_premises : (State.reset.outputStep.txDue (State.oldStream 0) = none ∧ State.reset.outputStep.txDue 0 = none) ∧
    (st [(Reg.EVT_LIVE 0, 16)]).outputStep.rootUnlocked = true ∧
    (let s : State := { st [(Reg.TXS_CTRL 0, 1)] with net := { tx := [(0, { next := 12 })], sendRing := [(99999, [])] } }
     s.outputStep.rootUnlocked = false ∧ s.outputStep.txDue (State.oldStream 0) = none ∧ s.outputStep.txDue 0 = some 12 ∧
     s.outputStep.packetWithheld (((12 + 1) * s.outputStep.txsTicks 0 - 1 - 72) / 32) = false) := by decide +kernel
def withTdm (p : TdmPort) (l : List (Nat × Word)) : State := { st l with tdm := [(31, p)] }
theorem test_tdm_premises : (let s := withTdm { maskAt := some 0, valid := 16 } [(Reg.TDM_CFG0 31, 0x8D), (Reg.TDM_STATUS 31, 1)]
     s.tdmEnabled 31 = true ∧ (s.tdmPort 31).maskAt ≠ none ∧ s.phase = 0 ∧ s.tdmReady 31 = true ∧ s.tdmMaster 31 = false ∧ s.tdmState 31 = 1) ∧
    State.reset.tdmEnabled 31 = false ∧ State.reset.tdmRefused 31 (setFld (0x1CC : Word) 0 0 1 &&& 0x3FFFF) = false ∧
    State.reset.tdmRefused 31 (setFld (0x30 : Word) 0 0 1 &&& 0x3FFFF) = true ∧ (State.reset.tdmPort 31).maskAt = none ∧
    bitAt (1 : Word) 0 = true ∧ fld (1 : Word) 31 16 = 0 ∧ State.reset.tdmReady 31 = false ∧
    (let s : State := { withTdm {} [(Reg.TDM_CFG0 31, 1), (Reg.TDM_STATUS 31, 2)] with now := 8 * 32768 }
     s.tdmEnabled 31 = true ∧ s.tdmMaster 31 = false ∧ s.tdmState 31 ≠ 3 ∧ (s.tdmPort 31).lastValid + 4 * s.tdmStep 31 ≤ s.tick) ∧
    (10000 * 65536 : Int).natAbs ≤ 10000 * 65536 ∧ 10000 * 65536 < (10000 * 65536 + 1 : Int).natAbs := by decide
theorem test_tdm_frame_premises : State.reset.tdmState 0 = 0 ∧ State.reset.Canonical ∧
    (let s := withTdm {} [(Reg.TDM_CFG0 31, 1), (Reg.TDM_STATUS 31, 2)]
     s.tdmState 31 = 2 ∧ s.tdmMaster 31 = false ∧ s.outputStep.tdmState 31 ≠ 0 ∧ s.outputStep.tdmMaster 31 = false ∧
     s.outputStep.tick % s.outputStep.tdmStep 31 = 0 ∧ s.outputStep.ticked.tdmTick.contains 31 = false ∧
     (s.outputStep.tdmPort 31).shape = .silent) ∧
    (st [(Reg.TDM_CFG0 31, 3)]).outputStep.tdmMaster 31 = true := ⟨rfl, ⟨rfl, rfl⟩, by decide⟩
def linked (l : List (Nat × Word)) : State := st ([(Reg.CAS_CFG0 3, 1), (Reg.CAS_STATUS 3, 1), (Reg.CAS_ROLE, 0x20000000)] ++ l)
/-- A HELLO section of an identity (R400). -/
def hello : List Nat := [2 + 16 * 77]
theorem test_link_frame_premises : 3 < State.reset.dev.part.casPorts ∧ State.reset.casUp 3 = false ∧ State.reset.casEnabled 3 = false ∧
    (linked []).casUp 3 = true ∧ (linked []).casEnabled 3 = true ∧
    ((linked []).outputStep.casUp 3 = true ∧ (linked []).outputStep.casEnabled 3 = true ∧
      (linked []).outputStep.ticked.casSent.contains 3 = false ∧ (linked []).outputStep.rootUnlocked = false) ∧
    casCrc 1 [] ≠ casCrc 1 [] + 1 ∧ natField 1 3 0 = 1 ∧ natField 2 3 0 ≠ 1 ∧ parseSections 1 [] = some [] ∧
    parseSections 2 [15] = none ∧ bitAt ((0x7FFFFFFF : Word) &&& 0xC03FFFFF) 31 = false := by decide +kernel
theorem test_hello_premise : ∃ x, parseSections (hello.length + 1) hello = some [x] ∧ x.type = 2 ∧ x.words.getD 0 0 < 18446744073709551616 :=
  ⟨⟨2, hello⟩, by decide⟩
theorem test_import_meets : bitAt ((0x80000000 : Word) &&& 0xC03FFFFF) 31 = true ∧
    (let s := st [(Reg.RXS_CTRL 127, 1), (Reg.RXS_FORMAT 127, 0x03FF0001)]
     s.rxsEnabled 127 = true ∧ s.rf (Reg.RXS_FORMAT 127) 25 16 ≤ 1023 ∧
     1023 < s.rf (Reg.RXS_FORMAT 127) 25 16 + s.rf (Reg.RXS_FORMAT 127) 6 0) := by decide
theorem test_forward_premises : (let s : State := { st [(Reg.CAS_ROLE, 0x23000000), (Reg.CAS_STATE, 0x00180000)] with now := 32 * 32768 }
     s.casMember = true ∧ s.isSink = false ∧ s.upPort.isSome = true ∧ s.block ≠ 0) ∧ State.reset.casMember = false ∧
    (let s : State := { linked [(Reg.CAS_STATE, 0)] with cas := { lone := 255 } }
     s.casMember = true ∧ s.isMaster = false ∧ s.bitOf Reg.CAS_STATE 24 = false ∧ s.rf Reg.CAS_LOSS_CFG 7 0 ≤ s.cas.lone) ∧
    (let s : State := { linked [(Reg.CAS_STATE, 0x00400001)] with cas := { offered := 3000 } }
     s.isMaster = true ∧ s.actingMaster ≠ s.casMaster ∧ 3000 ≤ s.cas.offered) := by decide
def report (flags : Nat) : PeerReport := { role := 1, basis := 0, flags := flags, crc := 0, epoch := 0, checksum := 0, chkBlock := 0, handover := 0 }
/-- A running Hedge unit of a role, with its peer in a state. -/
def paired (role peer : Word) (h : HedgeUnit) : State :=
  { st [(Reg.HEDGE_CTRL, 1), (Reg.HEDGE_STATUS, role + 4 * peer), (Reg.HEDGE_REVERT, 0x3000), (Reg.HEDGE_IDS, 0x10002)] with hedge := h }
theorem test_transfer_premises : (let s := paired 2 1 { peer := some (report 1) }
     s.dev.part.hasHedge = true ∧ s.hedgeOn = true ∧ s.hedgeRole = 2 ∧ s.hedgePeer = 1 ∧ s.peerFlag 0 = true ∧ s.rf Reg.HEDGE_STATUS 10 9 = 0 ∧
     s.peerFlag 2 = false ∧ s.peerFlag 3 = false ∧ s.rd64 Reg.HEDGE_HANDOVER_BLOCK_LO = 0) ∧ State.reset.hedgeOn = false := by decide
theorem test_asking_premises : (let s := paired 2 1 { missing := 255, unhealthy := 2 }
     s.hedgeOn = true ∧ s.hedgePeer = 1 ∧ s.rf Reg.HEDGE_CFG 7 0 ≤ s.hedge.missing ∧ s.hedgeRole ≠ 3) ∧ (paired 2 0 {}).hedgePeer = 0 ∧
    (let s := paired 3 1 { query := some ⟨1, 0, 0⟩ }
     s.hedgeOn = true ∧ s.hedgeRole = 3 ∧ s.hedge.verdict = none ∧ s.block < 0 + 3) ∧
    (let s : State := { paired 3 1 { query := some ⟨1, 0, 0⟩ } with now := 3 * 32 * 32768, uptime := 4398046511104 }
     0 + 3 ≤ s.block ∧ 0 + s.arbTimeout ≤ s.uptime) ∧
    (let s := paired 3 1 { verdict := some (2, 0) }
     s.hedge.verdict = some (2, 0) ∧ 0 ≤ s.block ∧ (2 == s.hedgeOwn) = true) := by decide +kernel
theorem test_revert_premise : (let s : State := { paired 2 1 { peer := some (report 1), revertSince := some 0, matching := 1 } with uptime := 70368744177664 }
     s.hedge.revertSince = some 0 ∧ s.mayRevert = true ∧ s.hedge.handover = none ∧ 0 + s.rf Reg.HEDGE_REVERT 11 0 * countsPerSecond ≤ s.uptime) := by decide +kernel
/-- A message of a type under the zero key of slot 0, without a payload, its tag computed (R421). -/
def heading (type sender : Byte) : List Byte := [0x10, type, 0, 0, sender, sender, 0, 2] ++ List.replicate 16 0
def signed (type sender : Byte) : List Byte := heading type sender ++ hmacSha256 (List.replicate 16 0) (heading type sender)
def keyed (role : Word) (h : HedgeUnit) : State :=
  { paired role 1 h with net := { slots := { key := some (List.replicate 16 0) } :: List.replicate 16 {} } }
theorem test_message_premises : ∀ e ∈ [(4, 0xFF), (7, 0), (1, 0)],
    let m := signed (BitVec.ofNat 8 e.1) (BitVec.ofNat 8 e.2)
    m.length = 56 + beNat m 12 2 ∧ beNat m 12 2 ≤ 1416 ∧ beNat m 2 1 < 16 ∧
    (((keyed 2 {}).net.slots[beNat m 2 1]?).getD {}).key = some (List.replicate 16 0) ∧
    hmacSha256 (List.replicate 16 0) (m.take (24 + beNat m 12 2)) = m.drop (24 + beNat m 12 2) ∧
    byteAt m 0 / 16 = 1 ∧ beNat m 1 1 = e.1 ∧ beNat m 6 2 = (keyed 2 {}).hedgeOwn := by decide +kernel
theorem test_epoch_premises : (keyed 2 {}).hedgeOn = true ∧ (keyed 2 {}).hedgeRole = 2 ∧ (keyed 2 {}).hedge.peerWin = none ∧
    (keyed 2 {}).hedge.unsent = [] ∧ (keyed 2 { fullAsked := true }).hedge.fullAsked = true ∧
    (keyed 2 { unsent := [⟨0, 5, .mute true⟩] }).hedge.unsent = [⟨0, 5, .mute true⟩] ∧
    (({ last := 0, seen := 1 } : SeqWindow).seenBefore 0) = true ∧
    (let s : State := { (keyed 2 { fullAt := some 0 }).setBit Reg.HEDGE_STATUS 10 with now := 4 * 32 * 32768 }
     s.hedge.fullAt = some 0 ∧ s.hedgeOn = true ∧ s.bitOf Reg.HEDGE_STATUS 10 = true ∧ 0 + 4 ≤ s.block) ∧
    (let v := ((paired 2 1 { peer := some (report 1) }).setBit Reg.HEDGE_STATUS 8).putBit Reg.HEDGE_CTRL 2 true |>.markTaint
     v.hedgeOn = true ∧ v.bitOf Reg.HEDGE_STATUS 8 = true ∧ v.hedge.holding = false ∧ v.mayWithhold = true) := by decide +kernel
def readAt (a : BusAddr) : Burst := { master := 0, addr := a, write := false, len := 4 }
def writeAt (a : BusAddr) : Burst := { master := 0, addr := a, write := true, data := [some 1] }
def backed : State :=
  { st [(Reg.DRAM_STATUS 0, 1), (Reg.DRAM_FRAMES 0, 1)] with mtx := { frames := [(frameOf dramBase, ⟨0, .host⟩)] } }
theorem test_burst_premises : State.reset.mtx.txns = [] ∧ State.burstOk (readAt (.bar2 0)) = true ∧ State.burstOk { readAt (.bar2 0) with len := 0 } = false ∧
    (State.reset.busTarget 0 (.bar2 0) false 4).1 = .default ∧ (State.reset.busTarget 0 (.fabric 0x20000000) false 4).1 = .bootFlash ∧
    (backed.busTarget 0 (.fabric dramBase) true 1).1 = .dram 0 ∧ (backed.busTarget 0 (.fabric dramBase) false 4).1 = .dram 0 ∧
    backed.markedIn dramBase 4 = [] ∧ (backed.frameAt (frameOf dramBase)).isSome = true := by decide +kernel
def txn (x o : Bool) : Txn := { burst := readAt (.bar0 0), target := .registers, fabric := 0, issued := true, executed := x, timedOut := o }
theorem test_response_premises : (txn true true).burst.master = 0 ∧ (txn true false).orphan = false ∧ (txn false false).target = .registers := by decide
theorem test_window_premises : (let o := Reg.MATRIX_WIN 15
     let u (v : Word) := State.reset.wr o ((regSpec State.reset.dev o).store (State.reset.rd o) v)
     (u 1).bitOf o 0 = true ∧ (u 1).rf o 13 8 < 12 ∧ (u 0).bitOf o 0 = false ∧ (u 0xC01).bitOf o 0 = true ∧ (u 0xC01).rf o 13 8 = 12 ∧
     ((u 0xC01).rd (o + 4)).toNat % 4096 = 0 ∧ (u 0xC01).rd64 (o + 8) % 4096 = 0) := by decide
theorem test_channel_premises : 3 < State.reset.dev.part.dramChannels ∧ State.reset.dramOnline 3 = false ∧
    (st [(Reg.DRAM_STATUS 3, 5)]).dramOnline 3 = true ∧ (st [(Reg.DRAM_STATUS 3, 5)]).bitOf (Reg.DRAM_STATUS 3) 2 = true ∧
    isDram dramBase = true ∧ dramBase < 1099511627776 ∧ backed.chanOfAddr dramBase = some 0 ∧ (State.reset.dramChan 3).retrainDue = false ∧
    State.reset.bitOf (Reg.DRAM_STATUS 3) 3 = false := by decide
theorem test_migrate_premises : (let s := st [(Reg.DRAM_STATUS 3, 8)]
     s.bitOf (Reg.DRAM_STATUS 3) 3 = true ∧ s.Canonical ∧ s.mtx.frames.find? (fun e => e.2.chan == 3) = none ∧ s.framesOn 3 = 0) ∧
    (let s : State := { backed with mtx := { frames := [(frameOf dramBase, ⟨3, .loader⟩)] } }
     s.mtx.frames.find? (fun e => e.2.chan == 3) = some (frameOf dramBase, ⟨3, .loader⟩) ∧ s.roomiest = some 0 ∧ s.framesOn 0 < s.channelFrames ∧
     Assoc.get? (frameOf dramBase) s.mtx.frames = some ⟨3, .loader⟩) := ⟨⟨by decide, ⟨rfl, rfl⟩, by decide⟩, by decide⟩
/-- A mounted store of a state and an object. -/
def stored (state : Word) (l : List (Nat × Word)) (n : Nat) (o : StoreObject) : State :=
  { st ((Reg.STORE_STATUS, state) :: l) with nand := { objects := [(n, o)] } }
theorem test_store_premises : State.reset.dev.part.hasStore = true ∧ State.reset.Canonical ∧ State.reset.storeReady = false ∧
    (let s := stored 2 [(Reg.STORE_OBJECT, 0x10000)] 0 ⟨1, [1], []⟩
     s.storeReady = true ∧ s.rf Reg.STORE_OBJECT 17 16 = 1 ∧ s.rf Reg.STORE_OBJECT 15 0 < 64 ∧ s.stemUses 0 = false ∧ s.storeState ≠ 3 ∧
     s.storeObject 0 = some ⟨1, [1], []⟩ ∧ s.storeObject 1 = none ∧
     ¬ s.nand.capacityMiB * 256 < s.usedSectors + sectorsOf (s.rd64 Reg.STORE_LEN_LO)) ∧
    (let s := stored 3 [(Reg.STORE_OBJECT, 0x20040)] 64 ⟨2, [], []⟩
     s.storeReady = true ∧ s.storeState = 3 ∧ s.rf Reg.STORE_OBJECT 17 16 ≠ 1 ∧ ¬ s.rf Reg.STORE_OBJECT 15 0 < 64) ∧
    (let s : State := { stored 2 [(Reg.STEM_STATUS 255, 2)] 0 ⟨1, [1], []⟩ with store := { stems := [(255, {})] } }
     s.stemUses 0 = true) ∧
    (let s : State := { st [(Reg.STORE_LEN_LO, 1)] with nand := { capacityMiB := 0 } }
     s.nand.capacityMiB * 256 < s.usedSectors + sectorsOf (s.rd64 Reg.STORE_LEN_LO)) := ⟨rfl, ⟨rfl, rfl⟩, by decide +kernel⟩
def cmd (op object code : Nat) : State := { st [(Reg.STORE_STATUS, 10)] with store := { cmd := some { op := op, object := object, kind := 1, stage := 0, code := code } } }
theorem test_store_done_premises : State.reset.store.cmd = none ∧ (∀ e ∈ [(1, 0, 0), (1, 64, 0), (2, 0, 0), (3, 0, 0), (1, 0, 255)],
      (cmd e.1 e.2.1 e.2.2).store.cmd = some { op := e.1, object := e.2.1, kind := 1, stage := 0, code := e.2.2 }) ∧
    (cmd 1 0 0).storeHeld = false ∧ (st [(Reg.STORE_STATUS, 0x2A)]).storeHeld = true ∧
    (checkOuter ({} : Device) 0 [] fun n => n == 0).toOption = none ∧ State.reset.storeState ≠ 1 ∧ (st [(Reg.STORE_STATUS, 1)]).storeState = 1 := by
  decide +kernel
theorem test_array_premises : (let s := stored 2 [] 0 ⟨1, [1], []⟩
     s.storeObject 0 = some ⟨1, [1], []⟩ ∧ s.storeUp = true ∧ 0 < sectorsOf 1 ∧ s.mayErase 65535 = true ∧
     s.rf Reg.STORE_MAINT_CFG 31 24 ≤ 255 ∧ ¬ (s.rf Reg.STORE_MAINT_CFG 31 24 ≤ 0 ∨ s.rf Reg.STORE_MAINT_CFG 23 16 * 1000 ≤ 0) ∧
     65535 < s.nand.blocks ∧ 65535 ∉ s.nand.bad) ∧ State.reset.storeUp = false ∧
    (let s : State := { st [(Reg.STORE_STATUS, 2), (Reg.STORE_MAINT_CFG, 7)] with nand := { blocks := 3, erases := [(0, 8), (1, 0), (2, 8)] } }
     s.leastWorn = some 1 ∧ s.mayErase 1 = true ∧ s.rf Reg.STORE_MAINT_CFG 15 0 < s.highestErase - s.lowestErase) ∧
    State.reset.highestErase - State.reset.lowestErase ≤ State.reset.rf Reg.STORE_MAINT_CFG 15 0 ∧
    (let s : State := { st [(Reg.STORE_STATUS, 2)] with uptime := 1152921504606846976 }
     s.storeUp = true ∧ s.store.scrubFrom + s.rf Reg.STORE_SCRUB_CFG 7 0 * 86400 * countsPerSecond ≤ s.uptime) := by decide +kernel
def audio : StoreObject := ⟨3, [0, 0, 0, 0], []⟩
theorem test_stem_premises : (let s : State := { stored 2 [(Reg.STEM_OBJECT 255, 0), (Reg.PAT_STATUS, 32)] 0 audio with pat := { caps := 2 } }
     s.storeObject (s.rf (Reg.STEM_OBJECT 255) 15 0) = some audio ∧ s.stemStart 255 = some 30 ∧ s.patternActive = true ∧ s.pat.caps / 2 % 2 = 1 ∧
     s.storeUp = true ∧ s.stemActive 255 = false ∧ audio.kind = 3 ∧ 4 * s.rd64 (Reg.STEM_START_SAMPLE_LO 255) < audio.bytes.length) ∧
    (st [(Reg.STEM_STATUS 255, 1)]).stemState 255 = 1 ∧ (st [(Reg.STEM_STATUS 255, 2)]).stemState 255 = 2 ∧
    (st [(Reg.STEM_STATUS 255, 3)]).stemState 255 = 3 ∧ State.reset.targetBlock (Reg.STEM_STOP_BLOCK_LO 255) = some 1 ∧
    (st [(Reg.STEM_STOP_BLOCK_LO 255, 1)]).targetBlock (Reg.STEM_STOP_BLOCK_LO 255) = none ∧
    (let s : State := { stored 2 [(Reg.STEM_STATUS 255, 2)] 0 audio with store := { stems := [(255, { ended := true })] } }
     s.stemActive 255 = true ∧ s.storeUp = true ∧ (s.stem 255).ended = true) := by decide
def booting (op : Nat) (failed : Bool) : State :=
  { st [(Reg.BOOTF_STATUS, 1)] with bootf := { cmd := some { op := op, slot := 0, addr := 0x6000000, stage := 0, len := 1, bytes := [1], failed := failed } } }
theorem test_boot_premises : State.reset.Canonical ∧ (booting 1 false).bootBusy = true ∧ State.reset.bootBusy = false ∧ State.reset.host.runningSlot ≠ some 3 ∧
    (st [(Reg.BOOTF_LEN, 0x800000)]).rd Reg.BOOTF_LEN = 0x800000 ∧ 0x2000000 < ((st [(Reg.BOOTF_LEN, 0x2000001)]).rd Reg.BOOTF_LEN).toNat ∧
    State.reset.bootNameable 0 0 = true ∧ State.reset.bootNameable 3 63 = false ∧ fld State.reset.bootf.cfg 1 0 = 0 ∧ fld State.reset.bootf.cfg 9 8 = 0 ∧
    State.inUserArea 0x6000000 0x2000001 = false ∧ State.inUserArea 0x5FFFFFF 1 = false ∧ State.inUserArea 0x6000000 1 = true ∧
    State.reset.storeHeld = false ∧ (st [(Reg.STORE_STATUS, 0x20)]).storeHeld = true ∧ State.reset.bootf.cmd = none ∧
    (booting 3 true).bootf.cmd = some { op := 3, slot := 0, addr := 0x6000000, stage := 0, len := 1, bytes := [1], failed := true } :=
  ⟨⟨rfl, rfl⟩, by decide +kernel⟩
theorem test_boot_pattern_premises : State.reset.rf Reg.HOST_STATUS 1 0 ≠ 2 ∧
    (let s := st [(Reg.HOST_STATUS, 2)]
     s.rf Reg.HOST_STATUS 1 0 = 2 ∧ s.patternActive = false ∧ s.patState = 0 ∧ fld s.bootCfg 1 0 = 0 ∧ fld s.bootCfg 9 8 = 0) := by decide
theorem test_event_premises : State.reset.sourceExists 255 = true ∧ sourceIsLevel 255 = false ∧ State.reset.sourceExists 0 = true ∧ sourceIsLevel 0 = true ∧
    State.reset.sourceExists 15 = false ∧ State.reset.sourcePending 255 = false ∧
    (st [(Reg.EVT_PENDING 7, 0x80000000)]).sourcePending 255 = true ∧ State.reset.sourceEnabled 255 = false ∧
    (let s := st [(Reg.EVT_CTRL, 1), (Reg.EVT_ENABLE 7, 0x80000000), (Reg.EVT_ENABLE 0, 1), (Reg.EVT_LIVE 0, 1)]
     s.bitOf Reg.EVT_CTRL 0 = true ∧ s.sourceEnabled 255 = true ∧ s.sourceEnabled 0 = true ∧ s.sourceLive 0 = true ∧ s.countNow 0 < 1024 ∧
     s.evt.timers.length = 8) := by decide
def vectors (status : Word) (timer : Option Nat) (e : Bool) (host : Word) : State :=
  { st [(Reg.VEC_STATUS 7, status), (Reg.HOST_STATUS, host)] with evt := { timers := List.replicate 7 none ++ [timer], msixEnable := e } }
theorem test_vector_premises :
    (let s := vectors 0x04000000 none true 0
     s.raised 7 = false ∧ s.coalesced 7 = true ∧ 0 < s.countNow 7 ∧ s.inD3 = false ∧ s.evt.msixEnable = true ∧ s.linkPm ≠ 1 ∧ s.linkPm ≠ 2 ∧
     s.evt.d3Held.length = 8 ∧ 0 < s.rf (Reg.VEC_CFG 7) 29 16 ∧ s.rf (Reg.VEC_CFG 7) 10 0 ≤ s.countNow 7) ∧
    (vectors 0 none true 0).vectorMasked 7 = true ∧ (vectors 0 none false 0x200).linkPm = 1 ∧ (vectors 0 none true 0x800).inD3 = true ∧
    ((st [(Reg.MSIX_VCTRL 7, 0)]).vectorMasked 7 = false) ∧ State.reset.coalesced 7 = false ∧ State.reset.countNow 7 = 0 ∧
    (vectors 1 (some (1125899906842624)) true 0).vecTimer 7 = some (1125899906842624) ∧ (vectors 1 (some 0) true 0).raised 7 = true ∧
    (let s := vectors 0 (some (1125899906842624)) true 0
     s.rf (Reg.VEC_CFG 7) 29 16 * 3145728 ≤ 1125899906842624 * 1000) ∧
    (let s := st [(Reg.EVT_PENDING 7, 1), (Reg.EVT_ENABLE 7, 1), (Reg.VEC_CFG 7, 0x10002)]
     s.countNow 7 = 0 ∧ s.groupPending 7 = true ∧ ¬ s.rf (Reg.VEC_CFG 7) 10 0 ≤ 1 ∧ s.vecTimer 7 = none) := by decide +kernel
theorem test_power_state_premises : State.reset.inD3 = false ∧ (st [(Reg.HOST_STATUS, 0x800)]).inD3 = true ∧ State.reset.evt.msixEnable = false ∧
    (let s : State := { st [(Reg.HOST_STATUS, 0x800)] with evt := { msixEnable := true, d3Held := List.replicate 8 true } }
     s.inD3 = true ∧ s.evt.msixEnable = true ∧ s.linkPm = 0 ∧ ((List.range 8).filter fun k => s.evt.d3Held.getD k false).length = 8) := by decide
theorem test_reset_premises : State.reset.sourcePending 0 = false ∧ (st [(Reg.HOST_STATUS, 2)]).fwState ≠ 0 := by decide
/-- A request of a service with its length, to a firmware in a state. -/
def asking (service : Word) (fw : Word) (l : List (Nat × Word)) : State := st ([(Reg.HOST_MB_STATUS, 1), (Reg.HOST_MB_REQ 0, service), (Reg.HOST_STATUS, fw)] ++ l)
theorem test_mailbox_premises : (∀ e ∈ ([(0x0001, 0), (0x0002, 12), (0x0010, 16), (0x0011, 16), (0x0020, 0), (0x0030, 8), (0x0040, 4)] : List (Nat × Nat)),
      ∀ fw ∈ ([1, 2] : List Nat), let s := asking (BitVec.ofNat 32 (e.1 + e.2 * 65536)) (BitVec.ofNat 32 fw) [];
        s.mbBusy = true ∧ s.host.reply = none ∧ s.mbService = e.1 ∧ s.fwState = fw ∧ s.mbLength = e.2 ∧ State.mbUnknown s.mbService = false) ∧
    State.reset.mbBusy = false ∧ (asking 5 1 []).mbLength = 0 ∧ State.mbUnknown (asking 5 1 []).mbService = true ∧
    (st [(Reg.HOST_MB_REQ 2, 128), (Reg.HOST_MB_REQ 5, 16385)]).mbWord 0 = 128 ∧ (st [(Reg.HOST_MB_REQ 5, 16385)]).mbWord 3 = 16385 ∧
    State.reset.mbWord 0 < 3 ∧ State.reset.bitOf (Reg.RXS_CTRL 127) 0 = false ∧ State.reset.host.discardReply = false ∧
    (State.reset.masterRead 2 0 1).2 = none ∧ (backed.masterRead 2 dramBase 1).2 = some [0] ∧
    ((backed.checkFirmware [0] fun n => n == 1).toOption = none) ∧ (State.reset.masterWrite 2 0 [0]).2 = false ∧
    (backed.masterWrite 2 dramBase [0]).2 = true := by decide +kernel
theorem test_device_reset_premises : (st [(Reg.EVT_LIVE 0, 16)]).rootUnlocked = true ∧ State.reset.rootUnlocked = false ∧
    (st [(Reg.CLK_RST_CFG, 1)]).bitOf Reg.CLK_RST_CFG 0 = true ∧ (st [(Reg.CLK_RST_CFG, 0)]).bitOf Reg.CLK_RST_CFG 0 = false ∧
    10 ≤ ({ State.reset with clk := { hotSamples := 10 } } : State).clk.hotSamples ∧ State.reset.clk.hotSamples < 10 := by decide
theorem test_watchdog_premises : (let s : State := { st [(Reg.CLK_RST_CFG, 0x102), (Reg.HOST_STATUS, 3)] with host := { faultTicks := 9600 } }
     s.Canonical ∧ s.bitOf Reg.CLK_RST_CFG 1 = true ∧ s.fwState = 3 ∧ s.rf Reg.CLK_RST_CFG 15 8 * 9600 ≤ s.host.faultTicks) ∧
    State.reset.fwState ≠ 3 := ⟨⟨⟨rfl, rfl⟩, by decide⟩, by decide⟩
theorem test_start_premises : State.reset.clk.thermalHold = false ∧ State.reset.bitOf Reg.CLK_CLK_STATUS 3 = false ∧
    (st [(Reg.CLK_CLK_STATUS, 8)]).bitOf Reg.CLK_CLK_STATUS 3 = true ∧ (State.reset.slotFirmware 0).toOption = none ∧
    (State.reset.slotFirmware 1).toOption = none := by decide +kernel
theorem test_supply_premises : State.reset.bitOf Reg.CLK_PWR_STATUS 1 = false ∧ (st [(Reg.CLK_PWR_STATUS, 2)]).bitOf Reg.CLK_PWR_STATUS 1 = true ∧
    State.reset.sourceLive 0 = false ∧ ({ State.reset with clk := { thermalHold := true } } : State).clk.thermalHold = true := by decide
theorem test_training_premises : (st [(Reg.CLK_CLK_STATUS, 1)]).bitOf Reg.CLK_CLK_STATUS 0 = true ∧ State.reset.bitOf Reg.CLK_CLK_STATUS 0 = false ∧
    State.reset.tdmMaster 31 = false ∧ (st [(Reg.TDM_CFG0 31, 2)]).tdmMaster 31 = true ∧
    (let s := st [(Reg.CAS_CFG0 3, 1), (Reg.CAS_ROLE, 0x20000000), (Reg.CLK_CLK_STATUS, 2)]
     s.casEnabled 3 = true ∧ s.bitOf Reg.CLK_CLK_STATUS 1 = true ∧ s.rootUnlocked = false ∧ s.casUp 3 = false) := by decide
/-- The hash of the public key (the curve's generator, whose private key is 1), as the first OTP key slot holds it (R62). -/
def keyDevice : Device := { keyHash := [0xa19d4db171b582eb8052b0cfe555e17894aa22d1c8a9770950697dd8f796d2fa4bf0a56ad80006b7ea08e1191f814b65, 0, 0, 0] }
/-- A firmware image of 256 bytes, version 7, signed with that key (R30, R480). -/
def image : List Byte :=
  [0x46, 0x52, 0x4E, 0x57, 0, 1, 64, 0, 0, 1, 0, 0, 0, 0, 0, 0, 7, 0, 0, 0] ++ List.replicate 12 0 ++ [0x47, 0xE6, 0x3E, 0x94, 160, 0, 0, 0] ++ List.replicate 24 0 ++
  beBytes 48 p384Gx ++ beBytes 48 p384Gy ++ beBytes 48 (p384Gx % p384N) ++
  beBytes 48 0x5065bdd57fc41bd118ace59ff973db67bc52386ecb46da1c7f9469badb3e5ca6e6cca264f835635e1ffc9c843c9f4b03
theorem test_firmware_accepted : (({ State.reset with dev := keyDevice } : State).checkFirmware image (fun n => n == 256) |>.toOption) = some 7 := by
  decide +kernel
theorem firmware_length (s t : State) (b : List Byte) (f g : Nat → Bool) (hd : s.dev = t.dev) (hf : f (leNat b 8 4) = g (leNat b 8 4)) :
    s.checkFirmware b f = t.checkFirmware b g := by
  unfold State.checkFirmware; dsimp only; rw [hf, hd]
/-- The image in DRAM, where FW_LOAD stages it, and in slot 0 of the boot flash. -/
def staged : State :=
  { st [(Reg.DRAM_STATUS 0, 1), (Reg.DRAM_FRAMES 0, 1)] with
    dev := keyDevice, mtx := { frames := [(frameOf dramBase, ⟨0, .host⟩)] }
    dram := image.zipIdx.map fun e => (dramBase + e.2, e.1), flash := image.zipIdx.map fun e => (State.fwSlot 0 + e.2, e.1) }
theorem test_staged_firmware : (staged.masterRead 2 dramBase 256).2 = some image ∧
    (staged.checkFirmware image fun n => n == image.length).toOption = some 7 := by
  refine ⟨by decide +kernel, ?_⟩
  rw [firmware_length staged { State.reset with dev := keyDevice } image _ (fun n => n == 256) rfl (by decide +kernel)]
  exact test_firmware_accepted
theorem test_slot_firmware : (staged.slotFirmware 0).toOption = some 7 := by
  unfold State.slotFirmware; dsimp only
  rw [show (if 0x800000 < leNat (staged.flashBytes (State.fwSlot 0) 64) 8 4 then staged.flashBytes (State.fwSlot 0) 64
    else staged.flashBytes (State.fwSlot 0) (max 64 (leNat (staged.flashBytes (State.fwSlot 0) 64) 8 4))) = image by decide +kernel,
    firmware_length staged { State.reset with dev := keyDevice } image _ (fun n => n == 256) rfl (by decide +kernel)]
  exact test_firmware_accepted
/-- A Pattern of one region, the root without records but its REGION_INFO, that may boot, signed with the same key (R30, R31, R40). -/
def pattern : List Byte :=
  [70, 82, 78, 80, 0, 3, 64, 0, 112, 1] ++ List.replicate 10 0 ++ [1, 0, 8] ++ List.replicate 9 0 ++ [110, 105, 131, 231, 16, 1] ++ List.replicate 28 0 ++ [255, 0, 128, 0, 0, 0, 48] ++ List.replicate 19 0 ++ [251, 193, 87, 100] ++ List.replicate 32 0 ++ [1, 0, 0, 0, 32] ++ List.replicate 35 0 ++ [255, 255, 0, 0, 0, 0, 0, 0] ++
  beBytes 48 p384Gx ++ beBytes 48 p384Gy ++ beBytes 48 (p384Gx % p384N) ++
  beBytes 48 0xe3e1c13fab8c42f40ad63050ad04a9d3f45fa350ef8558553d75eede9b0f0685ba3a61afbada9a2b41439b732b7a4b46
def keyed384 : State := { st [(Reg.PAT_STATUS, 2), (Reg.PAT_STAGE_LEN, 368)] with dev := keyDevice }

theorem test_pattern_verified : (keyed384.verifyImage pattern 0).toOption.isSome = true := by decide +kernel
theorem verified_form (s : State) (b : List Byte) (r : Nat) (f : Nat → Bool) (hf : s.sourceLength = f)
    (h : (s.verifyImage b r).toOption.isSome = true) : (checkOuter s.dev r b f).toOption.isSome = true := by
  unfold State.verifyImage at h
  rw [hf] at h
  cases e : checkOuter s.dev r b f with
  | ok v => rfl
  | error x => simp [e, Except.toOption] at h
theorem test_pattern_form_accepted : (checkOuter keyed384.dev 0 pattern fun n => n == pattern.length).toOption.isSome = true :=
  verified_form keyed384 pattern 0 _ (by rw [show pattern.length = 368 by decide +kernel]; rfl) test_pattern_verified
theorem test_boot_load_premise : (let s : State := { stored 2 [(Reg.HOST_STATUS, 2), (Reg.DRAM_STATUS 0, 1)] 0 ⟨1, pattern, []⟩ with
      dev := keyDevice, bootCopies := [some ⟨1, 1⟩, none] }
     fld s.bootCfg 1 0 = 1 ∧ fld s.bootCfg 7 2 = 0 ∧ s.rf Reg.HOST_STATUS 1 0 = 2 ∧ s.patternActive = false ∧ s.patState = 0 ∧ s.storeState ≠ 1 ∧
     (s.bootLoad 1 0).2.2 = true) := by decide +kernel

end Sys2Proof.Tests
end

/-! The machine's own statements: the step, the state after reset, and completion of every command. -/

namespace Sys2Proof.Machine

/-- Every arm of `exec` answers a next state whose queue is the one it was given. -/
theorem exec_completes (c : Instr) (s : State) : Completes c s fun t => t.pending = s.pending := by
  cases c <;> exact ⟨_, rfl, rfl⟩

theorem step_of_pending_cons {s : State} {c : Instr} {rest : List Instr} (h : s.pending = c :: rest) :
    step s = exec c { s with pending := rest } := by simp [step, h]

theorem step_of_pending_nil {s : State} (h : s.pending = []) : step s = .next s := by simp [step, h]

namespace State

@[simp] theorem JustRegs.refl (s : State) : s.JustRegs s := rfl

theorem JustRegs.trans {s t u : State} (h : s.JustRegs t) (h' : t.JustRegs u) : s.JustRegs u := by
  unfold JustRegs at h h' ⊢
  exact h'.trans (by rw [h])

theorem rd_of_regs_nil {s : State} (h : s.regs = []) (o : Nat) : s.rd o = resetValue s.dev o := by
  simp [rd, h, RegFile.get]

theorem inv_of_empty {s : State} (hd : s.dram = []) (hf : s.flash = []) (hp : s.pending = []) : s.Inv := by
  simp [Inv, Canonical, hd, hf, hp]

end State

end Sys2Proof.Machine

namespace Sys2Proof.Proofs

open Sys2Proof.Machine

/-- Settles O1, by the two branches of `step`. -/
theorem stepRunsTheFrontCommand : Obligations.StepRunsTheFrontCommand :=
  fun _ => ⟨fun _ _ h => step_of_pending_cons h, step_of_pending_nil⟩

/-- Settles O2: every memory, the queue and the register file are empty at reset. -/
theorem resetIsCanonical : Obligations.ResetIsCanonical :=
  ⟨State.inv_of_empty rfl rfl rfl, rfl, rfl, rfl, State.rd_of_regs_nil rfl⟩

/-- Settles O4: no arm of `exec` faults or refuses, and none touches the queue. -/
theorem everyCommandCompletes : Obligations.EveryCommandCompletes := exec_completes

end Sys2Proof.Proofs

/-! Host accesses that reach no unit: absent units (R9, R11), reserved offsets (R490) and the default target (R447). -/

namespace Sys2Proof.Machine

/-- No unit of the part stands behind the offset (R9, R10). -/
def Part.lacks (p : Part) (off : Nat) : Prop :=
  (∃ b i o, place off = .reg b i o ∧ p.hasReg b i o = false) ∨
    (∃ u d, place off = .ixpNode u d ∧ p.hasIxpNode u d = false) ∨
    (∃ u d, place off = .oxpNode u d ∧ p.hasOxpNode u d = false)

theorem Part.lacks.place_ne_default {p : Part} {off : Nat} (h : p.lacks off) : place off ≠ .default := by
  obtain ⟨_, _, _, h, _⟩ | ⟨_, _, h, _⟩ | ⟨_, _, h, _⟩ := h <;> simp [h]

namespace State

variable {s : State} {off : Nat}

/-- PCIe may reach every offset that some region covers (R442, R490). -/
theorem registerFault_host (w : Bool) (off : Nat) : registerFault 0 w off = if place off = .default then some 0 else none := by
  unfold registerFault
  split
  · next h => simp [h]
  · next h => simp [h]
  · next h => simp [h]
  · next h _ _ => exact (if_neg h).symm

/-! ### What the access does -/

theorem hostWrite_eq (s : State) (off : Nat) (v : Word) :
    s.hostWrite off v = if place off = .default then s.decodeError 0 off true 0 else s.busWrite off v := by
  unfold hostWrite
  rw [registerFault_host]
  by_cases h : place off = .default <;> simp [h]

theorem hostRead_eq (s : State) (off : Nat) :
    s.hostRead off = if place off = .default then { s.decodeError 0 off false 0 with readData := 0 } else s.readCommand off := by
  unfold hostRead
  rw [registerFault_host]
  by_cases h : place off = .default <;> simp [h]

theorem hostWrite_default (h : place off = .default) (v : Word) : s.hostWrite off v = s.decodeError 0 off true 0 :=
  (hostWrite_eq s off v).trans (if_pos h)

theorem hostRead_default (h : place off = .default) : s.hostRead off = { s.decodeError 0 off false 0 with readData := 0 } :=
  (hostRead_eq s off).trans (if_pos h)

/-- A write that reaches no unit: counted where a unit is absent, ignored at a reserved offset (R9 to R11, R490). -/
theorem busWrite_of_no_unit (s : State) (off : Nat) (v : Word) :
    (s.dev.part.lacks off → s.busWrite off v = s.absentAccess off) ∧ (place off = .reserved → s.busWrite off v = s) := by
  unfold busWrite
  refine ⟨fun h => ?_, fun h => by simp [h]⟩
  obtain ⟨_, _, _, hp, ha⟩ | ⟨_, _, hp, ha⟩ | ⟨_, _, hp, ha⟩ := h <;> simp [hp, ha]

/-- A read that reaches no unit returns zero: counted where a unit is absent, and otherwise nothing (R9 to R11, R490). -/
theorem busRead_of_no_unit (s : State) (off : Nat) :
    (s.dev.part.lacks off → s.busRead off = (s.absentAccess off, 0)) ∧ (place off = .reserved → s.busRead off = (s, 0)) := by
  unfold busRead
  refine ⟨fun h => ?_, fun h => by simp [h]⟩
  obtain ⟨_, _, _, hp, ha⟩ | ⟨_, _, hp, ha⟩ | ⟨_, _, hp, ha⟩ := h <;> simp [hp, ha]

theorem readCommand_of_busRead {t : State} {v : Word} (h : s.busRead off = (t, v)) : s.readCommand off = { t with readData := v } := by
  rw [readCommand, h]

theorem hostWrite_absent (h : s.dev.part.lacks off) (v : Word) : s.hostWrite off v = s.absentAccess off := by
  rw [hostWrite_eq, if_neg h.place_ne_default, (busWrite_of_no_unit s off v).1 h]

theorem hostRead_absent (h : s.dev.part.lacks off) :
    s.hostRead off = { s with regs := (s.absentAccess off).regs, readData := 0 } := by
  rw [hostRead_eq, if_neg h.place_ne_default, readCommand_of_busRead ((busRead_of_no_unit s off).1 h)]
  exact congrArg (fun t : State => { t with readData := 0 }) (absentAccess_frame s off)

theorem hostWrite_reserved (h : place off = .reserved) (v : Word) : s.hostWrite off v = s := by
  rw [hostWrite_eq, if_neg (by rw [h]; exact nofun), (busWrite_of_no_unit s off v).2 h]

theorem hostRead_reserved (h : place off = .reserved) : s.hostRead off = { s with readData := 0 } := by
  rw [hostRead_eq, if_neg (by rw [h]; exact nofun), readCommand_of_busRead ((busRead_of_no_unit s off).2 h)]

/-! ### How the commands answer an access that writes registers, events, the fabric's unit and the read data alone -/

theorem Canonical.canon_dram (h : s.Canonical) : Memory.canon 0#8 s.dram = s.dram := Memory.canon_of_wf _ h.1
theorem Canonical.canon_flash (h : s.Canonical) : Memory.canon 255#8 s.flash = s.flash := Memory.canon_of_wf _ h.2

theorem exec_registerWrite_of_frame (hc : s.Canonical) {v : Word} {r : RegFile} {e : EvtUnit} {m : MatrixUnit}
    (h : s.hostWrite off v = { s with regs := r, evt := e, mtx := m }) :
    exec (.registerWrite (.bar0 off) v) s = .next (s.hostWrite off v) := by
  show execRegisterWrite (.bar0 off) v s = _
  simp [execRegisterWrite, registerWrite, h, hc.canon_dram, hc.canon_flash]

theorem exec_absentUnitAccess_of_frame (hc : s.Canonical) {w : Option Word} {r : RegFile} {d : Word}
    (h : s.anyAccess off w = { s with regs := r, readData := d }) :
    exec (.absentUnitAccess off w) s = .next (s.anyAccess off w) := by
  show execAbsentUnitAccess off w s = _
  simp [execAbsentUnitAccess, h, hc.canon_dram, hc.canon_flash]

theorem exec_absentUnitAccess_none (hc : s.Canonical) {r : RegFile} {d : Word}
    (h : s.hostRead off = { s with regs := r, readData := d }) : exec (.absentUnitAccess off none) s = .next (s.hostRead off) :=
  exec_absentUnitAccess_of_frame (w := none) hc h

theorem exec_absentUnitAccess_some (hc : s.Canonical) {v : Word} {r : RegFile}
    (h : s.hostWrite off v = { s with regs := r }) : exec (.absentUnitAccess off (some v)) s = .next (s.hostWrite off v) :=
  exec_absentUnitAccess_of_frame (w := some v) hc h

theorem exec_loReadLatch_of_frame {r : RegFile} {e : EvtUnit} {m : MatrixUnit} {d : Word}
    (h : s.hostRead off = { s with regs := r, evt := e, mtx := m, readData := d }) :
    exec (.loReadLatch off) s = .next (s.hostRead off) := by
  show execLoReadLatch off s = _
  simp [execLoReadLatch, h]

/-! ### Absent units -/

/-- The access is counted in IDENT with its offset, and no other register changes (R11). -/
def CountsAbsent (s : State) (off : Nat) (t : State) : Prop :=
  t.counter Reg.IDENT_ABSENT_ACCESS_COUNT = s.counterAfter Reg.IDENT_ABSENT_ACCESS_COUNT 1 ∧
  t.rd Reg.IDENT_ABSENT_LAST_OFFSET = BitVec.ofNat 32 off ∧
  s.RegsKept t [Reg.IDENT_ABSENT_ACCESS_COUNT, Reg.IDENT_ABSENT_LAST_OFFSET]

/-- Registers that read alike count alike. -/
theorem CountsAbsent.congr {t u : State} (h : s.CountsAbsent off t) (hu : ∀ o, u.rd o = t.rd o) : s.CountsAbsent off u := by
  obtain ⟨hcount, hlast, hkept⟩ := h
  exact ⟨(counter_of_rd (hu _)).trans hcount, (hu _).trans hlast, fun o ho => (hu o).trans (hkept o ho)⟩

/-- A read of an absent unit, by whichever command, is counted and returns zero. -/
theorem absent_read_counted (h : s.dev.part.lacks off) {c : Instr} (hc : exec c s = .next (s.hostRead off)) :
    Completes c s fun t => s.CountsAbsent off t ∧ t.readData = 0 ∧ t = { s with regs := t.regs, readData := 0 } :=
  ⟨_, hc, by
    rw [hostRead_absent h]
    exact ⟨CountsAbsent.congr (absentAccess_spec s off) (rd_congr rfl rfl), rfl, rfl⟩⟩

/-- A write of an absent unit, by whichever command, is counted and ignored. -/
theorem absent_write_counted (h : s.dev.part.lacks off) {c : Instr} {v : Word} (hc : exec c s = .next (s.hostWrite off v)) :
    Completes c s fun t => s.CountsAbsent off t ∧ s.JustRegs t :=
  ⟨_, hc, by rw [hostWrite_absent h]; exact ⟨absentAccess_spec s off, absentAccess_frame s off⟩⟩

/-! ### The default target -/

/-- The default target has counted the access of the host and holds its address, master, direction and cause (R447). -/
def ReportsUnmapped (s : State) (off : Nat) (w : Bool) (t : State) : Prop :=
  t.counter Reg.MATRIX_DECODE_ERRORS = s.counterAfter Reg.MATRIX_DECODE_ERRORS 1 ∧
  t.rd Reg.MATRIX_DECODE_ADDR_LO = BitVec.ofNat 32 off ∧
  t.rd Reg.MATRIX_DECODE_INFO = BitVec.ofNat 32 (16 * b2n w) ∧
  s.RegsKept t (decodeRegs ++ evtRegs 56)

/-- Registers that read alike report alike. -/
theorem ReportsUnmapped.congr {w : Bool} {t u : State} (h : s.ReportsUnmapped off w t) (hu : ∀ o, u.rd o = t.rd o) :
    s.ReportsUnmapped off w u := by
  obtain ⟨hcount, haddr, hinfo, hkept⟩ := h
  exact ⟨(counter_of_rd (hu _)).trans hcount, (hu _).trans haddr, (hu _).trans hinfo, fun o ho => (hu o).trans (hkept o ho)⟩

theorem decodeError_reportsUnmapped (s : State) (w : Bool) (h : off < 2 ^ 32) :
    s.ReportsUnmapped off w (s.decodeError 0 off w 0) := by
  refine ⟨?_, ?_, ?_, fun o ho => ?_⟩
  · rw [counter_of_rd (rd_decodeError s _ _ _ _ (by decide)), counter_count, counterAfter, counterAfter,
      counter_of_rd (rd_wr_other _ (by decide) _), wr64, counter_of_rd (rd_wr_other _ (by decide) _),
      counter_of_rd (rd_wr_other _ (by decide) _)]
  · rw [rd_decodeError s _ _ _ _ (by decide), rd_count_other _ (by decide), rd_wr_other _ (by decide), wr64,
      rd_wr_other _ (by decide), rd_wr_same, Nat.mod_eq_of_lt (h.trans (by decide))]
  · rw [rd_decodeError s _ _ _ _ (by decide), rd_count_other _ (by decide), rd_wr_same]
    simp
  · rw [List.mem_append, not_or] at ho
    exact rd_decodeError_other s _ _ _ _ ho.1 ho.2

end State

open State

theorem absent_accesses_counted (s : State) (off : Nat) (v : Word) (hc : s.Canonical) (h : s.dev.part.lacks off) :
    Completes (.absentUnitAccess off none) s
      (fun t => s.CountsAbsent off t ∧ t.readData = 0 ∧ t = { s with regs := t.regs, readData := 0 }) ∧
    Completes (.absentUnitAccess off (some v)) s (fun t => s.CountsAbsent off t ∧ s.JustRegs t) ∧
    Completes (.loReadLatch off) s
      (fun t => s.CountsAbsent off t ∧ t.readData = 0 ∧ t = { s with regs := t.regs, readData := 0 }) ∧
    Completes (.registerWrite (.bar0 off) v) s (fun t => s.CountsAbsent off t ∧ s.JustRegs t) :=
  ⟨absent_read_counted h (exec_absentUnitAccess_none hc (hostRead_absent h)),
   absent_write_counted h (exec_absentUnitAccess_some hc (hostWrite_absent h v)),
   absent_read_counted h (exec_loReadLatch_of_frame (hostRead_absent h)),
   absent_write_counted h (exec_registerWrite_of_frame hc (hostWrite_absent h v))⟩

theorem reserved_accesses_ignored (s : State) (off : Nat) (v : Word) (hc : s.Canonical) (h : place off = .reserved) :
    Completes (.registerWrite (.bar0 off) v) s (fun t => t = s) ∧
    Completes (.loReadLatch off) s fun t => t = { s with readData := 0 } :=
  ⟨⟨_, exec_registerWrite_of_frame hc (hostWrite_reserved h v), hostWrite_reserved h v⟩,
   ⟨_, exec_loReadLatch_of_frame (hostRead_reserved h), hostRead_reserved h⟩⟩

theorem unmapped_write_reported (s : State) {off : Nat} (v : Word) (hc : s.Canonical) (h : place off = .default) (h32 : off < 2 ^ 32) :
    Completes (.registerWrite (.bar0 off) v) s fun t =>
      s.ReportsUnmapped off true t ∧ t = { s with regs := t.regs, evt := t.evt, mtx := t.mtx, readData := t.readData } := by
  have hw := hostWrite_default (s := s) h v
  have hf := decodeError_frame s 0 off true 0
  refine ⟨_, exec_registerWrite_of_frame hc (hw.trans hf), ?_⟩
  rw [hw]
  exact ⟨decodeError_reportsUnmapped s true h32, by simpa using hf⟩

theorem unmapped_read_reported (s : State) {off : Nat} (h : place off = .default) (h32 : off < 2 ^ 32) :
    Completes (.loReadLatch off) s fun t =>
      s.ReportsUnmapped off false t ∧ t.readData = 0 ∧
        t = { s with regs := t.regs, evt := t.evt, mtx := t.mtx, readData := t.readData } := by
  have hr := hostRead_default (s := s) h
  have hf := hr.trans (congrArg (fun t : State => { t with readData := 0 }) (decodeError_frame s 0 off false 0))
  refine ⟨_, exec_loReadLatch_of_frame hf, ?_⟩
  rw [hr] at hf ⊢
  exact ⟨(decodeError_reportsUnmapped s false h32).congr fun _ => rfl, rfl, hf⟩

/-! ### ABSENT_CLEAR -/

/-- The count and the last offset of IDENT reset to zero on every part. -/
theorem resetValue_absent (d : Device) {o : Nat} (h : o ∈ [Reg.IDENT_ABSENT_ACCESS_COUNT, Reg.IDENT_ABSENT_LAST_OFFSET]) :
    resetValue d o = 0 := by
  simp only [List.mem_cons, List.not_mem_nil, or_false] at h
  obtain rfl | rfl := h <;> rfl

/-- ABSENT_CLEAR writes the count and the last offset alone, and both read zero (R11). -/
theorem absentClear_none_spec (s : State) :
    (s.absentClear none).rd Reg.IDENT_ABSENT_ACCESS_COUNT = 0 ∧ (s.absentClear none).rd Reg.IDENT_ABSENT_LAST_OFFSET = 0 ∧
    s.RegsKept (s.absentClear none) [Reg.IDENT_ABSENT_ACCESS_COUNT, Reg.IDENT_ABSENT_LAST_OFFSET] ∧
    s.JustRegs (s.absentClear none) := by
  have hrd := rd_resetRegs s [Reg.IDENT_ABSENT_ACCESS_COUNT, Reg.IDENT_ABSENT_LAST_OFFSET]
  refine ⟨?_, ?_, fun o ho => ?_, resetRegs_frame s _⟩
  · exact (hrd _).trans (by simp [resetValue_absent])
  · exact (hrd _).trans (by simp [resetValue_absent])
  · exact (hrd _).trans (if_neg ho)

theorem absentClear_clears (s : State) :
    Completes (.absentClear none) s fun t =>
      t.counter Reg.IDENT_ABSENT_ACCESS_COUNT = 0 ∧ t.rd Reg.IDENT_ABSENT_LAST_OFFSET = 0 ∧
      s.RegsKept t [Reg.IDENT_ABSENT_ACCESS_COUNT, Reg.IDENT_ABSENT_LAST_OFFSET] ∧ s.JustRegs t := by
  obtain ⟨hcount, hlast, hkept, hregs⟩ := absentClear_none_spec s
  refine ⟨s.absentClear none, congrArg Host.Outcome.next hregs.symm, ?_, hlast, hkept, hregs⟩
  exact congrArg BitVec.toNat hcount

/-- An access in the same cycle is counted from zero (R11). -/
theorem absentClear_counts_access (s : State) (off : Nat) :
    Completes (.absentClear (some off)) s fun t =>
      t.counter Reg.IDENT_ABSENT_ACCESS_COUNT = 1 ∧ t.rd Reg.IDENT_ABSENT_LAST_OFFSET = BitVec.ofNat 32 off ∧
      s.RegsKept t [Reg.IDENT_ABSENT_ACCESS_COUNT, Reg.IDENT_ABSENT_LAST_OFFSET] ∧ s.JustRegs t := by
  obtain ⟨hzero, _, hcleared, hregs⟩ := absentClear_none_spec s
  obtain ⟨hcount, hlast, hkept⟩ := absentAccess_spec (s.absentClear none) off
  have hframe : s.JustRegs (s.absentClear (some off)) := JustRegs.trans hregs (absentAccess_frame _ off)
  refine ⟨s.absentClear (some off), congrArg Host.Outcome.next hframe.symm, hcount.trans ?_, hlast, fun o ho => ?_, hframe⟩
  · exact congrArg (fun w : Word => min (w.toNat + 1) 0xFFFFFFFF) hzero
  · exact (hkept o ho).trans (hcleared o ho)

end Sys2Proof.Machine

namespace Sys2Proof.Proofs

open Sys2Proof.Machine

/-- Settles O6: absent, reserved and unmapped accesses, and ABSENT_CLEAR, each by its own lemma. -/
theorem absentAndUnmappedAccessesReadZero : Obligations.AbsentAndUnmappedAccessesReadZero := by
  refine ⟨fun s off v hc h => absent_accesses_counted s off v hc h,
    fun s off v hc => ⟨reserved_accesses_ignored s off v hc, fun h h32 w => ?_⟩,
    fun s off => ⟨absentClear_clears s, absentClear_counts_access s off⟩⟩
  cases w with
  | true =>
    obtain ⟨t, he, ⟨hcount, haddr, hinfo, hkept⟩, hframe⟩ := unmapped_write_reported s v hc h h32
    exact ⟨t, he, hcount, haddr, hinfo, nofun, hkept, hframe⟩
  | false =>
    obtain ⟨t, he, ⟨hcount, haddr, hinfo, hkept⟩, hzero, hframe⟩ := unmapped_read_reported s h h32
    exact ⟨t, he, hcount, haddr, hinfo, fun _ => hzero, hkept, hframe⟩

end Sys2Proof.Proofs

/-! CLEAR_COUNTS: what the counters, the extremes and the refusal bit of each unit read after its command (R14, R17). -/

namespace Sys2Proof.Machine

namespace State

variable {s t : State}

/-! ### Commands that answer with registers alone -/

theorem justRegs_wr (s : State) (o : Nat) (v : Word) : s.JustRegs (s.wr o v) := rfl

theorem justRegs_wf (s : State) (o hi lo n : Nat) : s.JustRegs (s.wf o hi lo n) := rfl

theorem justRegs_resetRegs (s : State) (l : List Nat) : s.JustRegs (s.resetRegs l) := resetRegs_frame s l

theorem justRegs_over {α : Type} {f : State → α → State} (hf : ∀ (t : State) (a : α), t.JustRegs (f t a)) (s : State)
    (l : List α) : s.JustRegs (s.over l f) :=
  over_induct (s.JustRegs ·) f l (fun t a _ ht => ht.trans (hf t a)) (.refl s)

/-- A command that answers with the registers of `t`, where `t` differs in registers alone, answers `t`. -/
theorem completes_of_justRegs {c : Instr} {P : State → Prop} (he : exec c s = .next { s with regs := t.regs }) (hj : s.JustRegs t)
    (hp : P t) : Completes c s P := ⟨t, he.trans (congrArg Host.Outcome.next hj.symm), hp⟩

/-- The command of a present unit answers with the registers of its effect. -/
theorem answer_unit_present {b : Block} {i : Nat} (off : Nat) (f : State → State) (h : s.dev.part.has b i = true) :
    (.next { s with regs := (s.unit b i off f).regs } : Host.Outcome State Fault Refusal) = .next { s with regs := (f s).regs } := by
  rw [unit_present s off f h]

/-! ### Registers after resets, after a field is set, and after a fold -/

theorem rd_resetRegs_mem (s : State) {l : List Nat} {o : Nat} (h : o ∈ l) : (s.resetRegs l).rd o = resetValue s.dev o := by
  rw [rd_resetRegs, if_pos h]

theorem rd_resetRegs_other (s : State) {l : List Nat} {o : Nat} (h : o ∉ l) : (s.resetRegs l).rd o = s.rd o := by
  rw [rd_resetRegs, if_neg h]

/-- A register at its reset value stays there through resets. -/
theorem rd_resetRegs_of_reset (s : State) (l : List Nat) {o : Nat} (h : s.rd o = resetValue s.dev o) :
    (s.resetRegs l).rd o = resetValue s.dev o := by
  rw [rd_resetRegs, h, ite_self]

/-- Counters that were reset keep their reset values when a field of another register is set. -/
theorem rd_wf_resetRegs_mem (s : State) {l : List Nat} {r : Nat} (hr : r ∉ l) (hi lo n : Nat) {o : Nat} (ho : o ∈ l) :
    ((s.resetRegs l).wf r hi lo n).rd o = resetValue s.dev o := by
  rw [rd_wf_other _ (ne_of_mem_of_not_mem ho hr), rd_resetRegs_mem s ho]

theorem rf_wf_below (s : State) (o hi lo n hi' lo' : Nat) (h : lo ≤ hi) (h32 : hi < 32) (hb : hi' < lo) :
    (s.wf o hi lo n).rf o hi' lo' = s.rf o hi' lo' := by
  rw [rf, rd_wf_same, fld_setFld_below _ hi lo n hi' lo' h h32 hb]; rfl

/-- A field set to the value of a field as wide reads that value. -/
theorem rf_wf_copy (s t : State) {o p hi lo hi' lo' : Nat} (h : lo ≤ hi) (h32 : hi < 32) (hw : hi' + 1 - lo' = hi + 1 - lo) :
    (s.wf o hi lo (t.rf p hi' lo')).rf o hi lo = t.rf p hi' lo' := by
  rw [rf_wf_same _ _ _ _ _ h h32, Nat.mod_eq_of_lt (hw ▸ fld_lt ..)]

theorem rd_over_other {α : Type} {f : State → α → State} {l : List α} {o : Nat} (hf : ∀ t, ∀ a ∈ l, (f t a).rd o = t.rd o)
    (s : State) : (s.over l f).rd o = s.rd o :=
  over_induct (fun t => t.rd o = s.rd o) f l (fun t a ha ht => (hf t a ha).trans ht) rfl

/-- What each step of a fold brings about for its own element, and the steps of other elements keep, holds for every element
after the fold. -/
theorem over_each {α : Type} (I : State → Prop) (Q : α → State → Prop) {f : State → α → State} (hI : ∀ t a, I t → I (f t a))
    (hmake : ∀ t a, I t → Q a (f t a)) (hkeep : ∀ t a b, b ≠ a → Q a t → Q a (f t b)) (h : I s) {l : List α} {a : α} (ha : a ∈ l) :
    Q a (s.over l f) := by
  induction l generalizing s with
  | nil => nomatch ha
  | cons b l ih =>
    rw [over_cons]
    by_cases hal : a ∈ l
    · exact ih (hI s b h) hal
    · obtain rfl : a = b := (List.mem_cons.mp ha).resolve_right hal
      exact over_induct (Q a) f l (fun t c hc => hkeep t a c (ne_of_mem_of_not_mem hc hal)) (hmake s a h)

/-! ### Counters that clear, and nothing else -/

/-- The registers of `l` are back at reset, and nothing but them and those of `other` has changed. -/
def Cleared (s : State) (l other : List Nat) (t : State) : Prop :=
  (∀ o ∈ l, t.rd o = resetValue s.dev o) ∧ s.RegsKept t (l ++ other) ∧ s.JustRegs t

theorem resetRegs_cleared (s : State) (l : List Nat) : s.Cleared l [] (s.resetRegs l) :=
  ⟨fun _ ho => rd_resetRegs_mem s ho, fun _ ho => rd_resetRegs_other s fun h => ho (List.mem_append_left _ h), justRegs_resetRegs s l⟩

/-- An accepted CLEAR_COUNTS clears the refusal bit of its unit's status register first. -/
theorem resetRegs_clrBit_cleared (s : State) (status b : Nat) (l : List Nat) :
    s.Cleared l [status] ((s.clrBit status b).resetRegs l) := by
  refine ⟨fun o ho => rd_resetRegs_mem _ ho, fun o ho => ?_, (justRegs_wf s ..).trans (justRegs_resetRegs _ l)⟩
  rw [List.mem_append, not_or, List.mem_singleton] at ho
  rw [rd_resetRegs_other _ ho.1, rd_clrBit_other s ho.2]

theorem completes_cleared {c : Instr} {l other : List Nat} (he : exec c s = .next { s with regs := t.regs })
    (h : s.Cleared l other t) : Completes c s (s.Cleared l other) := completes_of_justRegs he h.2.2 h

theorem casClearCounts_of_lt {n : Nat} (h : n < s.dev.part.casPorts) :
    s.casClearCounts n = s.resetRegs (((List.range 6).map fun k => Reg.CAS_FRAMES_RX n + 4 * k) ++
      if n = 0 then [Reg.CAS_MIX_ABSENT, Reg.CAS_IMPORT_CONCEAL, Reg.CAS_META_FWD, Reg.CAS_META_LATE] else []) := by
  have hpos : 0 < s.dev.part.casPorts := Nat.zero_lt_of_lt h
  unfold casClearCounts
  simp only [h, hpos, if_true, and_true]

theorem hedgeClearCounts_of_has (h : s.dev.part.hasHedge = true) : s.hedgeClearCounts =
    (s.clrBit Reg.HEDGE_STATUS 16).resetRegs ((List.range 13).map fun k => Reg.HEDGE_PEER_LOSSES + 4 * k) := if_pos h

theorem storeClearCounts_of_idle (h : s.bitOf Reg.STORE_STATUS 3 = false) : s.storeClearCounts =
    (s.clrBit Reg.STORE_STATUS 4).resetRegs ([Reg.STORE_CORR_MAX, Reg.STORE_RETRIES, Reg.STORE_UNCORRECTABLE, Reg.STORE_REFRESHES,
      Reg.STORE_WEAR_MOVES, Reg.STORE_GROWN_BAD, Reg.STORE_HOLDS] ++ (List.range 256).map fun k => Reg.STEM_UNDERRUNS k) :=
  if_neg (by rw [h]; decide)

/-! ### Counters beside extremes that start again -/

/-- The counters of SKEIN that CLEAR_COUNTS clears (R176). -/
abbrev skeinCounters : List Nat :=
  [Reg.SKEIN_PAGE_INS, Reg.SKEIN_RELEASES, Reg.SKEIN_RECLAIMS, Reg.SKEIN_DENIED, Reg.SKEIN_STARVE_STARTS,
   Reg.SKEIN_PAGEIN_WAITS]

/-- The counters of a tile (R155). -/
abbrev tileCounters (p : Nat) : List Nat :=
  [Reg.TILE_PARITY_COUNT p, Reg.TILE_KAT_PASS p, Reg.TILE_KAT_FAIL p, Reg.TILE_BANK_STALLS p, Reg.TILE_SAT_COUNT p,
   Reg.TILE_SLEW_COUNT p, Reg.TILE_CLAMP_COUNT p, Reg.TILE_SPEC_CANCEL p]

/-- The counters of RNDR itself (R153). -/
abbrev rndrCounters : List Nat :=
  [Reg.RNDR_SPEC_COMMIT, Reg.RNDR_SPEC_CANCEL, Reg.RNDR_LAW_SWITCH, Reg.RNDR_AMP_OUTSIDE]

/-- The counters and the peak of an output (R267). -/
abbrev spkCounters (j : Nat) : List Nat :=
  [Reg.SPK_PEAK j, Reg.SPK_LIM_BLOCKS j, Reg.SPK_CLIP_COUNT j, Reg.SPK_SAT_COUNT j]

/-- The counters of OUTS itself (R264). -/
abbrev outsCounters : List Nat :=
  [Reg.OUTS_SWAPS, Reg.OUTS_PREP_FAILS]

/-- The counters of SCHED (R216). -/
abbrev schedCounters : List Nat :=
  [Reg.SCHED_READY_CANCEL, Reg.SCHED_SPEC_PREFETCH, Reg.SCHED_CANCELLED, Reg.SCHED_LATE_BLOCKS, Reg.SCHED_CONCEAL_BLOCKS,
   Reg.SCHED_DEADLINE_MISS, Reg.SCHED_SPILLED, Reg.SCHED_REFILLED, Reg.SCHED_SPILL_FULL, Reg.SCHED_ROB_FULL,
   Reg.SCHED_SEND_LATE, Reg.SCHED_GAUGE_SKIPPED]

/-- The counters of CLK (R530). -/
abbrev clkCounters : List Nat :=
  [Reg.CLK_DIPS, Reg.CLK_CROSS_RESYNCS, Reg.CLK_FIFO_DROPS, Reg.CLK_PLL_UNLOCKS]

/-- The counters of a DRAM channel (R460). -/
abbrev dramCounters (n : Nat) : List Nat :=
  [Reg.DRAM_CE_COUNT n, Reg.DRAM_UE_COUNT n, Reg.DRAM_RETRAINS n, Reg.DRAM_RETRAIN_FAILS n, Reg.DRAM_MIGRATED_FRAMES n,
   Reg.DRAM_MIGRATE_UE n, Reg.DRAM_MIGRATE_SKIPPED n, Reg.DRAM_URGENT n, Reg.DRAM_REFRESH_POSTPONED n]

theorem justRegs_skeinClearCounts (s : State) : s.JustRegs (s.skeinClearCounts) :=
  ((justRegs_resetRegs s _).trans (justRegs_wr ..)).trans (justRegs_over (fun _ _ => justRegs_wr ..) _ _)

/-- SKEIN: the counters are back at reset, FREE_MIN is the present FREE and each PEAK the present HELD (R176). -/
theorem skeinClearCounts_spec (s : State) :
    (∀ o ∈ skeinCounters, s.skeinClearCounts.rd o = resetValue s.dev o) ∧
    s.skeinClearCounts.rd Reg.SKEIN_FREE_MIN = s.rd Reg.SKEIN_FREE ∧
    (∀ c < 7, s.skeinClearCounts.rd (Reg.SKEIN_PEAK c) = s.rd (Reg.SKEIN_HELD c)) ∧ s.JustRegs s.skeinClearCounts := by
  have hlow : ∀ o ∈ skeinCounters, o < 0x70100 := by decide
  have hfold : ∀ (v : State) (o : Nat), o < 0x70100 →
      (v.over (List.range 7) fun t c => t.wr (Reg.SKEIN_PEAK c) (t.rd (Reg.SKEIN_HELD c))).rd o = v.rd o := fun v o ho =>
    rd_over_other (fun t c _ => rd_wr_other t (by simp only [Reg.SKEIN_PEAK]; omega) _) v
  refine ⟨fun o ho => ?_, ?_, fun c hc => ?_, justRegs_skeinClearCounts s⟩
  · refine (hfold _ o (hlow o ho)).trans ?_
    rw [rd_wr_other _ (ne_of_mem_of_not_mem ho (by decide)), rd_resetRegs_mem s ho]
  · refine (hfold _ _ (by decide)).trans ?_
    rw [rd_wr_same, rd_resetRegs_other s (by decide)]
  · refine over_each (fun t => ∀ c, t.rd (Reg.SKEIN_HELD c) = s.rd (Reg.SKEIN_HELD c))
      (fun c t => t.rd (Reg.SKEIN_PEAK c) = s.rd (Reg.SKEIN_HELD c)) (fun t a ht c => ?_) (fun t c ht => ?_) (fun t a b hb ht => ?_)
      (fun c => ?_) (List.mem_range.mpr hc)
    · rw [rd_wr_other _ (by simp only [Reg.SKEIN_PEAK, Reg.SKEIN_HELD]; omega), ht]
    · rw [rd_wr_same, ht]
    · rw [rd_wr_other _ (by simp only [Reg.SKEIN_PEAK]; omega), ht]
    · rw [rd_wr_other _ (by simp only [Reg.SKEIN_HELD, Reg.SKEIN_FREE_MIN]; omega),
        rd_resetRegs_other s fun h => Nat.not_lt.mpr (Nat.le_add_right _ _) (hlow _ h)]

theorem justRegs_clkClearCounts (s : State) : s.JustRegs (s.clkClearCounts) :=
  (justRegs_resetRegs s _).trans (justRegs_wr ..)

/-- Without the key the command changes nothing (R527). -/
theorem exec_clkClearCounts_wrong_key (s : State) {key : Nat} (h : key ≠ 0xA5C3) : exec (.clkClearCounts key) s = .next s := by
  have hk : s.keyed key clkClearCounts = s := if_neg h
  show Host.Outcome.next { s with regs := (s.keyed key clkClearCounts).regs } = _
  rw [hk]

/-- CLK: the counters are back at reset and TJ_MAX is the present TJ (R530). -/
theorem clkClearCounts_spec (s : State) :
    (∀ o ∈ clkCounters, s.clkClearCounts.rd o = resetValue s.dev o) ∧
    s.clkClearCounts.rd Reg.CLK_TJ_MAX = s.rd Reg.CLK_TJ ∧
    s.RegsKept s.clkClearCounts (clkCounters ++ [Reg.CLK_TJ_MAX]) ∧
    s.JustRegs s.clkClearCounts := by
  refine ⟨fun o ho => ?_, rd_wr_same .., fun o ho => ?_, justRegs_clkClearCounts s⟩
  · exact (rd_wr_other _ (ne_of_mem_of_not_mem ho (by decide)) _).trans (rd_resetRegs_mem s ho)
  · refine (rd_wr_other _ (fun h => ho (by simp [h])) _).trans (rd_resetRegs_other s fun h => ho ?_)
    exact List.mem_append_left _ h

theorem justRegs_dramClearCounts (s : State) (n : Nat) : s.JustRegs (s.dramClearCounts n) :=
  (justRegs_resetRegs s _).trans (justRegs_wf ..)

/-- DRAM[n]: the counters are back at reset and UTIL's MAX is its present LAST (R460). -/
theorem dramClearCounts_spec (s : State) (n : Nat) :
    (∀ o ∈ dramCounters n,
      (s.dramClearCounts n).rd o = resetValue s.dev o) ∧
    (s.dramClearCounts n).rf (Reg.DRAM_UTIL n) 25 16 = s.rf (Reg.DRAM_UTIL n) 9 0 ∧ s.JustRegs (s.dramClearCounts n) :=
  ⟨fun _ ho => rd_wf_resetRegs_mem s (by simp) _ _ _ ho, rf_wf_copy _ s (by decide) (by decide) rfl,
    justRegs_dramClearCounts s n⟩

theorem justRegs_tileClearCounts (s : State) (p : Nat) : s.JustRegs (s.tileClearCounts p) :=
  (justRegs_resetRegs s _).trans (justRegs_wf ..)

/-- TILE[p]: the counters are back at reset and LOAD's MAX is zero (R155). -/
theorem tileClearCounts_spec (s : State) (p : Nat) :
    (∀ o ∈ tileCounters p, (s.tileClearCounts p).rd o = resetValue s.dev o) ∧
    (s.tileClearCounts p).rf (Reg.TILE_LOAD p) 25 16 = 0 ∧ s.JustRegs (s.tileClearCounts p) :=
  ⟨fun _ ho => rd_wf_resetRegs_mem s (by simp) _ _ _ ho, rf_wf_same _ _ _ _ _ (by decide) (by decide),
    justRegs_tileClearCounts s p⟩

/-- A tile's counters stand in the tile's own registers. -/
theorem rd_tileClearCounts_other (s : State) {p o : Nat} (h : o < 0x1B0000 + 0x1000 * p ∨ 0x1B1000 + 0x1000 * p ≤ o) :
    (s.tileClearCounts p).rd o = s.rd o := by
  have hown : ∀ r ∈ tileCounters p, 0x1B0000 + 0x1000 * p ≤ r ∧ r < 0x1B1000 + 0x1000 * p := by
    simp
  unfold tileClearCounts
  rw [rd_wf_other _ (by simp only [Reg.TILE_LOAD]; omega), rd_resetRegs_other s fun hm => by have := hown o hm; omega]

theorem Part.tiles_le (p : Part) : p.tiles ≤ 68 := by cases p <;> decide

theorem justRegs_rndrClearCounts (s : State) : s.JustRegs (s.rndrClearCounts) :=
  (justRegs_resetRegs s _).trans (justRegs_over justRegs_tileClearCounts _ _)

/-- RNDR: its own counters are back at reset; the tiles' lie below them (R153). -/
theorem rndrClearCounts_spec (s : State) :
    (∀ o ∈ rndrCounters,
      s.rndrClearCounts.rd o = resetValue s.dev o) ∧ s.JustRegs s.rndrClearCounts := by
  refine ⟨fun o ho => ?_, justRegs_rndrClearCounts s⟩
  have hhigh : ∀ o ∈ rndrCounters, 0x210000 ≤ o := by decide
  refine (rd_over_other (fun t p hp => rd_tileClearCounts_other t ?_) _).trans (rd_resetRegs_mem s ho)
  have := hhigh o ho
  have := List.mem_range.mp hp
  have := Part.tiles_le s.dev.part
  omega

theorem justRegs_ndlClearCounts (s : State) (h : Nat) : s.JustRegs (s.ndlClearCounts h) :=
  (justRegs_resetRegs s _).trans (justRegs_wf ..)

/-- NDL[h]: the counters are back at reset and LOAD's MAX is zero (R191). -/
theorem ndlClearCounts_spec (s : State) (h : Nat) :
    (∀ k < 11, (s.ndlClearCounts h).rd (0x1F4018 + 0x400 * h + 4 * k) = resetValue s.dev (0x1F4018 + 0x400 * h + 4 * k)) ∧
    (s.ndlClearCounts h).rf (Reg.NDL_LOAD h) 25 16 = 0 ∧ s.JustRegs (s.ndlClearCounts h) := by
  refine ⟨fun k hk => rd_wf_resetRegs_mem s ?_ _ _ _ (List.mem_map_of_mem (List.mem_range.mpr hk)),
    rf_wf_same _ _ _ _ _ (by decide) (by decide), justRegs_ndlClearCounts s h⟩
  simp only [List.mem_map, List.mem_range, Reg.NDL_LOAD, not_exists, not_and]
  omega

theorem justRegs_spkClearCounts (s : State) (j : Nat) : s.JustRegs (s.spkClearCounts j) :=
  ((justRegs_resetRegs s _).trans (justRegs_wf ..)).trans (justRegs_wf ..)

/-- SPK[j]: the counters are back at reset and the greatest gain reductions are zero (R267). -/
theorem spkClearCounts_spec (s : State) (j : Nat) :
    (∀ o ∈ spkCounters j,
      (s.spkClearCounts j).rd o = resetValue s.dev o) ∧
    (s.spkClearCounts j).rf (Reg.SPK_GR_COMP j) 31 16 = 0 ∧ (s.spkClearCounts j).rf (Reg.SPK_GR_LIM j) 31 16 = 0 ∧
    s.JustRegs (s.spkClearCounts j) := by
  refine ⟨fun o ho => ?_, ?_, rf_wf_same _ _ _ _ _ (by decide) (by decide), justRegs_spkClearCounts s j⟩
  · exact (rd_wf_other _ (ne_of_mem_of_not_mem ho (by simp)) ..).trans (rd_wf_resetRegs_mem s (by simp) _ _ _ ho)
  · exact (rf_of_rd (rd_wf_other _ (by simp) ..) _ _).trans (rf_wf_same _ _ _ _ _ (by decide) (by decide))

/-- An output's counters stand in the output's own registers. -/
theorem rd_spkClearCounts_other (s : State) {j o : Nat} (h : o < 0x140000 + 0x200 * j ∨ 0x140200 + 0x200 * j ≤ o) :
    (s.spkClearCounts j).rd o = s.rd o := by
  have hown : ∀ r ∈ spkCounters j,
      0x140000 + 0x200 * j ≤ r ∧ r < 0x140200 + 0x200 * j := by simp
  unfold spkClearCounts
  rw [rd_wf_other _ (by simp only [Reg.SPK_GR_LIM]; omega), rd_wf_other _ (by simp only [Reg.SPK_GR_COMP]; omega),
    rd_resetRegs_other s fun hm => by have := hown o hm; omega]

theorem justRegs_outsClearCounts (s : State) : s.JustRegs (s.outsClearCounts) :=
  (((justRegs_wf s ..).trans (justRegs_resetRegs _ _)).trans (justRegs_wf ..)).trans (justRegs_over justRegs_spkClearCounts _ _)

/-- OUTS: its own counters are back at reset, the refusal bit and SEQ_LOAD's MAX are zero; the outputs' lie below them (R264). -/
theorem outsClearCounts_spec (s : State) :
    (∀ o ∈ outsCounters, s.outsClearCounts.rd o = resetValue s.dev o) ∧
    s.outsClearCounts.bitOf Reg.OUTS_STATUS 1 = false ∧ s.outsClearCounts.rf Reg.OUTS_SEQ_LOAD 25 16 = 0 ∧
    s.JustRegs s.outsClearCounts := by
  have hfold : ∀ (present : Nat → Bool) (v : State) (o : Nat), 0x230000 ≤ o →
      (v.over ((List.range 640).filter present) spkClearCounts).rd o = v.rd o := fun present v o ho =>
    rd_over_other (fun t j hj => rd_spkClearCounts_other t (by
      have := List.mem_range.mp (List.mem_of_mem_filter hj); omega)) v
  refine ⟨fun o ho => ?_, ?_, ?_, justRegs_outsClearCounts s⟩
  · have hhigh : ∀ o ∈ outsCounters, 0x230000 ≤ o := by decide
    refine (hfold _ _ o (hhigh o ho)).trans ?_
    exact rd_wf_resetRegs_mem s.outsAccepted (by decide) _ _ _ ho
  · refine (bitOf_of_rd (hfold _ _ _ (by decide)) 1).trans ?_
    refine (bitOf_of_rd ((rd_wf_other _ (by decide) ..).trans (rd_resetRegs_other _ (by decide))) 1).trans ?_
    exact bitOf_clrBit_same s _ 1 (by decide)
  · exact (rf_of_rd (hfold _ _ _ (by decide)) _ _).trans (rf_wf_same _ _ _ _ _ (by decide) (by decide))

/-- The extremes of scheduler class `c` start again from the present values (R216). -/
def schedRestartPeaks (s : State) (c : Nat) : State :=
  ((s.wf (Reg.SCHED_CLASS c) 31 16 (s.rf (Reg.SCHED_CLASS c) 15 0)).wf (Reg.SCHED_CLASS c + 8) 25 16 (s.rf (Reg.SCHED_CLASS c + 8) 9 0)).wf
    (Reg.SCHED_CLASS c + 12) 31 16 (s.rf (Reg.SCHED_CLASS c + 12) 15 0)

theorem justRegs_schedRestartPeaks (s : State) (c : Nat) : s.JustRegs (s.schedRestartPeaks c) :=
  ((justRegs_wf ..).trans (justRegs_wf ..)).trans (justRegs_wf ..)

theorem rd_schedRestartPeaks_other (s : State) {c o : Nat}
    (h : o ≠ Reg.SCHED_CLASS c ∧ o ≠ Reg.SCHED_CLASS c + 8 ∧ o ≠ Reg.SCHED_CLASS c + 12) : (s.schedRestartPeaks c).rd o = s.rd o := by
  obtain ⟨hready, hload, hspill⟩ := h
  exact (rd_wf_other _ hspill ..).trans ((rd_wf_other _ hload ..).trans (rd_wf_other _ hready ..))

/-- The class's own word: the peak field takes the present one, which stays. -/
theorem rd_schedRestartPeaks_class (s : State) (c : Nat) : (s.schedRestartPeaks c).rd (Reg.SCHED_CLASS c) =
    (s.wf (Reg.SCHED_CLASS c) 31 16 (s.rf (Reg.SCHED_CLASS c) 15 0)).rd (Reg.SCHED_CLASS c) :=
  (rd_wf_other _ (by simp) ..).trans (rd_wf_other _ (by simp) ..)

theorem rf_schedRestartPeaks_peak (s : State) (c : Nat) :
    (s.schedRestartPeaks c).rf (Reg.SCHED_CLASS c) 31 16 = s.rf (Reg.SCHED_CLASS c) 15 0 :=
  (rf_of_rd (rd_schedRestartPeaks_class s c) _ _).trans (rf_wf_copy _ s (by decide) (by decide) rfl)

theorem rf_schedRestartPeaks_now (s : State) (a c : Nat) :
    (s.schedRestartPeaks a).rf (Reg.SCHED_CLASS c) 15 0 = s.rf (Reg.SCHED_CLASS c) 15 0 := by
  by_cases h : c = a
  · subst h
    exact (rf_of_rd (rd_schedRestartPeaks_class s c) _ _).trans (rf_wf_below _ _ _ _ _ _ _ (by decide) (by decide) (by decide))
  · exact rf_of_rd (rd_schedRestartPeaks_other s (by simp only [Reg.SCHED_CLASS]; omega)) _ _

theorem justRegs_schedClearCounts (s : State) : s.JustRegs (s.schedClearCounts) :=
  (justRegs_resetRegs s _).trans (justRegs_over justRegs_schedRestartPeaks _ _)

/-- SCHED: the counters are back at reset and each class's READY_PEAK is the present READY_NOW (R216). -/
theorem schedClearCounts_spec (s : State) :
    (∀ o ∈ schedCounters, s.schedClearCounts.rd o = resetValue s.dev o) ∧
    (∀ c < 6, s.schedClearCounts.rf (Reg.SCHED_CLASS c) 31 16 = s.rf (Reg.SCHED_CLASS c) 15 0) ∧ s.JustRegs s.schedClearCounts := by
  have hlow : ∀ o ∈ schedCounters, o < 0x60100 := by decide
  refine ⟨fun o ho => ?_, fun c hc => ?_, justRegs_schedClearCounts s⟩
  · refine (rd_over_other (f := schedRestartPeaks) (fun t c _ => rd_schedRestartPeaks_other t ?_) _).trans ?_
    · have := hlow o ho
      simp only [Reg.SCHED_CLASS]; omega
    · exact rd_resetRegs_mem s (List.mem_append_left _ ho)
  · refine over_each (f := schedRestartPeaks) (fun t => ∀ c, t.rf (Reg.SCHED_CLASS c) 15 0 = s.rf (Reg.SCHED_CLASS c) 15 0)
      (fun c t => t.rf (Reg.SCHED_CLASS c) 31 16 = s.rf (Reg.SCHED_CLASS c) 15 0)
      (fun t a ht c => (rf_schedRestartPeaks_now t a c).trans (ht c))
      (fun t a ht => (rf_schedRestartPeaks_peak t a).trans (ht a))
      (fun t a b hb ht => (rf_of_rd (rd_schedRestartPeaks_other t ?_) _ _).trans ht)
      (fun c => rf_of_rd (rd_resetRegs_other s ?_) _ _) (List.mem_range.mpr hc)
    · simp only [Reg.SCHED_CLASS]; omega
    · rw [List.mem_append, not_or]
      refine ⟨fun h => Nat.not_lt.mpr (Nat.le_add_right _ _) (hlow _ h), fun h => ?_⟩
      obtain ⟨k, _, hk⟩ := List.mem_map.mp h
      simp only [Reg.SCHED_CLASS] at hk
      omega

/-- A register at its reset value stays there through every list of resets. -/
theorem rd_over_resetRegs_of_reset {α : Type} (g : α → List Nat) (l : List α) {o : Nat} (h : s.rd o = resetValue s.dev o) :
    (s.over l fun t a => t.resetRegs (g a)).rd o = resetValue s.dev o := by
  induction l generalizing s with
  | nil => exact h
  | cons a l ih => rw [over_cons, ih, resetRegs_dev]; rw [resetRegs_dev]; exact rd_resetRegs_of_reset s _ h

theorem rd_over_resetRegs_mem {α : Type} (g : α → List Nat) {l : List α} {a : α} (ha : a ∈ l) {o : Nat} (ho : o ∈ g a) :
    (s.over l fun t a => t.resetRegs (g a)).rd o = resetValue s.dev o := by
  induction l generalizing s with
  | nil => nomatch ha
  | cons b l ih =>
    rw [over_cons, ← resetRegs_dev s (g b)]
    obtain rfl | ha := List.mem_cons.mp ha
    · exact rd_over_resetRegs_of_reset g l (by rw [resetRegs_dev]; exact rd_resetRegs_mem s ho)
    · exact ih ha

theorem omdClearCounts_eq (s : State) : s.omdClearCounts =
    ((s.clrBit Reg.OMD_STATUS 1).resetRegs ((List.range 9).map fun k => 0x200020 + 4 * k)).over (List.range s.dev.part.objects)
      fun t n => t.resetRegs (objCounters n) := rfl

theorem justRegs_omdClearCounts (s : State) : s.JustRegs (s.omdClearCounts) :=
  ((justRegs_wf s ..).trans (justRegs_resetRegs _ _)).trans (justRegs_over (fun t _ => justRegs_resetRegs t _) _ _)

/-- OMD: the counters of the receiver and of every object are back at reset, and the refusal bit is clear (R122, R123). -/
theorem omdClearCounts_spec (s : State) :
    (∀ k < 9, s.omdClearCounts.rd (0x200020 + 4 * k) = resetValue s.dev (0x200020 + 4 * k)) ∧
    s.omdClearCounts.bitOf Reg.OMD_STATUS 1 = false ∧
    (∀ n < s.dev.part.objects, ∀ o ∈ objCounters n, s.omdClearCounts.rd o = resetValue s.dev o) ∧ s.JustRegs s.omdClearCounts := by
  refine ⟨fun k hk => ?_, ?_, fun n hn o ho => ?_, justRegs_omdClearCounts s⟩ <;> rw [omdClearCounts_eq]
  · have hmem : 0x200020 + 4 * k ∈ (List.range 9).map fun k => 0x200020 + 4 * k := List.mem_map.mpr ⟨k, List.mem_range.mpr hk, rfl⟩
    rw [rd_over_resetRegs_of_reset, resetRegs_dev, clrBit_dev]
    rw [resetRegs_dev]; exact rd_resetRegs_mem _ hmem
  · have hfold : ∀ n, Reg.OMD_STATUS ∉ objCounters n := fun n => by
      simp [objCounters, Reg.OMD_STATUS, Reg.OBJ_LATE_COUNT, Reg.OBJ_EXTRAP_COUNT, Reg.OBJ_OVERFLOW_COUNT, Reg.OBJ_DROP_COUNT]
      omega
    rw [bitOf_of_rd (rd_over_other (fun t n _ => rd_resetRegs_other t (hfold n)) _), bitOf_of_rd (rd_resetRegs_other _ (by decide)),
      bitOf_clrBit_same s _ 1 (by decide)]
  · rw [rd_over_resetRegs_mem objCounters (List.mem_range.mpr hn) ho, resetRegs_dev, clrBit_dev]

theorem justRegs_condClearCounts (s : State) : s.JustRegs (s.condClearCounts) :=
  (justRegs_wf s ..).trans (justRegs_over (fun _ _ => justRegs_wf ..) _ _)

/-- COND: CLIP_COUNT of every channel and the refusal bit are zero (R91, R93). -/
theorem condClearCounts_spec (s : State) :
    (∀ n ∈ s.cond.ch.map (·.1), s.condClearCounts.rf (Reg.CH_STATUS n) 31 16 = 0) ∧
    s.condClearCounts.bitOf Reg.COND_STATUS 1 = false ∧ s.JustRegs s.condClearCounts := by
  refine ⟨fun n hn => ?_, ?_, justRegs_condClearCounts s⟩
  · refine over_each (fun _ => True) (fun n t => t.rf (Reg.CH_STATUS n) 31 16 = 0) (fun _ _ h => h)
      (fun t n _ => rf_wf_same _ _ _ _ _ (by decide) (by decide)) (fun t n m hm ht => ?_) trivial hn
    exact (rf_of_rd (rd_wf_other t (by simp only [Reg.CH_STATUS]; omega) ..) _ _).trans ht
  · refine (bitOf_of_rd (rd_over_other (fun t n _ => rd_wf_other t ?_ ..) _) 1).trans (bitOf_clrBit_same s _ 1 (by decide))
    simp only [Reg.COND_STATUS, Reg.CH_STATUS]; omega

end State

end Sys2Proof.Machine

namespace Sys2Proof.Proofs

open Sys2Proof.Machine Sys2Proof.Machine.State

/-- Settles O21. A unit without extremes resets its list of counters, after clearing its refusal bit where it has one; a unit with
extremes is given by its own lemma. -/
theorem clearCountsReturnsCountersToReset : Obligations.ClearCountsReturnsCountersToReset := by
  refine ⟨fun s => ⟨?_, ?_, ?_, ?_, fun _ => ?_, fun _ => ?_, fun _ => ?_, fun _ => ?_, fun _ => ?_, fun m h => ?_, fun n h => ?_, ?_, ?_,
    fun h => ?_, fun h => ?_, fun h hi => ?_⟩, fun s => ⟨?_, ?_, fun key h => ?_, fun n h => ?_, fun p h => ?_, ?_, fun n h => ?_,
    fun j h => ?_, ?_, ?_, ?_, fun _ => ?_⟩⟩
  iterate 9 exact completes_cleared rfl (resetRegs_cleared s _)
  · exact completes_cleared (answer_unit_present _ _ h) (resetRegs_cleared s _)
  · exact completes_cleared (answer_unit_present _ _ (decide_eq_true h)) (casClearCounts_of_lt h ▸ resetRegs_cleared s _)
  · exact completes_cleared rfl (resetRegs_clrBit_cleared s _ 9 _)
  · exact completes_cleared rfl (resetRegs_clrBit_cleared s _ 1 _)
  · exact completes_cleared (answer_unit_present _ _ h) (resetRegs_clrBit_cleared s _ 1 _)
  · exact completes_cleared (answer_unit_present _ _ h) (hedgeClearCounts_of_has h ▸ resetRegs_clrBit_cleared s _ 16 _)
  · exact completes_cleared (answer_unit_present _ _ h) (storeClearCounts_of_idle hi ▸ resetRegs_clrBit_cleared s _ 4 _)
  · exact completes_of_justRegs rfl (justRegs_skeinClearCounts s) (skeinClearCounts_spec s)
  · exact completes_of_justRegs rfl (justRegs_clkClearCounts s) (clkClearCounts_spec s)
  · exact ⟨s, exec_clkClearCounts_wrong_key s h, rfl⟩
  · exact completes_of_justRegs (answer_unit_present _ _ (decide_eq_true h)) (justRegs_dramClearCounts s n) (dramClearCounts_spec s n)
  · exact completes_of_justRegs (answer_unit_present _ _ (decide_eq_true h)) (justRegs_tileClearCounts s p) (tileClearCounts_spec s p)
  · exact completes_of_justRegs rfl (justRegs_rndrClearCounts s) (rndrClearCounts_spec s)
  · exact completes_of_justRegs (answer_unit_present _ _ (decide_eq_true h)) (justRegs_ndlClearCounts s n) (ndlClearCounts_spec s n)
  · exact completes_of_justRegs (answer_unit_present _ _ h) (justRegs_spkClearCounts s j) (spkClearCounts_spec s j)
  · exact completes_of_justRegs rfl (justRegs_outsClearCounts s) (outsClearCounts_spec s)
  · exact completes_of_justRegs rfl (justRegs_schedClearCounts s) (schedClearCounts_spec s)
  · exact completes_of_justRegs rfl (justRegs_omdClearCounts s) (omdClearCounts_spec s)
  · exact completes_of_justRegs rfl (justRegs_condClearCounts s) (condClearCounts_spec s)

end Sys2Proof.Proofs

/-! Object metadata: packets (R98 to R102), OSC (R103, R104), pushes (R121) and the commands on queues and senders (R102, R122). -/

namespace Sys2Proof.Machine

/-! ### Association lists under a filter -/

/-- Storing under a key that a filter never passes leaves the filtered list alone. -/
theorem Assoc.filter_put {α : Type} {p : Nat × α → Bool} {k : Nat} (hp : ∀ v, p (k, v) = false) (v : α) (l : List (Nat × α)) :
    (Assoc.put k v l).filter p = l.filter p := by
  induction l with
  | nil => exact List.filter_cons_of_neg (by rw [hp]; decide)
  | cons e r ih =>
    obtain ⟨a, w⟩ := e
    simp only [Assoc.put]
    split
    · next h => subst h; simp only [List.filter_cons, hp, Bool.false_eq_true, if_false]
    · split
      · exact List.filter_cons_of_neg (by rw [hp]; decide)
      · simp only [List.filter_cons, ih]

/-- Deleting such a key leaves it alone too. -/
theorem Assoc.filter_del {α : Type} {p : Nat × α → Bool} {k : Nat} (hp : ∀ v, p (k, v) = false) (l : List (Nat × α)) :
    (Assoc.del k l).filter p = l.filter p := by
  induction l with
  | nil => rfl
  | cons e r ih =>
    obtain ⟨a, w⟩ := e
    simp only [Assoc.del]
    split
    · next h => subst h; exact ih.trans (List.filter_cons_of_neg (by rw [hp]; decide)).symm
    · simp only [List.filter_cons, ih]

namespace State

variable {s t u : State}

/-! ### The answer of a metadata command -/

/-- What a metadata command answers of `t`: its registers, event timers, object unit and cascade unit. -/
def withMetadata (s t : State) : State := { s with regs := t.regs, evt := t.evt, omd := t.omd, cas := t.cas }

theorem completes_withMetadata {c : Instr} {P : State → Prop} (he : exec c s = .next (s.withMetadata u)) (hu : u = t)
    (hp : P (s.withMetadata t)) : Completes c s P := ⟨s.withMetadata t, hu ▸ he, hp⟩

/-- A metadata command whose effect is on registers alone answers its effect. -/
theorem completes_metadata_of_justRegs {c : Instr} {P : State → Prop} (he : exec c s = .next (s.withMetadata u)) (hu : u = t)
    (hj : s.JustRegs t) (hp : P t) : Completes c s P := by
  have hanswer : s.withMetadata t = t := by
    unfold JustRegs at hj
    rw [hj]; rfl
  exact completes_withMetadata he hu (hanswer.symm ▸ hp)

/-! ### Counters of packets and entries -/

/-- One more event in a counter, and nothing else. -/
theorem completes_of_count {c : Instr} {o : Nat} (he : exec c s = .next (s.withMetadata u)) (hu : u = s.count o) :
    Completes c s fun t => t.counter o = s.counterAfter o 1 ∧ s.RegsKept t [o] ∧ s.JustRegs t :=
  have hj : s.JustRegs (s.count o) := justRegs_wr ..
  completes_metadata_of_justRegs he hu hj ⟨counter_count s o, fun _ h => rd_count_other s (List.ne_of_not_mem_cons h), hj⟩

/-- Two different counters that count, and nothing else. -/
theorem completes_of_countBoth {c : Instr} {o m p n : Nat} (he : exec c s = .next (s.withMetadata u))
    (hu : u = (s.countBy o m).countBy p n) (h : o ≠ p) :
    Completes c s fun t =>
      t.counter o = s.counterAfter o m ∧ t.counter p = s.counterAfter p n ∧ s.RegsKept t [o, p] ∧ s.JustRegs t := by
  have hj : s.JustRegs ((s.countBy o m).countBy p n) := (justRegs_wr ..).trans (justRegs_wr ..)
  refine completes_metadata_of_justRegs he hu hj ⟨?_, ?_, fun q hq => ?_, hj⟩
  · rw [counter_of_rd (rd_countBy_other _ h n), counter_countBy]
  · rw [counter_countBy, counterAfter, counterAfter, counter_of_rd (rd_countBy_other s h.symm m)]
  · rw [List.mem_cons, List.mem_singleton, not_or] at hq
    rw [rd_countBy_other _ hq.2, rd_countBy_other _ hq.1]

/-! ### Metadata packets: R98 to R102 -/

/-- Switched on, the receiver tests a packet's version, target and format, and then its number by its sender's window (R100, R102). -/
theorem fomPacket_on {src port c : Nat} {b : List Byte} (hon : s.bitOf Reg.OMD_CTRL 0 = true) :
    s.fomPacket src port c b =
      if ¬beNat b 0 1 = 1 then s.count Reg.OMD_DROP_VERSION
      else if ¬(beNat b 4 2 = 0xFFFF ∨ beNat b 4 2 = s.cascadeId) then s.count Reg.OMD_DROP_TARGET
      else if ¬(b.length = 16 + 48 * beNat b 12 2 ∧ 1 ≤ beNat b 12 2 ∧ beNat b 12 2 ≤ 186) then s.count Reg.OMD_DROP_FORMAT
      else if (s.senderTake src port (beNat b 8 4) c).2 then
        ((s.senderTake src port (beNat b 8 4) c).1.count Reg.OMD_RX_PACKETS).fomEntries c b
      else (s.senderTake src port (beNat b 8 4) c).1.count Reg.OMD_DROP_SEQUENCE := by
  have hformat : (b.length ≠ 16 + 48 * beNat b 12 2 ∨ beNat b 12 2 < 1 ∨ 186 < beNat b 12 2) ↔
      ¬(b.length = 16 + 48 * beNat b 12 2 ∧ 1 ≤ beNat b 12 2 ∧ beNat b 12 2 ≤ 186) := by omega
  refine (if_neg (by rw [hon]; decide)).trans (if_congr Iff.rfl rfl (if_congr not_or.symm rfl (if_congr hformat rfl ?_)))
  generalize s.senderTake src port (beNat b 8 4) c = r
  obtain ⟨u, _ | _⟩ := r <;> rfl

/-! ### Entries: R100, R105 -/

/-- The object takes no entry: it is absent, outside every committed group, or its metadata is imported (R100, R409). -/
abbrev EntryRefused (s : State) (n : Nat) : Prop := s.dev.part.objects ≤ n ∨ (!s.inGroup n) = true ∨ s.metaImported n = true

theorem not_entryRefused {n : Nat} (hn : n < s.dev.part.objects) (hgroup : s.inGroup n = true) (himport : s.metaImported n = false) :
    ¬s.EntryRefused n :=
  not_or.mpr ⟨Nat.not_le.mpr hn, not_or.mpr ⟨by rw [hgroup]; decide, by rw [himport]; decide⟩⟩

/-- An entry is dropped where its object is refused or its nanosecond field is out of range, and otherwise queued (R100, R105). -/
theorem takeEntry_eq (s : State) (c : Nat) (e : RawEntry) (replace : Bool) : s.takeEntry c e replace =
    if s.EntryRefused e.obj then s.count Reg.OMD_DROP_OBJECT
    else if 999999999 < e.nanos then (s.count Reg.OMD_DROP_FORMAT).count (Reg.OBJ_DROP_COUNT e.obj)
    else s.queueEntry e.obj c { e.fields with t := s.resolveSeconds e.seconds * 3000000000 + 3 * e.nanos } replace := rfl

/-! ### OSC packets: R103, R104 -/

/-- An OSC packet's messages, the mapped and the dropped ones, are counted (R104). -/
def countOsc (s : State) (b : List Byte) : State :=
  (s.countBy Reg.OMD_OSC_MESSAGES ((oscElements 8 0 none b).filter fun e => e.2.isSome).length).countBy
    Reg.OMD_OSC_DROPPED ((oscElements 8 0 none b).filter fun e => e.2.isNone).length

/-- The entry of an object's messages under one time tag is queued, at once where the tag gives no time (R104). -/
def queueOsc (s : State) (c : Nat) (tag : Option Nat) (n : Nat) (e : MetaEntry) : State :=
  match s.oscTime tag with
  | none => s.queueEntry n c { e with flags := e.flags + 32 } false
  | some v => s.queueEntry n c { e with t := v } false

/-- Switched on and with a port, the unit counts the messages and then drops or queues the merged entries one by one (R104). -/
theorem oscPacket_on {c : Nat} {b : List Byte} (hon : s.bitOf Reg.OMD_CTRL 2 = true) (hport : s.rf Reg.OMD_OSC_CFG 15 0 ≠ 0) :
    s.oscPacket c b = (s.countOsc b).over (oscMerge (oscElements 8 0 none b) []) fun t x =>
      if t.EntryRefused x.2.1 then t.count Reg.OMD_DROP_OBJECT else t.queueOsc c x.1 x.2.1 x.2.2 :=
  if_neg (by simp only [hon, beq_false_of_ne hport]; decide)

/-- A register that holds an enabled IMPORT entry (R407). -/
def isImport (e : Nat × Word) : Bool := decide (Reg.CAS_IMPORT 0 ≤ e.1) && decide (e.1 < Reg.CAS_IMPORT 1024) && bitAt e.2 31

/-- Only a write of an IMPORT register changes which objects take imported metadata (R409). -/
theorem metaImported_wr_other (s : State) {o : Nat} (h : o < Reg.CAS_IMPORT 0 ∨ Reg.CAS_IMPORT 1024 ≤ o) (v : Word) (n : Nat) :
    (s.wr o v).metaImported n = s.metaImported n := by
  have hout (w : Word) : isImport (o, w) = false := by
    show (decide (Reg.CAS_IMPORT 0 ≤ o) && decide (o < Reg.CAS_IMPORT 1024) && bitAt w 31) = false
    rw [← Bool.decide_and, decide_eq_false (by omega), Bool.false_and]
  have hregs : (s.wr o v).regs.filter isImport = s.regs.filter isImport := by
    show List.filter isImport (if v = resetValue s.dev o then _ else _) = _
    split
    · exact Assoc.filter_del hout s.regs
    · exact Assoc.filter_put hout v s.regs
  have himports : (s.wr o v).imports = s.imports := congrArg (List.map _) hregs
  exact congrArg (List.any · _) himports

/-- Counting an OSC packet's messages changes nothing about the objects that take entries. -/
theorem countOsc_entryRefused (s : State) (b : List Byte) (n : Nat) : (s.countOsc b).EntryRefused n ↔ s.EntryRefused n := by
  have hgroup : (s.countOsc b).inGroup n = s.inGroup n := bitOf_of_rd
    ((rd_countBy_other _ (by simp only [Reg.OBJ_STATUS, Reg.OMD_OSC_DROPPED]; omega) _).trans
      (rd_countBy_other s (by simp only [Reg.OBJ_STATUS, Reg.OMD_OSC_MESSAGES]; omega) _)) 4
  have himport : (s.countOsc b).metaImported n = s.metaImported n :=
    (metaImported_wr_other _ (by decide) _ n).trans (metaImported_wr_other s (by decide) _ n)
  exact or_congr Iff.rfl (or_congr (by rw [hgroup]) (by rw [himport]))

/-! ### FLUSH_ALL and RESET_SENDERS: R102, R122 -/

/-- The step of FLUSH_ALL on one object: its queue is emptied and its fill in STATUS is zero (R122). -/
def flushObj (s : State) (n : Nat) : State := (s.setObj n { s.obj n with queue := [] }).wf (Reg.OBJ_STATUS n) 14 10 0

theorem flushAll_frame (s : State) :
    s.flushAll = { s with regs := s.flushAll.regs, omd := { s.omd with obj := s.flushAll.omd.obj } } := by
  refine over_induct (fun t : State => t = { s with regs := t.regs, omd := { s.omd with obj := t.omd.obj } }) flushObj _
    (fun t n _ ht => ?_) rfl
  rw [ht]; rfl

/-- The object has nothing queued, and its STATUS says so. -/
def Flushed (n : Nat) (t : State) : Prop := (t.obj n).queue = [] ∧ t.rf (Reg.OBJ_STATUS n) 14 10 = 0

/-- FLUSH_ALL empties the queue of every object that has one (R122). -/
theorem flushAll_flushed (s : State) {n : Nat} (h : n ∈ s.omd.obj.map (·.1)) : Flushed n s.flushAll := by
  refine over_each (fun _ => True) Flushed (f := flushObj) (fun _ _ h => h) (fun t n _ => ⟨?_, ?_⟩) (fun t n m hne hn => ⟨?_, ?_⟩)
    trivial h
  · exact congrArg (fun x : Option ObjState => (x.getD {}).queue) (Assoc.get?_put_same ..)
  · exact rf_wf_same _ _ _ _ _ (by decide) (by decide)
  · exact (congrArg (fun x : Option ObjState => (x.getD {}).queue) (Assoc.get?_put_other hne.symm ..)).trans hn.1
  · exact (rf_of_rd (rd_wf_other _ (by simp only [Reg.OBJ_STATUS]; omega) ..) 14 10).trans hn.2

theorem resetSenders_spec (s : State) :
    s.resetSenders.omd = { s.omd with senders := [] } ∧ s.resetSenders.rf Reg.OMD_STATUS 21 16 = 0 ∧
    s.RegsKept s.resetSenders [Reg.OMD_STATUS] := by
  have heq : s.resetSenders = wf { s.omdAccepted with omd := { s.omd with senders := [] } } Reg.OMD_STATUS 21 16 0 := rfl
  rw [heq]
  refine ⟨rfl, rf_wf_same _ _ _ _ _ (by decide) (by decide), fun o ho => ?_⟩
  have hne := List.ne_of_not_mem_cons ho
  rw [rd_wf_other _ hne]
  exact rd_clrBit_other s hne 1

end State

end Sys2Proof.Machine

namespace Sys2Proof.Proofs

open Sys2Proof.Machine Sys2Proof.Machine.State

/-- Settles O19. The tests of a metadata packet are taken in the order of R100, an OSC packet by the entries its messages merge
into, and the two commands by what they leave of queues and senders. -/
theorem objectPacketsAndOscAreTaken : Obligations.ObjectPacketsAndOscAreTaken := by
  refine ⟨fun s src port sub b => ⟨fun hoff => ?_, fun hon => ?_⟩, fun s sub b => ⟨fun hoff => ?_, fun hon hport hm => ?_,
    fun tag n e hon hport hm hn hgroup himport => ?_, ?_, ?_⟩⟩
  · exact completes_metadata_of_justRegs (u := s.fomPacket ..) rfl (if_pos (by rw [hoff]; decide)) (.refl s) rfl
  · have hp := fomPacket_on (src := src) (port := port) (c := s.instant sub) (b := b) hon
    refine ⟨fun hv => ?_, fun hv ht => ?_, fun hv ht hf => ?_, fun u hv ht hf => ?_⟩
    · exact completes_of_count rfl (hp.trans (if_pos hv))
    · rw [if_neg (not_not.mpr hv)] at hp
      exact completes_of_count rfl (hp.trans (if_pos ht))
    · rw [if_neg (not_not.mpr hv), if_neg (not_not.mpr ht)] at hp
      exact completes_of_count rfl (hp.trans (if_pos hf))
    · rw [if_neg (not_not.mpr hv), if_neg (not_not.mpr ht), if_neg (not_not.mpr hf)] at hp
      refine ⟨fun hseq => ?_, fun hseq => ?_⟩
      · rw [hseq, if_neg Bool.false_ne_true] at hp
        exact completes_withMetadata rfl hp ⟨rfl, rfl⟩
      · rw [hseq, if_pos rfl] at hp
        exact completes_withMetadata rfl hp rfl
  · exact completes_metadata_of_justRegs (u := s.oscPacket ..) rfl
      (if_pos (by simpa only [Bool.or_eq_true, Bool.not_eq_true', beq_iff_eq] using hoff)) (.refl s) rfl
  · exact completes_of_countBoth rfl ((oscPacket_on hon hport).trans (by rw [hm]; rfl)) (by decide)
  · have htaken := mt (countOsc_entryRefused s b n).mp (not_entryRefused hn hgroup himport)
    have hp := (oscPacket_on (c := s.instant sub) hon hport).trans (by rw [hm, over_cons, over_nil, if_neg htaken])
    exact completes_withMetadata rfl hp rfl
  · have hframe := flushAll_frame s
    have hanswer : ({ s with regs := s.flushAll.regs, omd := s.flushAll.omd } : State) = s.flushAll := by rw [hframe]
    exact ⟨s.flushAll, congrArg Host.Outcome.next hanswer, fun n hn => flushAll_flushed s hn, hframe⟩
  · obtain ⟨homd, hcount, hkept⟩ := resetSenders_spec s
    exact ⟨s.resetSenders, rfl, homd, hcount, hkept, rfl⟩

/-- Settles O20. M_PUSH takes the entry made of the object's own registers, and the entry is refused, of a bad time, or queued. -/
theorem entriesAreDroppedOrQueued : Obligations.EntriesAreDroppedOrQueued := by
  intro s n hn
  have he : exec (.mPush n) s = .next (s.withMetadata (s.mPush n)) :=
    congrArg (Host.Outcome.next <| s.withMetadata ·) (unit_present s _ _ (decide_eq_true hn))
  have hpush : s.mPush n = _ := takeEntry_eq s s.now _ false
  refine ⟨fun hout => ?_, fun hgroup himport htime => ?_, fun hgroup himport htime => ?_⟩
  · exact completes_of_count he (hpush.trans (if_pos (.inr (hout.imp_left (Bool.not_eq_true' _).mpr))))
  · rw [if_neg (not_entryRefused hn hgroup himport), if_pos htime] at hpush
    exact completes_of_countBoth he hpush (by simp only [Reg.OMD_DROP_FORMAT, Reg.OBJ_DROP_COUNT]; omega)
  · rw [if_neg (not_entryRefused hn hgroup himport), if_neg (Nat.not_lt.mpr htime)] at hpush
    exact completes_withMetadata he hpush rfl

end Sys2Proof.Proofs
